-- ==== Sys2Proof/Word.lean ====
section
/-! DEFINITION. The byte type of the SPI ports and the segment links.
Spec: 10_ports_command_frames_and_rights.md (R163, R164), 06_segment_link_exchanges.md (R105). -/

namespace Sys2Proof

/-- One byte of an SPI frame or of a link frame. -/
abbrev Byte := BitVec 8

/-- The byte that carries a code, a count or an index below 256. -/
def byteOf (n : Nat) : Byte := BitVec.ofNat 8 n

@[simp] theorem byteOf_toNat (n : Nat) : (byteOf n).toNat = n % 256 := by
  simp [byteOf]

end Sys2Proof
end

