-- ==== Sys2Proof/Config.lean ====
section
/-! DEFINITION. What the device fixes once and for all: capacities, times, thresholds.
The spec leaves this device no implementation-defined value and no undefined result, so there is no
free value here: what it leaves open is either an input or the order of the blocks' parts, and both
are operands of the steps (notes/assumptions 6, 8, 9). -/

namespace Sys2Proof.Config

/-- Entries per scan list, and LIVE or RETIRING points per segment (R8, R74). -/
def segmentPoints : Nat := 96
/-- Entries per demand queue (R95). -/
def queueEntries : Nat := 8
/-- Handles of one LIST_POINTS reply (R21). -/
def listHandles : Nat := 16
/-- Views of one READ_BLOCK reply (R38). -/
def blockViews : Nat := 8
/-- The largest parameter length of a command frame (R163). -/
def maxParams : Nat := 48
/-- Saturation of ages (R35). -/
def ageMax : Nat := 65535
/-- Saturation of the 8-bit counts: cycles ended, overruns, trips, failed attempts (R63, R83, R89, R135). -/
def countMax : Nat := 255
/-- Saturation of the CHANGE and LIMIT counts of a point entry (R154). -/
def noteMax : Nat := 15
/-- Saturation of a node's consecutive failures (R121). -/
def failuresMax : Nat := 15
/-- Saturation of a link's line-fault count (R113). -/
def faultsMax : Nat := 7
/-- Saturation of the back-to-back count (R98). -/
def backToBackMax : Nat := 4

/-- The idle wait of an attempt and of a recovery, 2 ms, in µs (R108, R115). -/
def idleWaitMicros : Nat := 2000
/-- The backoff after a BUSY response, 1 ms, in µs (R110). -/
def backoffMicros : Nat := 1000

/-- Field supply thresholds in mV (R145, Table 8-4). -/
def supplyLowBelow : Nat := 18000
def supplyUnderBelow : Nat := 14000
def supplyUnderRelease : Nat := 15000
def supplyLowRelease : Nat := 19000

/-- Die temperature thresholds in thousandths of a degree Celsius (R145, Table 8-5). -/
def tempWarnAbove : Int := 130000
def tempShutdownAbove : Int := 150000
def tempRelease : Int := 115000

end Sys2Proof.Config
end

