-- ==== Sys2Proof/Syntax.lean ====
section
/-! DEFINITION. The commands and events of the device: one constructor of Instr per row of
spec/opcode_table.json, with the names they are about (ports, segments, inputs) and what the outside
settles at a step. -/

namespace Sys2Proof

/-- The two SPI target ports (R162). -/
inductive Port where
  | a | b
  deriving DecidableEq, Repr

/-- The four field segments. -/
inductive Seg where
  | s0 | s1 | s2 | s3
  deriving DecidableEq, Repr

/-- The two trigger inputs TRG0 and TRG1 (R101). -/
inductive Trg where
  | trg0 | trg1
  deriving DecidableEq, Repr

/-- One thing of a kind for each port. -/
structure PerPort (α : Type) where
  a : α
  b : α
  deriving DecidableEq, Repr

/-- One thing of a kind for each segment. -/
structure PerSeg (α : Type) where
  s0 : α
  s1 : α
  s2 : α
  s3 : α
  deriving DecidableEq, Repr

/-- One thing of a kind for each trigger input. -/
structure PerTrg (α : Type) where
  trg0 : α
  trg1 : α
  deriving DecidableEq, Repr

/-- The parts that the blocks take in one event whose order R152 leaves open: the Supply and
Temperature Monitor, and of one segment the Feed Controller, the Link Engine, the Scheduler, the Point
Table, the Output Slot logic and the Node Tracker. -/
inductive Part where
  | monitor
  | feed (g : Seg)
  | link (g : Seg)
  | sched (g : Seg)
  | points (g : Seg)
  | slots (g : Seg)
  | nodes (g : Seg)
  deriving DecidableEq, Repr

/-- What the outside and the open order settle at a step: which link pairs are idle in the sense of
R104 at that moment, and the order in which the blocks' parts are taken (R152). Parts that `order`
does not name follow in the model's own order (notes/assumptions 8, 9). -/
structure Env where
  idle : PerSeg Bool
  order : List Part
  deriving DecidableEq, Repr

/-- What a device reset samples: VFIELD in mV, the die temperature in thousandths of a degree Celsius
(R145), and the levels of the two trigger pins (R101). -/
structure Samples where
  vfield : Nat
  temp : Int
  trg0 : Bool
  trg1 : Bool
  deriving DecidableEq, Repr

/-- One character received on a link pair (R104): its data byte, its parity bit, whether the stop bit
was at the idle level, and whether the pair idled for more than 1 character time before it (R106). -/
structure RxChar where
  data : Byte
  parity : Bool
  stop : Bool
  paused : Bool
  deriving DecidableEq, Repr

/-- The two edges of the chip-select that bound a transaction (R162, R164): it falls, or it rises after so many
complete bytes. -/
inductive ChipSelect where
  | falls
  | rises (clocked : Nat)
  deriving DecidableEq, Repr

/-- The commands and events of spec/opcode_table.json. A command row is the rising chip-select of a valid frame of
Table 10-2 (R1): the calling port, the tag and the parameter bytes; FRAME_REJECTED is that of a frame that fails. FETCH
has both edges, since its rule is the one that acts on both (R164); what a transaction is shows only in its bytes, so
`falls` begins a transaction of any kind, and `rises` without a byte ends one of none (notes/assumptions/4). -/
inductive Instr where
  | noop (p : Port) (tag : Byte) (ps : List Byte)
  | readIdentity (p : Port) (tag : Byte) (ps : List Byte)
  | setSupervision (p : Port) (tag : Byte) (ps : List Byte)
  | setRights (p : Port) (tag : Byte) (ps : List Byte)
  | readRights (p : Port) (tag : Byte) (ps : List Byte)
  | resetPort (p : Port) (tag : Byte) (ps : List Byte)
  | resetDevice (p : Port) (tag : Byte) (ps : List Byte) (x : Samples)
  | unknownCommand (p : Port) (code : Byte) (tag : Byte) (ps : List Byte)
  | frameRejected (p : Port) (bytes : List Byte)
  | fetch (p : Port) (cs : ChipSelect)
  | definePoint (p : Port) (tag : Byte) (ps : List Byte)
  | retirePoint (p : Port) (tag : Byte) (ps : List Byte) (e : Env)
  | modifyPoint (p : Port) (tag : Byte) (ps : List Byte) (e : Env)
  | listPoints (p : Port) (tag : Byte) (ps : List Byte)
  | readPoint (p : Port) (tag : Byte) (ps : List Byte)
  | readBlock (p : Port) (tag : Byte) (ps : List Byte)
  | demandRead (p : Port) (tag : Byte) (ps : List Byte) (e : Env)
  | setBand (p : Port) (tag : Byte) (ps : List Byte)
  | clearBand (p : Port) (tag : Byte) (ps : List Byte)
  | setDeadband (p : Port) (tag : Byte) (ps : List Byte)
  | writePoint (p : Port) (tag : Byte) (ps : List Byte) (e : Env)
  | cancelWrite (p : Port) (tag : Byte) (ps : List Byte)
  | setSafeValue (p : Port) (tag : Byte) (ps : List Byte)
  | configureScan (p : Port) (tag : Byte) (ps : List Byte)
  | startScan (p : Port) (tag : Byte) (ps : List Byte) (e : Env)
  | stopScan (p : Port) (tag : Byte) (ps : List Byte)
  | finishScan (p : Port) (tag : Byte) (ps : List Byte)
  | fireTrigger (p : Port) (tag : Byte) (ps : List Byte) (e : Env)
  | configureTriggerInput (p : Port) (tag : Byte) (ps : List Byte)
  | configureLink (p : Port) (tag : Byte) (ps : List Byte)
  | recoverLine (p : Port) (tag : Byte) (ps : List Byte)
  | readNodes (p : Port) (tag : Byte) (ps : List Byte)
  | releaseNode (p : Port) (tag : Byte) (ps : List Byte)
  | configureTally (p : Port) (tag : Byte) (ps : List Byte)
  | readTally (p : Port) (tag : Byte) (ps : List Byte)
  | configureFeed (p : Port) (tag : Byte) (ps : List Byte)
  | feedOn (p : Port) (tag : Byte) (ps : List Byte)
  | feedOff (p : Port) (tag : Byte) (ps : List Byte) (e : Env)
  | readFeeds (p : Port) (tag : Byte) (ps : List Byte)
  | subscribe (p : Port) (tag : Byte) (ps : List Byte)
  | unsubscribe (p : Port) (tag : Byte) (ps : List Byte)
  | takeAttention (p : Port) (tag : Byte) (ps : List Byte)
  | setNoticeMask (p : Port) (tag : Byte) (ps : List Byte)
  | supervisionLapse (p : Port) (e : Env)
  | ageTick
  | staleExpiry (i : Fin 256)
  | periodBoundary (g : Seg) (e : Env)
  | deferredStart (g : Seg) (e : Env)
  | triggerInputEdge (t : Trg) (level : Bool) (e : Env)
  | requestSent (g : Seg)
  | responseStartBit (g : Seg)
  | responseWindowExpiry (g : Seg) (e : Env)
  | responseFrameEnd (g : Seg) (frame : List RxChar) (e : Env)
  | tenthCharacter (g : Seg) (e : Env)
  | backoffExpiry (g : Seg) (e : Env)
  | idleWaitLineIdle (g : Seg)
  | idleWaitExpiry (g : Seg)
  | transmitterCurrentLimit (g : Seg)
  | gapEnd (g : Seg) (e : Env)
  | recoveryExpiry (g : Seg) (e : Env)
  | recoveryLineIdle (g : Seg)
  | clampBegin (g : Seg)
  | clampEnd (g : Seg)
  | feedTrip (g : Seg) (ticks : Nat) (outputLow : Bool) (e : Env)
  | startTimerExpiry (g : Seg) (e : Env)
  | settleTimerExpiry (g : Seg) (e : Env)
  | retryTimerExpiry (g : Seg)
  | supplyLevelChange (vfield : Nat) (e : Env)
  | temperatureLevelChange (temp : Int) (e : Env)
  | vddBrownout
  | powerOn
  | resetPin
  | resetExit (x : Samples)
  deriving DecidableEq, Repr

end Sys2Proof
end

