-- ==== Sys2Proof/Machine/State.lean ====
section
/-! DEFINITION. The state of the device as plain data, its reset value, and the reasons a step can stop.
Every field is a piece of state that a chapter of the spec names; INVENTORY.md lists them with their rules. -/

namespace Sys2Proof.Machine

/-! ### Small sets and indices -/

/-- A set within Port A and Port B. -/
abbrev PortSet := PerPort Bool

/-- The index of a point record, 0–255 (R2). -/
abbrev PointIdx := Fin 256

/-- A node address 1–30, held as the address less 1 (R119). -/
abbrev NodeIdx := Fin 30

/-! ### Point records (chapters 1 to 4) -/

inductive Kind where
  | input | output
  deriving DecidableEq, Repr

/-- The life states of Table 1-2. -/
inductive Life where
  | free | live | retiring | closed
  deriving DecidableEq, Repr

/-- A point's width in bytes (R2). -/
inductive Width where
  | w1 | w2 | w4
  deriving DecidableEq, Repr

/-- The qualities of Table 2-1. -/
inductive Quality where
  | initial | good | stale | nodeLost | unpowered | refused | disagree
  deriving DecidableEq, Repr

/-- The band states of R42. -/
inductive BandState where
  | unset | below | inside | above
  deriving DecidableEq, Repr

/-- A point's limit band (R42). -/
structure Band where
  low : Int
  high : Int
  hysteresis : Nat
  state : BandState
  deriving DecidableEq, Repr

/-- A point's deadband (R48); no reference means unset. -/
structure Deadband where
  width : Nat
  reference : Option Int
  deriving DecidableEq, Repr

/-- Who placed a value in a pending slot (R53). -/
inductive Writer where
  | port (p : Port)
  | safe
  | reassert
  deriving DecidableEq, Repr

/-- A value in the pending slot, or in flight (R53). -/
structure Slot where
  value : Int
  writer : Writer
  urgent : Bool
  deriving DecidableEq, Repr

/-- A point record (R2, Table 1-1). Its index is its position in the Point Table. -/
structure Point where
  generation : Byte
  life : Life
  kind : Kind
  seg : Seg
  node : NodeIdx
  object : Fin 1024
  width : Width
  signed : Bool
  owner : Port
  group : Fin 16
  divider : Nat
  phase : Nat
  staleLimit : Nat
  age : Nat
  value : Option Int
  observed : Option Int
  quality : Quality
  verify : Bool
  band : Option Band
  deadband : Option Deadband
  slot : Option Slot
  inFlight : Option Slot
  safe : Option Int
  failed : Nat
  subs : PerPort (BitVec 4)
  demanders : PortSet
  retireSet : PortSet
  deriving DecidableEq, Repr

/-- A FREE record: every field but the generation cleared as R2 states (notes/assumptions/14). -/
def Point.cleared (generation : Byte) : Point where
  generation := generation
  life := .free
  kind := .input
  seg := .s0
  node := 0
  object := 0
  width := .w1
  signed := false
  owner := .a
  group := 0
  divider := 0
  phase := 0
  staleLimit := 0
  age := 0
  value := none
  observed := none
  quality := .initial
  verify := false
  band := none
  deadband := none
  slot := none
  inFlight := none
  safe := none
  failed := 0
  subs := ⟨0, 0⟩
  demanders := ⟨false, false⟩
  retireSet := ⟨false, false⟩

/-! ### Segment Scheduler (chapter 5) -/

/-- The scan states of Table 5-2. -/
inductive ScanState where
  | stopped | waiting | running | finishing | stopping | haltedPower | haltedLine
  deriving DecidableEq, Repr

inductive ScanMode where
  | freeRun | triggered
  deriving DecidableEq, Repr

inductive OverrunPolicy where
  | skip | cut
  deriving DecidableEq, Repr

/-- The scan configuration of Table 5-3: period in 100 µs units. -/
structure ScanCfg where
  mode : ScanMode
  period : Nat
  cycles : Nat
  trigger : Nat
  policy : OverrunPolicy
  share : Nat
  deriving DecidableEq, Repr

/-- A demand queue entry (R95). -/
structure DemandEntry where
  point : PointIdx
  ports : PortSet
  granted : Bool
  deriving DecidableEq, Repr

/-- The state of a Segment Scheduler (R73, Table 5-1). A cursor of none is END. A running timer holds its
length in µs (notes/assumptions/3). -/
structure Scheduler where
  list : List PointIdx
  cursor : Option PointIdx
  scan : ScanState
  cfg : ScanCfg
  cyclesEnded : Nat
  overruns : Nat
  cut : Bool
  deferred : Bool
  periodTimer : Option Nat
  queue : List DemandEntry
  backToBack : Nat
  cycleMark : Bool
  deriving DecidableEq, Repr

/-! ### Segment Link Engine (chapter 6) -/

inductive BitRate where
  | k62 | k125 | k250 | k500
  deriving DecidableEq, Repr

inductive RecoveryTime where
  | ms50 | ms100 | ms200 | ms500
  deriving DecidableEq, Repr

/-- The link configuration of Table 6-4: response window in 100 µs units. -/
structure LinkCfg where
  bitRate : BitRate
  window : Nat
  retries : Nat
  faultLimit : Nat
  recovery : RecoveryTime
  lostLimit : Nat
  deriving DecidableEq, Repr

/-- The function of a request (Table 6-4a). -/
inductive Func where
  | read | write
  deriving DecidableEq, Repr

/-- Whether a grant came from a visit or from the demand queue (R78). -/
inductive GrantKind where
  | scan | demand
  deriving DecidableEq, Repr

/-- The results of an attempt (R106, R109). -/
inductive AttemptResult where
  | accepted | busy | noObject | badLength | readOnly | noResponse | checkError
  deriving DecidableEq, Repr

/-- The outcomes of an exchange (Table 6-5). -/
inductive ExchangeOutcome where
  | ok | refused | failed | deferred | lineFault | abandoned
  deriving DecidableEq, Repr

/-- The exchange record (R107). -/
structure Exchange where
  target : PointIdx
  node : NodeIdx
  object : Fin 1024
  width : Width
  func : Func
  data : Option Int
  kind : GrantKind
  request : List Byte
  attempts : Nat
  last : Option AttemptResult
  deriving DecidableEq, Repr

/-- The sub-phases of BUSY (R103). -/
inductive SubPhase where
  | sending | awaiting | receiving | backoff
  deriving DecidableEq, Repr

/-- The link states of Table 6-2. The sub-phase and the exchange record are present exactly while the
link is BUSY (R103), so they stand inside that state. -/
inductive LinkState where
  | off
  | ready
  | busy (sub : SubPhase) (x : Exchange)
  | gap
  | recovering
  | lineDown
  deriving DecidableEq, Repr

/-- The state of a Segment Link Engine (R103, Table 6-1). A running timer holds its length in µs. -/
structure Link where
  state : LinkState
  faults : Nat
  cfg : LinkCfg
  windowTimer : Option Nat
  backoffTimer : Option Nat
  idleTimer : Option Nat
  gapTimer : Option Nat
  recoveryTimer : Option Nat
  deriving DecidableEq, Repr

/-! ### Node Tracker (chapter 7) -/

/-- The node states of Table 7-2. -/
inductive NodeState where
  | idle | unknown | online | suspect | lost
  deriving DecidableEq, Repr

/-- A node record (R119, Table 7-1). -/
structure NodeRec where
  state : NodeState
  refs : Nat
  failures : Nat
  probe : Bool
  deriving DecidableEq, Repr

/-- The tally events of Table 7-4. -/
inductive TallyEvent where
  | exchangesOk | retries | noResponse | checkErrors | busyReplies | refusals | lineFaults | overruns
  | demandExchanges | writesDelivered
  deriving DecidableEq, Repr

/-- A tally counter (R129, Table 7-3): filter 0 for all nodes, or an address 1–30. -/
structure Tally where
  event : TallyEvent
  filter : Nat
  count : BitVec 16
  deriving DecidableEq, Repr

/-! ### Feed Controller (chapter 8) -/

/-- The feed states of Table 8-2. -/
inductive FeedState where
  | off | starting | settling | on | tripped | latched | forcedOff
  deriving DecidableEq, Repr

inductive CurrentLimit where
  | ma250 | ma500 | ma750 | ma1000
  deriving DecidableEq, Repr

inductive Blanking where
  | ms5 | ms15 | ms50 | ms150
  deriving DecidableEq, Repr

inductive Retry where
  | latch | ms500 | ms2000 | ms10000
  deriving DecidableEq, Repr

/-- The feed configuration of Table 8-3: settle time in ms. -/
structure FeedCfg where
  limit : CurrentLimit
  blanking : Blanking
  doubleStart : Bool
  fastShort : Bool
  retry : Retry
  settle : Nat
  deriving DecidableEq, Repr

/-- The state of a Feed Controller (R133, Table 8-1). -/
structure Feed where
  state : FeedState
  enable : Bool
  cfg : FeedCfg
  clamping : Bool
  clampTimer : Bool
  startTimer : Option Nat
  settleTimer : Option Nat
  retryTimer : Option Nat
  trips : Nat
  deriving DecidableEq, Repr

/-- Everything one segment holds. -/
structure Segment where
  sched : Scheduler
  link : Link
  nodes : Vector NodeRec 30
  tally0 : Tally
  tally1 : Tally
  feed : Feed
  deriving DecidableEq, Repr

/-- The field supply levels of Table 8-4. -/
inductive SupplyLevel where
  | normal | low | under
  deriving DecidableEq, Repr

/-- The temperature levels of Table 8-5. -/
inductive TempLevel where
  | normal | warn | shutdown
  deriving DecidableEq, Repr

/-- A trigger input (R101, R102): no value means NONE; level true is high. -/
structure TriggerInput where
  value : Option (Fin 16)
  falling : Bool
  levelModel : Bool
  level : Bool
  held : Bool
  deriving DecidableEq, Repr

/-! ### Notice Unit and Port Units (chapters 9 and 10) -/

/-- The write results of Table 4-3. -/
inductive WriteResult where
  | delivered | refused | superseded | cancelled | delayed
  deriving DecidableEq, Repr

/-- The DEMAND outcomes of R40. -/
inductive DemandOutcome where
  | completed | failed | abandoned
  deriving DecidableEq, Repr

/-- The contents of a point entry (R152). CHANGE is in its reason set while its count is not 0, LIMIT
likewise, WRITE and DEMAND while a last result or outcome is present. -/
structure PointNote where
  changes : Nat
  limits : Nat
  quality : Bool
  write : Option (WriteResult × Writer)
  demand : Option DemandOutcome
  retired : Bool
  deriving DecidableEq, Repr

/-- The contents of a segment entry (R152). OVERRUN is in its reason set while its count is not 0, NODE
while an address is in the set, TALLY while a counter is in the wrap set. -/
structure SegNote where
  feed : Bool
  scanEnded : Bool
  overruns : Nat
  line : Bool
  nodes : BitVec 30
  wrap0 : Bool
  wrap1 : Bool
  deriving DecidableEq, Repr

/-- The contents of the device entry: the reasons in the bits of the device mask (R157). -/
abbrev DevNote := BitVec 5

/-- An entry of an attention list (R152). -/
inductive Entry where
  | point (i : PointIdx) (generation : Byte) (n : PointNote)
  | segment (g : Seg) (n : SegNote)
  | device (n : DevNote)
  deriving DecidableEq, Repr

/-- The result codes of Table 10-4. -/
inductive Result where
  | ok | frameRejected | noReply | unknownCommand | badParameter | staleHandle | noRight | wrongKind
  | duplicate | tableFull | segmentFull | queueFull | notPowered | busyState | nothingPending
  | lastAuthority
  deriving DecidableEq, Repr

/-- A reply in a reply slot (Table 10-3). -/
structure Reply where
  tag : Byte
  code : Byte
  result : Result
  data : List Byte
  deriving DecidableEq, Repr

/-- A port's chip-select, active low: high, low in a transaction that the port takes, with the status byte and the
reply slot as the chip-select fell (R162, R164), or low in one that the port ignores to its end (R174). -/
inductive Selection where
  | high
  | low (status : Byte) (reply : Option Reply)
  | ignored
  deriving DecidableEq, Repr

/-- What one port holds: its Port Unit (R162, Table 10-1), its attention list and notice settings (R152,
R157), its rights (R166). `select` is the transaction in progress (R162, R164, R174). `miso` is the model's own field:
what the port shifted out in the last transaction it took (notes/assumptions/5). The supervision timer holds the 10 ms
ticks it has counted. -/
structure PortUnit where
  reply : Option Reply
  resetSeen : Bool
  supPeriod : Nat
  supTimer : Option Nat
  lapsed : Bool
  attention : List Entry
  segMask : BitVec 6
  devMask : BitVec 5
  lineEnable : Bool
  rights : Vector (BitVec 3) 16
  device : BitVec 3
  miso : List Byte
  select : Selection
  deriving DecidableEq, Repr

/-! ### The whole device -/

/-- The state of the device and the queue of the commands that wait. -/
structure State where
  pending : List Instr
  inReset : Bool
  points : Vector Point 256
  segs : PerSeg Segment
  ports : PerPort PortUnit
  trigs : PerTrg TriggerInput
  supply : SupplyLevel
  temperature : TempLevel
  deriving DecidableEq, Repr

/-- No condition of the spec stops the device, so no step ends in a fault: refused commands are answered
(Table 10-4) and failures are states and reasons. There is no constructor, so nothing raises one; safe. -/
inductive Fault where
  deriving DecidableEq, Repr

/-- The one refusal is the host's form for an arm without a meaning; every arm of exec has one. -/
inductive Refusal where
  /-- Raised by an arm of exec that has no meaning yet (none has it now); safe. -/
  | notModelled (mnemonic : String)
  deriving DecidableEq, Repr

/-! ### Reset values -/

/-- Table 5-3: the trigger value of a segment is its number + 1. -/
def ScanCfg.reset : Seg → ScanCfg
  | .s0 => ⟨.freeRun, 100, 0, 1, .skip, 2⟩
  | .s1 => ⟨.freeRun, 100, 0, 2, .skip, 2⟩
  | .s2 => ⟨.freeRun, 100, 0, 3, .skip, 2⟩
  | .s3 => ⟨.freeRun, 100, 0, 4, .skip, 2⟩

/-- Table 5-1. -/
def Scheduler.reset (g : Seg) : Scheduler where
  list := []
  cursor := none
  scan := .stopped
  cfg := ScanCfg.reset g
  cyclesEnded := 0
  overruns := 0
  cut := false
  deferred := false
  periodTimer := none
  queue := []
  backToBack := 0
  cycleMark := false

/-- Tables 6-1 and 6-4. -/
def Link.reset : Link where
  state := .off
  faults := 0
  cfg := ⟨.k125, 20, 2, 3, .ms100, 3⟩
  windowTimer := none
  backoffTimer := none
  idleTimer := none
  gapTimer := none
  recoveryTimer := none

/-- Table 7-1. -/
def NodeRec.reset : NodeRec := ⟨.idle, 0, 0, false⟩

/-- Tables 8-1 and 8-3. -/
def Feed.reset : Feed where
  state := .off
  enable := false
  cfg := ⟨.ma500, .ms15, false, false, .ms2000, 20⟩
  clamping := false
  clampTimer := false
  startTimer := none
  settleTimer := none
  retryTimer := none
  trips := 0

/-- One segment after a device reset; the tallies are those of Table 7-3. -/
def Segment.reset (g : Seg) : Segment where
  sched := Scheduler.reset g
  link := Link.reset
  nodes := Vector.replicate 30 NodeRec.reset
  tally0 := ⟨.exchangesOk, 0, 0⟩
  tally1 := ⟨.noResponse, 0, 0⟩
  feed := Feed.reset

/-- R101: NONE, rising, EDGE, not held; the filtered level is that of the pin. -/
def TriggerInput.reset (level : Bool) : TriggerInput := ⟨none, false, false, level, false⟩

/-- Table 10-1, R157 and R166 with the rights of the port. -/
def PortUnit.reset (groupRights device : BitVec 3) : PortUnit where
  reply := none
  resetSeen := true
  supPeriod := 0
  supTimer := none
  lapsed := false
  attention := []
  segMask := 0x3F
  devMask := 0x1F
  lineEnable := true
  rights := Vector.replicate 16 groupRights
  device := device
  miso := []
  select := .high

/-- The device right after a device reset (R22, R73, R103, R119, R129, R133, R147, R157, R162, R166). The
monitor levels NORMAL and the trigger levels low stand for what the reset samples (notes/assumptions/6). -/
def State.reset : State where
  pending := []
  inReset := false
  points := Vector.replicate 256 (Point.cleared 0)
  segs := ⟨Segment.reset .s0, Segment.reset .s1, Segment.reset .s2, Segment.reset .s3⟩
  ports := ⟨PortUnit.reset 7 7, PortUnit.reset 1 0⟩
  trigs := ⟨TriggerInput.reset false, TriggerInput.reset false⟩
  supply := .normal
  temperature := .normal

end Sys2Proof.Machine
end

