-- ==== Sys2Proof/Machine/Operands.lean ====
section
/-! DEFINITION. Operand forms: how parameter bytes are read, how result bytes and codes are written, the
value ranges of points, and the frames of the SPI ports and the segment links.
Spec: R2, R25 (values), R104 to R106 (link characters and frames), R163, R164 (SPI frames), and the tables
of codes of every chapter. Multi-byte fields travel least significant byte first (00_scope.md). -/

namespace Sys2Proof

/-! ### One of each kind, by port, segment and input -/

def Port.other : Port → Port
  | .a => .b
  | .b => .a

def Port.all : List Port := [.a, .b]

def Port.code : Port → Nat
  | .a => 0
  | .b => 1

def Seg.code : Seg → Nat
  | .s0 => 0
  | .s1 => 1
  | .s2 => 2
  | .s3 => 3

def Seg.all : List Seg := [.s0, .s1, .s2, .s3]

def PerPort.get {α : Type} (v : PerPort α) : Port → α
  | .a => v.a
  | .b => v.b

def PerPort.set {α : Type} (v : PerPort α) (p : Port) (x : α) : PerPort α :=
  match p with
  | .a => { v with a := x }
  | .b => { v with b := x }

def PerSeg.get {α : Type} (v : PerSeg α) : Seg → α
  | .s0 => v.s0
  | .s1 => v.s1
  | .s2 => v.s2
  | .s3 => v.s3

def PerSeg.set {α : Type} (v : PerSeg α) (g : Seg) (x : α) : PerSeg α :=
  match g with
  | .s0 => { v with s0 := x }
  | .s1 => { v with s1 := x }
  | .s2 => { v with s2 := x }
  | .s3 => { v with s3 := x }

def PerTrg.get {α : Type} (v : PerTrg α) : Trg → α
  | .trg0 => v.trg0
  | .trg1 => v.trg1

def PerTrg.set {α : Type} (v : PerTrg α) (t : Trg) (x : α) : PerTrg α :=
  match t with
  | .trg0 => { v with trg0 := x }
  | .trg1 => { v with trg1 := x }

namespace Machine

/-! ### Sets within Port A and Port B -/

def noPorts : PortSet := ⟨false, false⟩

def onePort (p : Port) : PortSet := noPorts.set p true

def portUnion (x y : PortSet) : PortSet := ⟨x.a || y.a, x.b || y.b⟩

def portErase (x : PortSet) (p : Port) : PortSet := x.set p false

def portsEmpty (x : PortSet) : Bool := !x.a && !x.b

/-- The port a writer is, if it is one: SAFE and REASSERT are none (R53). -/
def writerPorts : Writer → PortSet
  | .port p => onePort p
  | .safe => noPorts
  | .reassert => noPorts

/-! ### Parameter bytes -/

def argByte (ps : List Byte) (k : Nat) : Byte := ps.getD k 0

def arg (ps : List Byte) (k : Nat) : Nat := (argByte ps k).toNat

def arg16 (ps : List Byte) (k : Nat) : Nat := arg ps k + 256 * arg ps (k + 1)

def arg32 (ps : List Byte) (k : Nat) : Nat := arg16 ps k + 65536 * arg16 ps (k + 2)

/-- A 4-byte integer: two's complement for a signed point, unsigned for an unsigned one (R45, R55). -/
def argInt (signed : Bool) (ps : List Byte) (k : Nat) : Int :=
  if signed then (BitVec.ofNat 32 (arg32 ps k)).toInt else (arg32 ps k : Int)

/-- A handle: point index and generation, in two bytes (section 1.3). -/
structure Handle where
  idx : PointIdx
  generation : Byte
  deriving DecidableEq, Repr

def argHandle (ps : List Byte) (k : Nat) : Handle :=
  ⟨⟨arg ps k, (argByte ps k).isLt⟩, argByte ps (k + 1)⟩

def segOf : Nat → Option Seg
  | 0 => some .s0
  | 1 => some .s1
  | 2 => some .s2
  | 3 => some .s3
  | _ => none

def portOf : Nat → Option Port
  | 0 => some .a
  | 1 => some .b
  | _ => none

def trgOf : Nat → Option Trg
  | 0 => some .trg0
  | 1 => some .trg1
  | _ => none

def boolOf : Nat → Option Bool
  | 0 => some false
  | 1 => some true
  | _ => none

def kindOf : Nat → Option Kind
  | 0 => some .input
  | 1 => some .output
  | _ => none

def widthOf : Nat → Option Width
  | 1 => some .w1
  | 2 => some .w2
  | 4 => some .w4
  | _ => none

/-- A node address 1–30. -/
def nodeOf (n : Nat) : Option NodeIdx :=
  if h : 1 ≤ n ∧ n ≤ 30 then some ⟨n - 1, by omega⟩ else none

def objectOf (n : Nat) : Option (Fin 1024) :=
  if h : n < 1024 then some ⟨n, h⟩ else none

def groupOf (n : Nat) : Option (Fin 16) :=
  if h : n < 16 then some ⟨n, h⟩ else none

/-- A number within a range, both ends included. -/
def within (lo hi n : Nat) : Option Nat :=
  if lo ≤ n ∧ n ≤ hi then some n else none

def scanModeOf : Nat → Option ScanMode
  | 0 => some .freeRun
  | 1 => some .triggered
  | _ => none

def policyOf : Nat → Option OverrunPolicy
  | 0 => some .skip
  | 1 => some .cut
  | _ => none

def bitRateOf : Nat → Option BitRate
  | 0 => some .k62
  | 1 => some .k125
  | 2 => some .k250
  | 3 => some .k500
  | _ => none

def recoveryOf : Nat → Option RecoveryTime
  | 0 => some .ms50
  | 1 => some .ms100
  | 2 => some .ms200
  | 3 => some .ms500
  | _ => none

def limitOf : Nat → Option CurrentLimit
  | 0 => some .ma250
  | 1 => some .ma500
  | 2 => some .ma750
  | 3 => some .ma1000
  | _ => none

def blankingOf : Nat → Option Blanking
  | 0 => some .ms5
  | 1 => some .ms15
  | 2 => some .ms50
  | 3 => some .ms150
  | _ => none

def retryOf : Nat → Option Retry
  | 0 => some .latch
  | 1 => some .ms500
  | 2 => some .ms2000
  | 3 => some .ms10000
  | _ => none

def tallyEventOf : Nat → Option TallyEvent
  | 0 => some .exchangesOk
  | 1 => some .retries
  | 2 => some .noResponse
  | 3 => some .checkErrors
  | 4 => some .busyReplies
  | 5 => some .refusals
  | 6 => some .lineFaults
  | 7 => some .overruns
  | 8 => some .demandExchanges
  | 9 => some .writesDelivered
  | _ => none

/-! ### Codes -/

def boolCode (x : Bool) : Nat := if x then 1 else 0

/-- A bit of a result byte. -/
def bit (x : Bool) (k : Nat) : Nat := if x then 2 ^ k else 0

def Kind.code : Kind → Nat
  | .input => 0
  | .output => 1

/-- The life codes of a TAKE_ATTENTION snapshot (Table 9-1, byte 11); RETIRE_POINT's reply has one more. -/
def Life.snapCode : Life → Nat
  | .live => 0
  | .retiring => 1
  | .closed => 2
  | .free => 3

/-- The life codes of RETIRE_POINT's reply (section 1.5): 1 RETIRING, 2 CLOSED, 3 FREE. -/
def Life.retireCode : Life → Nat
  | .live => 0
  | .retiring => 1
  | .closed => 2
  | .free => 3

def Width.bytes : Width → Nat
  | .w1 => 1
  | .w2 => 2
  | .w4 => 4

/-- Table 2-1. -/
def Quality.code : Quality → Nat
  | .initial => 0
  | .good => 1
  | .stale => 2
  | .nodeLost => 3
  | .unpowered => 4
  | .refused => 5
  | .disagree => 6

/-- R42. -/
def BandState.code : BandState → Nat
  | .unset => 0
  | .below => 1
  | .inside => 2
  | .above => 3

/-- Table 2-4, byte 53. -/
def Writer.code : Writer → Nat
  | .port .a => 0
  | .port .b => 1
  | .safe => 2
  | .reassert => 3

/-- Table 5-2. -/
def ScanState.code : ScanState → Nat
  | .stopped => 0
  | .waiting => 1
  | .running => 2
  | .finishing => 3
  | .stopping => 4
  | .haltedPower => 5
  | .haltedLine => 6

/-- Table 6-2. -/
def LinkState.code : LinkState → Nat
  | .off => 0
  | .ready => 1
  | .busy _ _ => 2
  | .gap => 3
  | .recovering => 4
  | .lineDown => 5

/-- Table 7-2. -/
def NodeState.code : NodeState → Nat
  | .idle => 0
  | .unknown => 1
  | .online => 2
  | .suspect => 3
  | .lost => 4

/-- Table 7-4. -/
def TallyEvent.code : TallyEvent → Nat
  | .exchangesOk => 0
  | .retries => 1
  | .noResponse => 2
  | .checkErrors => 3
  | .busyReplies => 4
  | .refusals => 5
  | .lineFaults => 6
  | .overruns => 7
  | .demandExchanges => 8
  | .writesDelivered => 9

/-- Table 8-2. -/
def FeedState.code : FeedState → Nat
  | .off => 0
  | .starting => 1
  | .settling => 2
  | .on => 3
  | .tripped => 4
  | .latched => 5
  | .forcedOff => 6

def CurrentLimit.code : CurrentLimit → Nat
  | .ma250 => 0
  | .ma500 => 1
  | .ma750 => 2
  | .ma1000 => 3

def CurrentLimit.milliamps : CurrentLimit → Nat
  | .ma250 => 250
  | .ma500 => 500
  | .ma750 => 750
  | .ma1000 => 1000

def Blanking.code : Blanking → Nat
  | .ms5 => 0
  | .ms15 => 1
  | .ms50 => 2
  | .ms150 => 3

def Blanking.millis : Blanking → Nat
  | .ms5 => 5
  | .ms15 => 15
  | .ms50 => 50
  | .ms150 => 150

def Retry.code : Retry → Nat
  | .latch => 0
  | .ms500 => 1
  | .ms2000 => 2
  | .ms10000 => 3

/-- The retry time in ms, or none for LATCH (R140, R143). -/
def Retry.millis : Retry → Option Nat
  | .latch => none
  | .ms500 => some 500
  | .ms2000 => some 2000
  | .ms10000 => some 10000

def RecoveryTime.millis : RecoveryTime → Nat
  | .ms50 => 50
  | .ms100 => 100
  | .ms200 => 200
  | .ms500 => 500

/-- Three character times in µs (Table 6-3). -/
def BitRate.gapMicros : BitRate → Nat
  | .k62 => 528
  | .k125 => 264
  | .k250 => 132
  | .k500 => 66

def SupplyLevel.code : SupplyLevel → Nat
  | .normal => 0
  | .low => 1
  | .under => 2

def TempLevel.code : TempLevel → Nat
  | .normal => 0
  | .warn => 1
  | .shutdown => 2

/-- Table 4-3. -/
def WriteResult.code : WriteResult → Nat
  | .delivered => 0
  | .refused => 1
  | .superseded => 2
  | .cancelled => 3
  | .delayed => 4

/-- Table 9-1, byte 10. -/
def DemandOutcome.code : DemandOutcome → Nat
  | .completed => 0
  | .failed => 1
  | .abandoned => 2

/-- Table 10-4. -/
def Result.code : Result → Nat
  | .ok => 0
  | .frameRejected => 1
  | .noReply => 2
  | .unknownCommand => 3
  | .badParameter => 4
  | .staleHandle => 5
  | .noRight => 6
  | .wrongKind => 7
  | .duplicate => 8
  | .tableFull => 9
  | .segmentFull => 10
  | .queueFull => 11
  | .notPowered => 12
  | .busyState => 13
  | .nothingPending => 14
  | .lastAuthority => 15

/-- The address 1–30 of a node index. -/
def nodeAddress (n : NodeIdx) : Nat := n.val + 1

/-! ### Values -/

/-- The least value of a point's range (R2). -/
def rangeLow (w : Width) (signed : Bool) : Int :=
  if signed then -((256 : Int) ^ w.bytes / 2) else 0

/-- The greatest value of a point's range (R2). -/
def rangeHigh (w : Width) (signed : Bool) : Int :=
  if signed then (256 : Int) ^ w.bytes / 2 - 1 else (256 : Int) ^ w.bytes - 1

def inRange (w : Width) (signed : Bool) (v : Int) : Bool :=
  decide (rangeLow w signed ≤ v ∧ v ≤ rangeHigh w signed)

def le2 (n : Nat) : List Byte := [byteOf n, byteOf (n / 256)]

/-- A 4-byte field, least significant byte first: sign-extended for a negative integer (R37). -/
def le4 (v : Int) : List Byte :=
  let x := BitVec.ofInt 32 v
  [x.extractLsb' 0 8, x.extractLsb' 8 8, x.extractLsb' 16 8, x.extractLsb' 24 8]

/-- An absent integer travels as 0 (R37). -/
def le4Opt (v : Option Int) : List Byte := le4 (v.getD 0)

/-- A value in a point's width, least significant byte first, two's complement when negative (R54). -/
def valueBytes (w : Width) (v : Int) : List Byte := (le4 v).take w.bytes

/-- The unsigned integer of bytes, least significant first. -/
def natOfBytes : List Byte → Nat
  | [] => 0
  | x :: xs => x.toNat + 256 * natOfBytes xs

/-- The integer of received data bytes (R25): two's complement for a signed point. -/
def intOfBytes (signed : Bool) (xs : List Byte) : Int :=
  let n := natOfBytes xs
  if signed && decide (256 ^ xs.length ≤ 2 * n) then (n : Int) - (256 : Int) ^ xs.length else (n : Int)

/-! ### Check bytes and frames -/

/-- One bit of a CRC-8, most significant bit first. -/
def crcShift (poly r : Byte) : Byte := if r.msb then (r <<< 1) ^^^ poly else r <<< 1

/-- One byte entered into a CRC-8 register, most significant bit first. -/
def crcByte (poly r x : Byte) : Byte :=
  let s := crcShift poly
  s (s (s (s (s (s (s (s (r ^^^ x))))))))

def crc8 (poly init : Byte) (xs : List Byte) : Byte := xs.foldl (crcByte poly) init

/-- The check byte of SPI frames (R163): polynomial 0x07, register starting at 0xFF. -/
def portCheck (xs : List Byte) : Byte := crc8 0x07 0xFF xs

/-- The check character of link frames (R105): polynomial 0x31, register starting at 0x00. -/
def linkCheck (xs : List Byte) : Byte := crc8 0x31 0x00 xs

/-- Table 6-4a, character 2. -/
def Func.code : Func → Nat
  | .read => 1
  | .write => 2

/-- The characters a request's check covers: node to the last data character (R105). -/
def requestBody (node : NodeIdx) (object : Fin 1024) (w : Width) (f : Func) (data : Option Int) : List Byte :=
  [byteOf (nodeAddress node), byteOf (Func.code f)] ++ le2 object.val ++ [byteOf w.bytes] ++
    (match data with
     | some v => valueBytes w v
     | none => [])

/-- The characters of a request frame (Table 6-4a). -/
def requestFrame (node : NodeIdx) (object : Fin 1024) (w : Width) (f : Func) (data : Option Int) : List Byte :=
  let body := requestBody node object w f data
  0xD5 :: body ++ [linkCheck body]

/-- Whether a byte holds an odd number of ones. -/
def oddOnes (x : Byte) : Bool :=
  (List.range 8).foldl (fun acc k => acc ^^ x.getLsbD k) false

/-- The parity bit that makes the ones of data and parity even (R104). -/
def parityBit (x : Byte) : Bool := oddOnes x

/-- The 11 bits of a character as they travel, start bit first, the idle level true (R104). -/
def characterBits (x : Byte) : List Bool :=
  false :: ((List.range 8).map (fun k => x.getLsbD k) ++ [parityBit x, true])

/-- The codes that name a command of the manual. -/
def commandCodes : List Nat :=
  [0x00, 0x01, 0x02, 0x03, 0x04, 0x05, 0x06, 0x10, 0x11, 0x12, 0x13, 0x20, 0x21, 0x22, 0x28, 0x29, 0x2A, 0x30,
    0x31, 0x32] ++
  [0x40, 0x41, 0x42, 0x43, 0x44, 0x45, 0x48, 0x49, 0x50, 0x51, 0x52, 0x53, 0x58, 0x59, 0x5A, 0x5B, 0x60, 0x61,
    0x62, 0x63]

/-- A reply frame's bytes 1 to 4 + m (Table 10-3). -/
def replyBody (r : Reply) : List Byte :=
  [r.tag, r.code, byteOf r.result.code, byteOf r.data.length] ++ r.data

/-- The reply that FETCH shifts out of an empty slot (R164). -/
def noReply : Reply := ⟨0, 0, .noReply, []⟩

/-- What a FETCH transaction shifts out up to its check byte (Table 10-3). -/
def fetchBytes (status : Byte) (r : Reply) : List Byte :=
  status :: replyBody r ++ [portCheck (replyBody r)]

/-- Why a COMMAND frame is rejected, or none for a valid frame, from the bytes clocked (R163): the lowest
code that applies (notes/assumptions/15). -/
def rejectCause (bytes : List Byte) : Option Nat :=
  let n := arg bytes 3
  if bytes.length < 4 ∨ bytes.length < 5 + n then some 0
  else if Config.maxParams < n then some 1
  else if argByte bytes 0 ≠ 0xA1 ∧ argByte bytes 0 ≠ 0xB2 then some 2
  else if argByte bytes (4 + n) ≠ portCheck ((bytes.drop 1).take (3 + n)) then some 3
  else if 5 + n < bytes.length then some 4
  else none

/-- A FRAME_REJECTED transaction: at least one byte clocked, not a FETCH, and a cause (R162, R163). -/
def isRejectedFrame (bytes : List Byte) : Bool :=
  !bytes.isEmpty && decide (argByte bytes 0 ≠ 0xB2) && (rejectCause bytes).isSome

end Machine

end Sys2Proof
end

