-- ==== Sys2Proof/Decode.lean ====
section
/-! DEFINITION. Decoding: the table gives no row bits, so no word spells a command; beside it, the SPI
transactions as they travel: which command or event the bytes of a transaction are, and the bytes of one.
Spec: opcode_table.json; R162 to R165 (10). -/

namespace Sys2Proof

/-- The command that a word spells by the table's bits: none, since no row of the table gives bits. -/
def decodeTableWord (_nbits _w : Nat) : Option Instr := none

namespace Machine

/-- The command of a valid frame by its code; a code that names none is UNKNOWN_COMMAND (R165). What the
outside settles at the step comes with the transaction. -/
def commandOf (p : Port) (code tag : Byte) (ps : List Byte) (x : Samples) (e : Env) : Instr :=
  match code.toNat with
  | 0x00 => .noop p tag ps
  | 0x01 => .readIdentity p tag ps
  | 0x02 => .setSupervision p tag ps
  | 0x03 => .setRights p tag ps
  | 0x04 => .readRights p tag ps
  | 0x05 => .resetPort p tag ps
  | 0x06 => .resetDevice p tag ps x
  | 0x10 => .definePoint p tag ps
  | 0x11 => .retirePoint p tag ps e
  | 0x12 => .modifyPoint p tag ps e
  | 0x13 => .listPoints p tag ps
  | 0x20 => .readPoint p tag ps
  | 0x21 => .readBlock p tag ps
  | 0x22 => .demandRead p tag ps e
  | 0x28 => .setBand p tag ps
  | 0x29 => .clearBand p tag ps
  | 0x2A => .setDeadband p tag ps
  | 0x30 => .writePoint p tag ps e
  | 0x31 => .setSafeValue p tag ps
  | 0x32 => .cancelWrite p tag ps
  | 0x40 => .configureScan p tag ps
  | 0x41 => .startScan p tag ps e
  | 0x42 => .stopScan p tag ps
  | 0x43 => .finishScan p tag ps
  | 0x44 => .fireTrigger p tag ps e
  | 0x45 => .configureTriggerInput p tag ps
  | 0x48 => .configureLink p tag ps
  | 0x49 => .recoverLine p tag ps
  | 0x50 => .readNodes p tag ps
  | 0x51 => .releaseNode p tag ps
  | 0x52 => .configureTally p tag ps
  | 0x53 => .readTally p tag ps
  | 0x58 => .configureFeed p tag ps
  | 0x59 => .feedOn p tag ps
  | 0x5A => .feedOff p tag ps e
  | 0x5B => .readFeeds p tag ps
  | 0x60 => .subscribe p tag ps
  | 0x61 => .unsubscribe p tag ps
  | 0x62 => .takeAttention p tag ps
  | 0x63 => .setNoticeMask p tag ps
  | _ => .unknownCommand p code tag ps

/-- What the rising chip-select of a transaction with these bytes is (R162 to R164): the end of a FETCH, which a
transaction without a complete byte ends like, a rejected frame, or a command. -/
def transaction (p : Port) (bytes : List Byte) (x : Samples) (e : Env) : Instr :=
  if bytes.isEmpty || decide (argByte bytes 0 = 0xB2) then .fetch p (.rises bytes.length)
  else if (rejectCause bytes).isSome then .frameRejected p bytes
  else commandOf p (argByte bytes 1) (argByte bytes 2) ((bytes.drop 4).take (arg bytes 3)) x e

/-- The bytes of a COMMAND transaction (Table 10-2). -/
def commandFrame (code tag : Byte) (ps : List Byte) : List Byte :=
  let body := [code, tag, byteOf ps.length] ++ ps
  0xA1 :: body ++ [portCheck body]

/-- The bytes clocked in the transaction that a term of an SPI row ends. -/
def frameOf : Instr → Option (List Byte)
  | .noop _ tag ps => some (commandFrame 0x00 tag ps)
  | .readIdentity _ tag ps => some (commandFrame 0x01 tag ps)
  | .setSupervision _ tag ps => some (commandFrame 0x02 tag ps)
  | .setRights _ tag ps => some (commandFrame 0x03 tag ps)
  | .readRights _ tag ps => some (commandFrame 0x04 tag ps)
  | .resetPort _ tag ps => some (commandFrame 0x05 tag ps)
  | .resetDevice _ tag ps _ => some (commandFrame 0x06 tag ps)
  | .definePoint _ tag ps => some (commandFrame 0x10 tag ps)
  | .retirePoint _ tag ps _ => some (commandFrame 0x11 tag ps)
  | .modifyPoint _ tag ps _ => some (commandFrame 0x12 tag ps)
  | .listPoints _ tag ps => some (commandFrame 0x13 tag ps)
  | .readPoint _ tag ps => some (commandFrame 0x20 tag ps)
  | .readBlock _ tag ps => some (commandFrame 0x21 tag ps)
  | .demandRead _ tag ps _ => some (commandFrame 0x22 tag ps)
  | .setBand _ tag ps => some (commandFrame 0x28 tag ps)
  | .clearBand _ tag ps => some (commandFrame 0x29 tag ps)
  | .setDeadband _ tag ps => some (commandFrame 0x2A tag ps)
  | .writePoint _ tag ps _ => some (commandFrame 0x30 tag ps)
  | .cancelWrite _ tag ps => some (commandFrame 0x32 tag ps)
  | .setSafeValue _ tag ps => some (commandFrame 0x31 tag ps)
  | .configureScan _ tag ps => some (commandFrame 0x40 tag ps)
  | .startScan _ tag ps _ => some (commandFrame 0x41 tag ps)
  | .stopScan _ tag ps => some (commandFrame 0x42 tag ps)
  | .finishScan _ tag ps => some (commandFrame 0x43 tag ps)
  | .fireTrigger _ tag ps _ => some (commandFrame 0x44 tag ps)
  | .configureTriggerInput _ tag ps => some (commandFrame 0x45 tag ps)
  | .configureLink _ tag ps => some (commandFrame 0x48 tag ps)
  | .recoverLine _ tag ps => some (commandFrame 0x49 tag ps)
  | .readNodes _ tag ps => some (commandFrame 0x50 tag ps)
  | .releaseNode _ tag ps => some (commandFrame 0x51 tag ps)
  | .configureTally _ tag ps => some (commandFrame 0x52 tag ps)
  | .readTally _ tag ps => some (commandFrame 0x53 tag ps)
  | .configureFeed _ tag ps => some (commandFrame 0x58 tag ps)
  | .feedOn _ tag ps => some (commandFrame 0x59 tag ps)
  | .feedOff _ tag ps _ => some (commandFrame 0x5A tag ps)
  | .readFeeds _ tag ps => some (commandFrame 0x5B tag ps)
  | .subscribe _ tag ps => some (commandFrame 0x60 tag ps)
  | .unsubscribe _ tag ps => some (commandFrame 0x61 tag ps)
  | .takeAttention _ tag ps => some (commandFrame 0x62 tag ps)
  | .setNoticeMask _ tag ps => some (commandFrame 0x63 tag ps)
  | .unknownCommand _ code tag ps => some (commandFrame code tag ps)
  | .frameRejected _ bytes => some bytes
  | .fetch _ (.rises 0) => some []
  | .fetch _ (.rises (n + 1)) => some (0xB2 :: List.replicate n 0)
  | _ => none

/-- The port whose transaction a term of an SPI row ends. -/
def portOfInstr : Instr → Option Port
  | .noop p _ _ => some p
  | .readIdentity p _ _ => some p
  | .setSupervision p _ _ => some p
  | .setRights p _ _ => some p
  | .readRights p _ _ => some p
  | .resetPort p _ _ => some p
  | .resetDevice p _ _ _ => some p
  | .unknownCommand p _ _ _ => some p
  | .frameRejected p _ => some p
  | .fetch p (.rises _) => some p
  | .definePoint p _ _ => some p
  | .retirePoint p _ _ _ => some p
  | .modifyPoint p _ _ _ => some p
  | .listPoints p _ _ => some p
  | .readPoint p _ _ => some p
  | .readBlock p _ _ => some p
  | .demandRead p _ _ _ => some p
  | .setBand p _ _ => some p
  | .clearBand p _ _ => some p
  | .setDeadband p _ _ => some p
  | .writePoint p _ _ _ => some p
  | .cancelWrite p _ _ => some p
  | .setSafeValue p _ _ => some p
  | .configureScan p _ _ => some p
  | .startScan p _ _ _ => some p
  | .stopScan p _ _ => some p
  | .finishScan p _ _ => some p
  | .fireTrigger p _ _ _ => some p
  | .configureTriggerInput p _ _ => some p
  | .configureLink p _ _ => some p
  | .recoverLine p _ _ => some p
  | .readNodes p _ _ => some p
  | .releaseNode p _ _ => some p
  | .configureTally p _ _ => some p
  | .readTally p _ _ => some p
  | .configureFeed p _ _ => some p
  | .feedOn p _ _ => some p
  | .feedOff p _ _ _ => some p
  | .readFeeds p _ _ => some p
  | .subscribe p _ _ => some p
  | .unsubscribe p _ _ => some p
  | .takeAttention p _ _ => some p
  | .setNoticeMask p _ _ => some p
  | _ => none

/-- What the outside settles at an SPI row that says so, and any value elsewhere. -/
def envOf (d : Env) : Instr → Env
  | .retirePoint _ _ _ e => e
  | .modifyPoint _ _ _ e => e
  | .demandRead _ _ _ e => e
  | .writePoint _ _ _ e => e
  | .startScan _ _ _ e => e
  | .fireTrigger _ _ _ e => e
  | .feedOff _ _ _ e => e
  | _ => d

/-- What an SPI row's device reset samples, and any value elsewhere. -/
def samplesOf (d : Samples) : Instr → Samples
  | .resetDevice _ _ _ x => x
  | _ => d

end Machine

end Sys2Proof
end

