-- ==== Sys2Proof/Machine/Flags.lean ====
section
/-! DEFINITION. What is derived from the state and not stored: status flags, attention lines, write states,
the feed switch and its limit, the link drivers, the monitor's hold, and the level judgements.
Spec: R162, R164, R174, R160 (10, 09), Table 4-2 (04), R134, R135, R145, R146 (08), R108 (06). -/

namespace Sys2Proof.Machine

/-! ### Ports -/

/-- The status byte (R162): REPLY_READY, ATTENTION, LAPSED, RESET_SEEN. -/
def PortUnit.statusByte (u : PortUnit) : Byte :=
  byteOf (bit u.reply.isSome 0 + bit (!u.attention.isEmpty) 1 + bit u.lapsed 2 + bit u.resetSeen 3)

/-- The status byte of the transaction that ends: the port as it stood when the chip-select fell, in this very step
where no earlier one saw it fall (R162, notes/assumptions/4). -/
def PortUnit.shown (u : PortUnit) : Byte :=
  match u.select with
  | .low status _ => status
  | _ => u.statusByte

/-- The reply slot at the falling chip-select of the transaction that ends (R164). -/
def PortUnit.offered (u : PortUnit) : Option Reply :=
  match u.select with
  | .low _ reply => reply
  | _ => u.reply

/-- The chip-select after a device reset: a transaction in progress is discarded, and the rest of it ignored (R174). -/
def Selection.discard : Selection → Selection
  | .high => .high
  | _ => .ignored

/-- The device takes the transaction that ends on a port: it is not in reset, and the transaction neither met a reset
nor began in one (R174). -/
def State.hears (s : State) (p : Port) : Bool := !s.inReset && decide ((s.ports.get p).select ≠ .ignored)

/-- The attention line of a port is driven low while its list holds an entry and its line is enabled;
during a device reset it is released (R160). -/
def State.attentionLine (s : State) (p : Port) : Bool :=
  !s.inReset && !(s.ports.get p).attention.isEmpty && (s.ports.get p).lineEnable

/-- The reasons of a point entry in the bits of Table 9-1, byte 5. -/
def PointNote.reasons (n : PointNote) : Nat :=
  bit (decide (n.changes ≠ 0)) 0 + bit (decide (n.limits ≠ 0)) 1 + bit n.quality 2 + bit n.write.isSome 3 +
    bit n.demand.isSome 4 + bit n.retired 5

/-- The reasons of a segment entry in the bits of the segment mask (R157). -/
def SegNote.reasons (n : SegNote) : Nat :=
  bit n.feed 0 + bit n.scanEnded 1 + bit (decide (n.overruns ≠ 0)) 2 + bit n.line 3 +
    bit (decide (n.nodes ≠ 0)) 4 + bit (n.wrap0 || n.wrap1) 5

/-! ### Outputs -/

/-- The write state code of a point (Table 4-2). -/
def Point.writeState (t : Point) : Nat := bit t.slot.isSome 0 + bit t.inFlight.isSome 1

/-- The writer of a slot's value as a byte, 0xFF for an empty slot (WRITE_POINT's result byte 2 in 04; Table
9-1, byte 35). -/
def writerByte (f : Option Slot) : Byte :=
  match f with
  | some f => byteOf f.writer.code
  | none => 0xFF

/-! ### Scans -/

/-- A cycle is in progress (R82). -/
def ScanState.inCycle : ScanState → Bool
  | .running => true
  | .finishing => true
  | _ => false

def ScanState.halted : ScanState → Bool
  | .haltedPower => true
  | .haltedLine => true
  | _ => false

/-! ### Links -/

/-- The exchange in flight (R103, R107): the record is present exactly while the link is BUSY. -/
def Link.exchange (l : Link) : Option Exchange :=
  match l.state with
  | .busy _ x => some x
  | _ => none

/-- A scan exchange is in flight (R82). -/
def Link.scanExchange (l : Link) : Bool :=
  match l.exchange with
  | some x => decide (x.kind = .scan)
  | none => false

/-- The drivers are on while a request's characters are driven: in SENDING, once the idle wait is over
(R108). -/
def Link.driving (l : Link) : Bool :=
  match l.state with
  | .busy .sending _ => l.idleTimer.isNone
  | _ => false

/-- Whether an exchange for the point is in flight on the link (R14, R37). -/
def Link.serves (l : Link) (i : PointIdx) : Bool :=
  match l.exchange with
  | some x => decide (x.target = i)
  | none => false

/-! ### Feeds -/

/-- The switch is closed in STARTING, SETTLING and ON (R134). -/
def FeedState.closed : FeedState → Bool
  | .starting => true
  | .settling => true
  | .on => true
  | _ => false

/-- The limit in force in mA while the switch is closed (R134). -/
def Feed.limitInForce (f : Feed) : Option Nat :=
  match f.state with
  | .starting => some (if f.cfg.doubleStart then 2 * f.cfg.limit.milliamps else f.cfg.limit.milliamps)
  | .settling => some f.cfg.limit.milliamps
  | .on => some f.cfg.limit.milliamps
  | _ => none

/-- SnGATE drives the switch; in a device reset every gate is driven off (R147). -/
def State.gate (s : State) (g : Seg) : Bool := !s.inReset && (s.segs.get g).feed.state.closed

/-- The trip time in 100 µs ticks (R135): the blanking time, or a fifth of it with fast short trip while
the output stands below half of VFIELD. -/
def FeedCfg.tripTicks (c : FeedCfg) (outputLow : Bool) : Nat :=
  if c.fastShort && outputLow then c.blanking.millis * 10 / 5 else c.blanking.millis * 10

/-! ### Levels -/

/-- Table 8-4: the field supply level after a judgement of VFIELD in mV. -/
def SupplyLevel.judge (l : SupplyLevel) (mv : Nat) : SupplyLevel :=
  match l with
  | .normal =>
    if mv < Config.supplyUnderBelow then .under else if mv < Config.supplyLowBelow then .low else .normal
  | .low =>
    if mv < Config.supplyUnderBelow then .under else if Config.supplyLowRelease ≤ mv then .normal else .low
  | .under =>
    if Config.supplyLowRelease ≤ mv then .normal else if Config.supplyUnderRelease ≤ mv then .low else .under

/-- Table 8-5: the temperature level after a judgement in thousandths of a degree. -/
def TempLevel.judge (l : TempLevel) (mc : Int) : TempLevel :=
  match l with
  | .normal =>
    if Config.tempShutdownAbove < mc then .shutdown else if Config.tempWarnAbove < mc then .warn else .normal
  | .warn =>
    if Config.tempShutdownAbove < mc then .shutdown else if mc ≤ Config.tempRelease then .normal else .warn
  | .shutdown =>
    if mc ≤ Config.tempRelease then .normal else if mc ≤ Config.tempWarnAbove then .warn else .shutdown

/-- The monitor holds feeds off (R146). -/
def holds (l : SupplyLevel) (t : TempLevel) : Bool := decide (l = .under ∨ t = .shutdown)

end Sys2Proof.Machine
end

