-- ==== Sys2Proof/Machine/Ops.lean ====
section
/-! DEFINITION. Named operations over the registers of the device: access to records, segments and ports,
the Notice Unit's merging of reasons, the closure of records, command acceptance and replies.
Spec: R5, R6, R16, R17 (01), R120 (07), R152 to R156 (09), R162 to R166, R171, R174 (10). -/

namespace Sys2Proof.Machine

/-! ### Access -/

def State.point (s : State) (i : PointIdx) : Point := s.points[i.val]

def State.setPoint (s : State) (i : PointIdx) (t : Point) : State :=
  { s with points := s.points.set i.val t i.isLt }

def State.modPoint (s : State) (i : PointIdx) (f : Point → Point) : State := s.setPoint i (f (s.point i))

/-- The same change on every record. -/
def State.mapPoints (s : State) (f : Point → Point) : State := { s with points := s.points.map f }

def State.seg (s : State) (g : Seg) : Segment := s.segs.get g

def State.modSeg (s : State) (g : Seg) (f : Segment → Segment) : State :=
  { s with segs := s.segs.set g (f (s.segs.get g)) }

def State.sched (s : State) (g : Seg) : Scheduler := (s.seg g).sched

def State.modSched (s : State) (g : Seg) (f : Scheduler → Scheduler) : State :=
  s.modSeg g fun v => { v with sched := f v.sched }

def State.link (s : State) (g : Seg) : Link := (s.seg g).link

def State.modLink (s : State) (g : Seg) (f : Link → Link) : State :=
  s.modSeg g fun v => { v with link := f v.link }

def State.feed (s : State) (g : Seg) : Feed := (s.seg g).feed

def State.modFeed (s : State) (g : Seg) (f : Feed → Feed) : State :=
  s.modSeg g fun v => { v with feed := f v.feed }

def State.node (s : State) (g : Seg) (n : NodeIdx) : NodeRec := (s.seg g).nodes[n.val]

def State.modNode (s : State) (g : Seg) (n : NodeIdx) (f : NodeRec → NodeRec) : State :=
  s.modSeg g fun v => { v with nodes := v.nodes.set n.val (f v.nodes[n.val]) n.isLt }

/-- The same change on every node record of a segment. -/
def State.mapNodes (s : State) (g : Seg) (f : NodeRec → NodeRec) : State :=
  s.modSeg g fun v => { v with nodes := v.nodes.map f }

def State.port (s : State) (p : Port) : PortUnit := s.ports.get p

def State.modPort (s : State) (p : Port) (f : PortUnit → PortUnit) : State :=
  { s with ports := s.ports.set p (f (s.ports.get p)) }

/-- A segment is powered while its feed is ON. -/
def State.powered (s : State) (g : Seg) : Bool := decide ((s.feed g).state = .on)

/-- The point indices in ascending order. -/
def allPoints : List PointIdx := List.finRange 256

/-! ### Attention lists (R152 to R156) -/

/-- The reasons of a point, with what each raising carries (R153). -/
inductive PointReason where
  | change
  | limit
  | quality
  | write (r : WriteResult) (w : Writer)
  | demand (o : DemandOutcome)
  | retired
  deriving DecidableEq, Repr

/-- The reasons of a segment, with what each raising carries (R155). -/
inductive SegReason where
  | feed
  | scanEnded
  | overrun
  | line
  | node (n : NodeIdx)
  | tally (second : Bool)
  deriving DecidableEq, Repr

/-- The reasons of the device (R155). -/
inductive DevReason where
  | supply | thermal | peerLapsed | peerResumed | rightsChanged
  deriving DecidableEq, Repr

def PointNote.empty : PointNote := ⟨0, 0, false, none, none, false⟩

def SegNote.empty : SegNote := ⟨false, false, 0, false, 0, false, false⟩

/-- Merging a point reason into an entry (R154). -/
def PointNote.add (n : PointNote) : PointReason → PointNote
  | .change => { n with changes := min (n.changes + 1) Config.noteMax }
  | .limit => { n with limits := min (n.limits + 1) Config.noteMax }
  | .quality => { n with quality := true }
  | .write r w => { n with write := some (r, w) }
  | .demand o => { n with demand := some o }
  | .retired => { n with retired := true }

/-- Merging a segment reason into an entry (R156). -/
def SegNote.add (n : SegNote) : SegReason → SegNote
  | .feed => { n with feed := true }
  | .scanEnded => { n with scanEnded := true }
  | .overrun => { n with overruns := min (n.overruns + 1) Config.countMax }
  | .line => { n with line := true }
  | .node k => { n with nodes := n.nodes ||| BitVec.twoPow 30 k.val }
  | .tally false => { n with wrap0 := true }
  | .tally true => { n with wrap1 := true }

/-- The bit of a segment reason in the segment mask (R157). -/
def SegReason.bit : SegReason → Nat
  | .feed => 0
  | .scanEnded => 1
  | .overrun => 2
  | .line => 3
  | .node _ => 4
  | .tally _ => 5

/-- The bit of a device reason in the device mask (R157). -/
def DevReason.bit : DevReason → Nat
  | .supply => 0
  | .thermal => 1
  | .peerLapsed => 2
  | .peerResumed => 3
  | .rightsChanged => 4

/-- Whether an entry names this use of a point record. -/
def Entry.isPoint (i : PointIdx) (gen : Byte) : Entry → Bool
  | .point j h _ => decide (j = i ∧ h = gen)
  | _ => false

def Entry.isSegment (g : Seg) : Entry → Bool
  | .segment h _ => decide (h = g)
  | _ => false

def Entry.isDevice : Entry → Bool
  | .device _ => true
  | _ => false

def Entry.addPoint (r : PointReason) : Entry → Entry
  | .point i g n => .point i g (n.add r)
  | e => e

def Entry.addSegment (r : SegReason) : Entry → Entry
  | .segment g n => .segment g (n.add r)
  | e => e

def Entry.addDevice (r : DevReason) : Entry → Entry
  | .device n => .device (n ||| BitVec.twoPow 5 r.bit)
  | e => e

/-- Merge into the entry that names the thing, which keeps its place, or append a fresh entry at the tail
and merge into that (R152, R154, R156). -/
def mergeEntry (same : Entry → Bool) (add : Entry → Entry) (fresh : Entry) : List Entry → List Entry
  | [] => [add fresh]
  | e :: es => if same e then add e :: es else e :: mergeEntry same add fresh es

/-- A point reason arrives for a port (R154). -/
def State.notePoint (s : State) (p : Port) (i : PointIdx) (r : PointReason) : State :=
  let gen := (s.point i).generation
  s.modPort p fun u =>
    { u with attention := mergeEntry (Entry.isPoint i gen) (Entry.addPoint r) (.point i gen .empty) u.attention }

/-- A point reason is raised to a set of ports, each once (R153). -/
def State.raisePoint (s : State) (i : PointIdx) (r : PointReason) (dst : PortSet) : State :=
  let s := if dst.a then s.notePoint .a i r else s
  if dst.b then s.notePoint .b i r else s

/-- A segment reason reaches a port whose segment mask holds it (R155, R156). -/
def State.noteSeg (s : State) (p : Port) (g : Seg) (r : SegReason) : State :=
  if (s.port p).segMask.getLsbD r.bit then
    s.modPort p fun u =>
      { u with attention := mergeEntry (Entry.isSegment g) (Entry.addSegment r) (.segment g .empty) u.attention }
  else s

/-- A segment reason is raised: both ports are its targets (R155). -/
def State.raiseSeg (s : State) (g : Seg) (r : SegReason) : State := (s.noteSeg .a g r).noteSeg .b g r

/-- A device reason is raised for one target port whose device mask holds it (R155, R156). -/
def State.raiseDev (s : State) (p : Port) (r : DevReason) : State :=
  if (s.port p).devMask.getLsbD r.bit then
    s.modPort p fun u =>
      { u with attention := mergeEntry Entry.isDevice (Entry.addDevice r) (.device 0) u.attention }
  else s

/-- The ports whose subscription to the point holds a reason: bit 0 CHANGE, 1 LIMIT, 2 QUALITY, 3 WRITE
(R148). -/
def Point.subscribers (t : Point) (k : Nat) : PortSet := ⟨t.subs.a.getLsbD k, t.subs.b.getLsbD k⟩

/-- The ports that hold any subscription on the point. -/
def Point.subscribed (t : Point) : PortSet := ⟨decide (t.subs.a ≠ 0), decide (t.subs.b ≠ 0)⟩

/-- WRITE on a LIVE point (R60, Table 4-4): DELIVERED and REFUSED go to a port writer and to every WRITE
subscriber, the other results to a port writer alone. -/
def State.raiseWrite (s : State) (i : PointIdx) (r : WriteResult) (w : Writer) : State :=
  let others :=
    match r with
    | .delivered => (s.point i).subscribers 3
    | .refused => (s.point i).subscribers 3
    | _ => noPorts
  s.raisePoint i (.write r w) (portUnion (writerPorts w) others)

/-- QUALITY is raised each time a LIVE point's quality takes a different value (R36). -/
def State.setQuality (s : State) (i : PointIdx) (q : Quality) : State :=
  if (s.point i).quality = q then s
  else (s.modPoint i fun t => { t with quality := q }).raisePoint i .quality ((s.point i).subscribers 2)

/-! ### Tallies (R129, R130) -/

/-- Whether a counter counts one of the events of a report: its event is among them and, for events that
judge a node, its filter is 0 or the address. -/
def Tally.counts (t : Tally) (evs : List TallyEvent) (node : Option NodeIdx) : Bool :=
  decide (t.event ∈ evs) &&
    (match node with
     | none => true
     | some n => decide (t.filter = 0 ∨ t.filter = nodeAddress n))

def Tally.step (t : Tally) : Tally := { t with count := t.count + 1 }

/-- A report of the Link Engine or the Scheduler to the tallies: each matching counter adds 1, and TALLY is
raised when its count goes from 65535 to 0 (R130). -/
def State.tally (s : State) (g : Seg) (evs : List TallyEvent) (node : Option NodeIdx) : State :=
  let v := s.seg g
  let c0 := v.tally0.counts evs node
  let c1 := v.tally1.counts evs node
  let s1 := s.modSeg g fun v =>
    { v with tally0 := if c0 then v.tally0.step else v.tally0, tally1 := if c1 then v.tally1.step else v.tally1 }
  let s2 := if c0 && decide (v.tally0.count = 0xFFFF) then s1.raiseSeg g (.tally false) else s1
  if c1 && decide (v.tally1.count = 0xFFFF) then s2.raiseSeg g (.tally true) else s2

/-! ### Node references and the closure of records (R16, R17, R120) -/

/-- A point is defined on the address (R120). -/
def NodeRec.join (n : NodeRec) : NodeRec :=
  if n.refs = 0 then ⟨.unknown, 1, 0, false⟩ else { n with refs := n.refs + 1 }

/-- A point of the address enters CLOSED (R120). -/
def NodeRec.leave (n : NodeRec) : NodeRec :=
  if n.refs ≤ 1 then ⟨.idle, 0, 0, false⟩ else { n with refs := n.refs - 1 }

/-- Whether an attention list holds an entry for the present use of the record. -/
def State.named (s : State) (p : Port) (i : PointIdx) : Bool :=
  (s.port p).attention.any (Entry.isPoint i (s.point i).generation)

/-- The closure condition (R17): a CLOSED record that neither list names becomes FREE, its generation raised
by 1 (R6). -/
def State.closureTest (s : State) (i : PointIdx) : State :=
  if (s.point i).life = .closed ∧ s.named .a i = false ∧ s.named .b i = false then
    s.setPoint i (Point.cleared ((s.point i).generation + 1))
  else s

/-- The record of a point that has entered CLOSED (R2, R16): what a snapshot shows is kept, the rest is
cleared. -/
def Point.close (t : Point) : Point :=
  { t with
    life := .closed
    divider := 0
    phase := 0
    staleLimit := 0
    verify := false
    deadband := none
    slot := none
    inFlight := none
    safe := none
    subs := ⟨0, 0⟩
    demanders := noPorts
    retireSet := noPorts }

/-- Entry into CLOSED (R16), in its order: the node's count falls, RETIRED is raised, the sets and
subscriptions are cleared, the closure condition is tested. -/
def State.closePoint (s : State) (i : PointIdx) : State :=
  let t := s.point i
  let s1 := s.modNode t.seg t.node NodeRec.leave
  let s2 := s1.raisePoint i .retired (portUnion t.subscribed (portUnion t.demanders t.retireSet))
  (s2.modPoint i Point.close).closureTest i

/-! ### Checks of commands (R5, R165, R166) -/

/-- The handle check (R5). -/
def State.handleOk (s : State) (h : Handle) : Bool :=
  decide ((s.point h.idx).life = .live ∧ (s.point h.idx).generation = h.generation)

inductive GroupRight where
  | read | write | manage
  deriving DecidableEq, Repr

inductive DeviceRight where
  | scan | feed | rights
  deriving DecidableEq, Repr

def GroupRight.bit : GroupRight → Nat
  | .read => 0
  | .write => 1
  | .manage => 2

def DeviceRight.bit : DeviceRight → Nat
  | .scan => 0
  | .feed => 1
  | .rights => 2

def State.hasGroup (s : State) (p : Port) (r : GroupRight) (k : Fin 16) : Bool :=
  ((s.port p).rights[k.val]).getLsbD r.bit

def State.hasDevice (s : State) (p : Port) (r : DeviceRight) : Bool := (s.port p).device.getLsbD r.bit

/-- What a block answers to a command: the state it leaves, the result and the result bytes. -/
structure Answer where
  state : State
  result : Result
  data : List Byte

/-- A refused command changes nothing and its reply has result length 0 (R165). -/
def refuse (s : State) (r : Result) : Answer := ⟨s, r, []⟩

def accept (s : State) (data : List Byte) : Answer := ⟨s, .ok, data⟩

/-- The calling port lacks a group right that the command needs; a command without one needs none. -/
def State.lacksGroup (s : State) (p : Port) (r : Option GroupRight) (k : Fin 16) : Bool :=
  match r with
  | none => false
  | some r => !s.hasGroup p r k

/-- The calling port lacks a device right that the command needs. -/
def State.lacksDevice (s : State) (p : Port) (r : Option DeviceRight) : Bool :=
  match r with
  | none => false
  | some r => !s.hasDevice p r

/-- The checks of a command whose first two parameter bytes are a point's handle, in the order of R165:
parameters (length, and the command's own conditions), handle, right. -/
def onPoint (s : State) (p : Port) (ps : List Byte) (len : Nat) (valid : Bool) (r : Option GroupRight)
    (body : PointIdx → Answer) : Answer :=
  if ps.length ≠ len ∨ valid = false then refuse s .badParameter
  else
    let h := argHandle ps 0
    if s.handleOk h = false then refuse s .staleHandle
    else if s.lacksGroup p r (s.point h.idx).group = true then refuse s .noRight
    else body h.idx

/-- The checks of a command whose first parameter byte is a segment, in the order of R165. -/
def onSeg (s : State) (p : Port) (ps : List Byte) (len : Nat) (valid : Bool) (r : Option DeviceRight)
    (body : Seg → Answer) : Answer :=
  if ps.length ≠ len ∨ valid = false then refuse s .badParameter
  else
    match segOf (arg ps 0) with
    | none => refuse s .badParameter
    | some g => if s.lacksDevice p r = true then refuse s .noRight else body g

/-! ### Transactions (R162 to R164, R171) -/

/-- A LAPSED port resumes (R171). -/
def State.resume (s : State) (p : Port) : State :=
  if (s.port p).lapsed then
    (s.modPort p fun u =>
      { u with lapsed := false, supTimer := if u.supPeriod = 0 then none else some 0 }).raiseDev p.other .peerResumed
  else s

/-- The three steps a valid frame causes before its command is checked (R163). -/
def State.acceptFrame (s : State) (p : Port) : State :=
  (s.resume p).modPort p fun u =>
    { u with supTimer := u.supTimer.map fun _ => 0, resetSeen := false }

def State.putReply (s : State) (p : Port) (r : Reply) : State :=
  s.modPort p fun u => { u with reply := some r }

def State.shiftOut (s : State) (p : Port) (bytes : List Byte) : State :=
  s.modPort p fun u => { u with miso := bytes }

/-- What a COMMAND transaction of `len` bytes shifts out: the status byte, then 0x00 (Table 10-2). Table 10-2 ends
at byte 4 + n and is about byte 0 = 0xA1; 0x00 beyond it, and after another first byte, is the model's choice
(notes/assumptions/31). -/
def commandOut (status : Byte) (len : Nat) : List Byte := status :: List.replicate (len - 1) 0

/-- The chip-select falls (R162, R164, R174): the port latches what the transaction shows; one that begins in a
device reset is ignored. A chip-select that is low already does not fall (notes/assumptions/2). -/
def State.selectFalls (s : State) (p : Port) : State :=
  s.modPort p fun u =>
    { u with
      select :=
        match u.select with
        | .high => if s.inReset then .ignored else .low u.statusByte u.reply
        | x => x }

def State.selectRises (s : State) (p : Port) : State := s.modPort p fun u => { u with select := .high }

/-- The rising chip-select ends a transaction (R162): the device acts on one that it takes, and not at all on one
that it ignores (R174). -/
def transfer (p : Port) (body : State → State) (s : State) : Host.Outcome State Fault Refusal :=
  .next ((if s.hears p then body s else s).selectRises p)

/-- A valid COMMAND transaction (R163, R165): the frame is accepted, the command carried out whole, and its reply
placed in the slot. A longer parameter field than R163 allows makes no valid frame (notes/assumptions/23). -/
def command (code : Byte) (p : Port) (tag : Byte) (ps : List Byte) (body : State → Answer) (s : State) :
    Host.Outcome State Fault Refusal :=
  if Config.maxParams < ps.length then .next s
  else
    transfer p (fun s =>
      let a := body (s.acceptFrame p)
      (a.state.putReply p ⟨tag, code, a.result, a.data⟩).shiftOut p (commandOut (s.port p).shown (5 + ps.length))) s

/-- An event of the table other than a transaction: ignored in a device reset (R147). -/
def event (body : State → State) (s : State) : Host.Outcome State Fault Refusal :=
  if s.inReset then .next s else .next (body s)

/-! ### The order of the blocks' parts (R152) -/

/-- The parts that are due, in the order the step's operand gives and then in the model's own order; each is
taken once. -/
def arrange (order due : List Part) : List Part :=
  let named := (order.filter fun x => decide (x ∈ due)).dedup
  named ++ due.filter fun x => decide (x ∉ named)

/-- The parts of one event taken in turn. -/
def State.takeParts (s : State) (run : Part → State → State) (parts : List Part) : State :=
  parts.foldl (fun s x => run x s) s

/-- A change for each of some points in turn. -/
def State.forPoints (s : State) (is : List PointIdx) (f : PointIdx → State → State) : State :=
  is.foldl (fun s i => f i s) s

end Sys2Proof.Machine
end

