-- ==== Sys2Proof/Machine/Limiter.lean ====
section
/-! DEFINITION. The Limit Evaluator: change detection, then band classification, at each value update.
Spec: 03_limit_bands_and_change_detection.md (R41, R43, R44, R46, R49, R50). -/

namespace Sys2Proof.Machine

/-- Table 3-1, by the first matching line from the state the band holds. -/
def Band.classify (b : Band) (v : Int) : BandState :=
  match b.state with
  | .unset => if b.high < v then .above else if v < b.low then .below else .inside
  | .inside => if b.high < v then .above else if v < b.low then .below else .inside
  | .above => if v < b.low then .below else if v ≤ b.high - b.hysteresis then .inside else .above
  | .below => if b.high < v then .above else if b.low + b.hysteresis ≤ v then .inside else .below

/-- The changes of band state that raise LIMIT (R44). -/
def limitDue (before after : BandState) : Bool :=
  decide (before ≠ after) && !(decide (before = .unset) && decide (after = .inside))

/-- Whether a value update raises CHANGE (R49 without a deadband, R50 with one). -/
def changeDue (d : Option Deadband) (old : Option Int) (v : Int) : Bool :=
  match old, d with
  | none, _ => true
  | some u, none => decide (u ≠ v)
  | some _, some d =>
    match d.reference with
    | none => true
    | some r => decide (d.width ≤ (v - r).natAbs)

/-- CHANGE and the new deadband reference (R49, R50). -/
def State.judgeChange (s : State) (i : PointIdx) (old : Option Int) (v : Int) : State :=
  if changeDue (s.point i).deadband old v then
    (s.modPoint i fun t => { t with deadband := t.deadband.map fun d => { d with reference := some v } }).raisePoint
      i .change ((s.point i).subscribers 0)
  else s

/-- The band's classification of a value, with LIMIT (R43, R44). -/
def State.judgeBand (s : State) (i : PointIdx) (v : Int) : State :=
  match (s.point i).band with
  | none => s
  | some b =>
    let after := b.classify v
    let s1 := s.modPoint i fun t => { t with band := some { b with state := after } }
    if limitDue b.state after then s1.raisePoint i .limit ((s.point i).subscribers 1) else s1

/-- The Limit Evaluator at a value update, the new value already stored (R41). -/
def State.evaluate (s : State) (i : PointIdx) (old : Option Int) (v : Int) : State :=
  (s.judgeChange i old v).judgeBand i v

end Sys2Proof.Machine
end

