-- ==== Sys2Proof/Machine/Sched.lean ====
section
/-! DEFINITION. The Segment Scheduler and the Trigger Router: scan lists and cursor, visits and grants,
cycles, overruns and cuts, halts, the demand queue, the arbiter, trigger events; and the beginning of an
attempt, which a grant contains.
Spec: 05_scan_lists_and_segment_scheduling.md, R54, R57, R58, R64 (04), R105, R107, R108 (06), R126 (07). -/

namespace Sys2Proof.Machine

/-! ### The scan list and the cursor (R74 to R76) -/

/-- The point after `i` in a scan list, or END. -/
def successor : List PointIdx → PointIdx → Option PointIdx
  | [], _ => none
  | x :: xs, i => if x = i then xs.head? else successor xs i

/-- The points that a walk from the cursor visits. -/
def remaining (l : List PointIdx) : Option PointIdx → List PointIdx
  | none => []
  | some i => l.dropWhile fun x => decide (x ≠ i)

/-- A list with `i` immediately before `b`, or at the end where `b` is not in the list. -/
def insertBefore (i b : PointIdx) : List PointIdx → List PointIdx
  | [] => [i]
  | x :: xs => if x = b then i :: x :: xs else x :: insertBefore i b xs

/-- A point joins at the end, or before a named point; the cursor keeps naming the same point (R74, R75). -/
def Scheduler.joinList (c : Scheduler) (i : PointIdx) (before : Option PointIdx) : Scheduler :=
  { c with
    list :=
      match before with
      | none => c.list ++ [i]
      | some b => insertBefore i b c.list }

/-- A point leaves the list, the cursor judged first (R76). -/
def Scheduler.leaveList (c : Scheduler) (i : PointIdx) : Scheduler :=
  { c with
    cursor := if c.cursor = some i then successor c.list i else c.cursor
    list := c.list.filter fun x => decide (x ≠ i) }

/-! ### Stopping and halting -/

/-- Entry into STOPPED (R83, R87). -/
def Scheduler.stop (c : Scheduler) : Scheduler :=
  { c with scan := .stopped, cursor := none, periodTimer := none, cut := false, deferred := false }

/-- Entry into HALTED (R92, R93). -/
def Scheduler.halt (c : Scheduler) (why : ScanState) : Scheduler :=
  { c with scan := why, cursor := c.list.head?, periodTimer := none, cut := false, deferred := false }

/-- The count of ended cycles after one more (R83). -/
def Scheduler.counted (c : Scheduler) : Nat := min (c.cyclesEnded + 1) Config.countMax

/-- The count has reached a non-zero C (R83 Case A, R91). -/
def Scheduler.reached (c : Scheduler) (n : Nat) : Bool := decide (c.cfg.cycles ≠ 0 ∧ n = c.cfg.cycles)

/-- STOPPED with SCAN_ENDED raised. -/
def State.endScan (s : State) (g : Seg) : State := (s.modSched g Scheduler.stop).raiseSeg g .scanEnded

/-! ### Cycles (R81 to R83) -/

/-- A trigger value matches a segment (R99). -/
def ScanCfg.triggeredBy (c : ScanCfg) (v : Fin 16) : Bool :=
  decide (c.mode = .triggered) && decide (v.val = 0 ∨ v.val = c.trigger)

/-- An input holds a level that matches the segment (R102). -/
def TriggerInput.holdsFor (t : TriggerInput) (c : ScanCfg) : Bool :=
  t.held &&
    (match t.value with
     | none => false
     | some v => c.triggeredBy v)

def State.heldFor (s : State) (g : Seg) : Bool :=
  s.trigs.trg0.holdsFor (s.sched g).cfg || s.trigs.trg1.holdsFor (s.sched g).cfg

/-- The start of a cycle: RUNNING, cursor at the head, the cycle exchange mark, the deferred start and every
probe mark of the segment cleared (R81, R126). -/
def State.beginCycle (s : State) (g : Seg) : State :=
  (s.modSched g fun c =>
    { c with scan := .running, cursor := c.list.head?, cycleMark := false, deferred := false }).mapNodes g
    fun n => { n with probe := false }

/-- A completion is followed by a start: FREE_RUN with P = 0, or a held LEVEL trigger (R81, R83, R102). -/
def State.restarts (s : State) (g : Seg) : Bool :=
  (decide ((s.sched g).cfg.mode = .freeRun) && decide ((s.sched g).cfg.period = 0)) || s.heldFor g

/-- The completion of a cycle, up to a new start (R83): the count and the next state, and whether a cycle
starts in the same event. A start after a cycle without a scan exchange is deferred (R81). -/
def State.completeOnce (s : State) (g : Seg) : State × Bool :=
  let c := s.sched g
  let n := c.counted
  let s1 := s.modSched g fun c => { c with cyclesEnded := n }
  if c.reached n || decide (c.scan = .finishing) then (s1.endScan g, false)
  else
    let again := s.restarts g
    (s1.modSched g fun d => { d with scan := .waiting, deferred := again && !c.cycleMark }, again && c.cycleMark)

/-- A cycle starts; on an empty list it completes in the same event, and the next start is deferred (R81,
R82). -/
def State.startCycle (s : State) (g : Seg) : State :=
  let s1 := s.beginCycle g
  if (s1.sched g).cursor = none then (s1.completeOnce g).1 else s1

/-- A cycle completes (R83). -/
def State.complete (s : State) (g : Seg) : State :=
  let r := s.completeOnce g
  if r.2 then r.1.startCycle g else r.1

/-- A pending cut is applied (R91): the cycle in progress ends and is counted, then the scan stops or a new
cycle starts (notes/assumptions/25 for a cut that finds no cycle in progress). -/
def State.applyCut (s : State) (g : Seg) : State :=
  let c := s.sched g
  let n := if c.scan.inCycle then c.counted else c.cyclesEnded
  let s1 := s.modSched g fun d => { d with cut := false, cyclesEnded := n }
  if c.scan.inCycle || decide (c.scan = .waiting) then
    if c.reached n then s1.endScan g else s1.startCycle g
  else s1

/-! ### Attempts and grants (R78, R105, R107, R108) -/

/-- An attempt of an exchange begins in SENDING: at once on an idle line, else after an idle wait (R108). -/
def State.beginAttempt (s : State) (g : Seg) (x : Exchange) (idle : Bool) : State :=
  s.modLink g fun l =>
    { l with
      state := .busy .sending { x with attempts := x.attempts + 1 }
      windowTimer := none
      backoffTimer := none
      idleTimer := if idle then none else some Config.idleWaitMicros
      gapTimer := none
      recoveryTimer := none }

/-- The exchange record of a grant (R107), its request built once (R105). -/
def Point.exchange (t : Point) (i : PointIdx) (f : Func) (k : GrantKind) : Exchange :=
  let data :=
    match f with
    | .read => none
    | .write => t.slot.map Slot.value
  { target := i
    node := t.node
    object := t.object
    width := t.width
    func := f
    data := data
    kind := k
    request := requestFrame t.node t.object t.width f data
    attempts := 0
    last := none }

/-- A grant hands an exchange to the Link Engine; for a WRITE the pending value becomes the in-flight value
(R54, R78). -/
def State.grant (s : State) (g : Seg) (i : PointIdx) (f : Func) (k : GrantKind) (e : Env) : State :=
  let x := (s.point i).exchange i f k
  let s1 :=
    match f with
    | .read => s
    | .write => s.modPoint i fun t => { t with inFlight := t.slot, slot := none }
  s1.beginAttempt g x (e.idle.get g)

/-- A scan grant sets the cycle exchange mark and the node's probe mark and clears the back-to-back count
(R78, R98, R126). -/
def State.grantScan (s : State) (g : Seg) (i : PointIdx) (f : Func) (e : Env) : State :=
  let s1 := s.modSched g fun c => { c with cycleMark := true, backToBack := 0 }
  (s1.modNode g (s.point i).node fun n => { n with probe := true }).grant g i f .scan e

/-- The exchange of a demand grant (R39, R64). -/
def Point.demandFunc (t : Point) : Func :=
  match t.kind with
  | .input => .read
  | .output => if t.slot.isSome then .write else .read

/-- The head of the demand queue is granted, if there is one (R78, R96, R98). -/
def State.grantHead (s : State) (g : Seg) (e : Env) : State :=
  match (s.sched g).queue with
  | [] => s
  | d :: ds =>
    (s.modSched g fun c =>
      { c with
        queue := { d with granted := true } :: ds
        backToBack := min (c.backToBack + 1) Config.backToBackMax }).grant
      g d.point (s.point d.point).demandFunc .demand e

/-! ### Visits and walks (R77, R98, R126) -/

/-- The exchange that a polled point needs, if any (R64, R77). -/
def Point.pollFunc (t : Point) : Option Func :=
  match t.kind with
  | .input => some .read
  | .output => if t.slot.isSome then some .write else if t.verify then some .read else none

/-- The Node Tracker's ruling: a point of a LOST node is skipped once the node's probe mark is set (R126). -/
def NodeRec.skips (n : NodeRec) : Bool := decide (n.state = .lost) && n.probe

/-- A visit (R77): the phase, the ruling, the exchange it needs, and the cursor's move. -/
def State.visit (s : State) (g : Seg) (i : PointIdx) : State × Option Func :=
  let t := s.point i
  let s1 := s.modSched g fun c => { c with cursor := successor c.list i }
  if t.phase ≠ 0 then (s1.modPoint i fun t => { t with phase := t.phase - 1 }, none)
  else
    let s2 := s1.modPoint i fun t => { t with phase := t.divider - 1 }
    if (s.node g t.node).skips then (s2, none) else (s2, t.pollFunc)

/-- Visits in turn until one needs an exchange, which is granted; whether one was. -/
def State.visitAll (g : Seg) (e : Env) : List PointIdx → State → State × Bool
  | [], s => (s, false)
  | i :: is, s =>
    match s.visit g i with
    | (s1, some f) => (s1.grantScan g i f e, true)
    | (s1, none) => State.visitAll g e is s1

/-- The visits from the cursor on. -/
def State.visitOn (s : State) (g : Seg) (e : Env) : State × Bool :=
  State.visitAll g e (remaining (s.sched g).list (s.sched g).cursor) s

/-- A walk (R98): it visits from the cursor; where it grants nothing the cycle completes, and it goes on in
a new cycle that starts at once. That cycle has granted nothing when its own visits end, so its completion
defers the next start. -/
def State.walk (s : State) (g : Seg) (e : Env) : State × Bool :=
  let r := s.visitOn g e
  if r.2 then r
  else
    let s2 := r.1.complete g
    if (s2.sched g).scan.inCycle && (s2.sched g).cursor.isSome then
      let q := s2.visitOn g e
      if q.2 then q else (q.1.complete g, false)
    else (s2, false)

/-- The arbiter's decision (R97, R98): only while the link is READY. -/
def State.arbitrate (s : State) (g : Seg) (e : Env) : State :=
  if (s.link g).state = .ready then
    let c := s.sched g
    if !c.queue.isEmpty && decide (c.backToBack < c.cfg.share) then s.grantHead g e
    else if c.scan.inCycle && c.cursor.isSome then
      let r := s.walk g e
      if r.2 then r.1 else r.1.grantHead g e
    else s.grantHead g e
  else s

/-! ### The demand queue (R57, R58, R95) -/

def Scheduler.entry (c : Scheduler) (i : PointIdx) : Option DemandEntry :=
  c.queue.find? fun d => decide (d.point = i)

def Scheduler.room (c : Scheduler) : Bool := decide (c.queue.length < Config.queueEntries)

/-- A new entry at the tail. -/
def State.joinQueue (s : State) (g : Seg) (i : PointIdx) (ports : PortSet) : State :=
  s.modSched g fun c => { c with queue := c.queue ++ [⟨i, ports, false⟩] }

/-- The cases of R57 for an urgent value of the point, by their codes. -/
def State.urgentCode (s : State) (g : Seg) (i : PointIdx) : Nat :=
  if s.powered g then
    match (s.sched g).entry i with
    | some d => if d.granted then 5 else 2
    | none => if (s.sched g).room then 1 else 3
  else 4

/-- An urgent value is offered to the demand queue (R57): Case E places an entry with an empty port set. -/
def State.offerUrgent (s : State) (g : Seg) (i : PointIdx) : State :=
  if s.urgentCode g i = 1 then s.joinQueue g i noPorts else s

/-- The slot of the point holds an urgent value. -/
def Point.urgentPending (t : Point) : Bool :=
  match t.slot with
  | some f => f.urgent
  | none => false

/-- A LIVE point whose slot holds an urgent value is offered again (R58, R63, R68). -/
def State.offerAgain (s : State) (g : Seg) (i : PointIdx) : State :=
  if (s.point i).life = .live && (s.point i).urgentPending then s.offerUrgent g i else s

/-! ### Overruns, triggers and the exit from HALTED (R84, R86, R89 to R91, R94, R99) -/

/-- An overrun (R89): counted, raised, tallied; under CUT in RUNNING the cut is set pending, or applied at
once where no exchange is in flight (R91). -/
def State.overrun (s : State) (g : Seg) (e : Env) : State :=
  let c := s.sched g
  let s1 := s.modSched g fun c => { c with overruns := min (c.overruns + 1) Config.countMax }
  let s2 := (s1.raiseSeg g .overrun).tally g [.overruns] none
  if c.cfg.policy = .cut && decide (c.scan = .running) then
    if (s.link g).exchange.isSome then s2.modSched g fun c => { c with cut := true }
    else (s2.applyCut g).arbitrate g e
  else s2

/-- A trigger event at one segment, with the code of R99. -/
def State.triggerAt (s : State) (g : Seg) (v : Fin 16) (e : Env) : State × Nat :=
  if (s.sched g).cfg.triggeredBy v then
    match (s.sched g).scan with
    | .waiting => ((s.startCycle g).arbitrate g e, 1)
    | .running => (s.overrun g e, 2)
    | .finishing => (s.overrun g e, 2)
    | _ => (s, 3)
  else (s, 0)

/-- A trigger event at all four segments, and their codes in order (R99, R100). -/
def State.trigger (s : State) (v : Fin 16) (e : Env) : State × List Nat :=
  let r0 := s.triggerAt .s0 v e
  let r1 := r0.1.triggerAt .s1 v e
  let r2 := r1.1.triggerAt .s2 v e
  let r3 := r2.1.triggerAt .s3 v e
  (r3.1, [r0.2, r1.2, r2.2, r3.2])

/-- From WAITING as START_SCAN and the exit from HALTED reach it: FREE_RUN starts a cycle and, where P is not
0, the period timer; TRIGGERED starts one under a held LEVEL trigger (R84, R86, R94, R102). -/
def State.setGoing (s : State) (g : Seg) : State :=
  let c := (s.sched g).cfg
  let s1 := s.modSched g fun d => { d with scan := .waiting }
  match c.mode with
  | .freeRun =>
    (s1.modSched g fun d =>
      { d with periodTimer := if c.period = 0 then none else some (c.period * 100) }).startCycle g
  | .triggered => if s1.heldFor g then s1.startCycle g else s1

/-- A HALTED scan is left (R94). -/
def State.leaveHalted (s : State) (g : Seg) : State :=
  if (s.sched g).scan.halted then s.setGoing g else s

/-- The link has entered READY: a HALTED scan is left and the arbiter decides (R94, R97). -/
def State.linkReady (s : State) (g : Seg) (e : Env) : State := (s.leaveHalted g).arbitrate g e

end Sys2Proof.Machine
end

