-- ==== Sys2Proof/Machine/Outcome.lean ====
section
/-! DEFINITION. What an exchange outcome does: to the point and its output fields, to the node record and the
tallies, and to the Scheduler.
Spec: R15 (01), R25 to R32, R40 (02), R58, R61 to R63, R65 (04), R79 (05), R112 (06), R121, R125, R130 (07). -/

namespace Sys2Proof.Machine

/-! ### At a LIVE point -/

/-- An OK READ at a LIVE point: R26 for an INPUT point, R27 with R65 for an OUTPUT point with a value, R28
for one without. -/
def State.readOk (s : State) (i : PointIdx) (v : Int) : State :=
  let t := s.point i
  match t.kind, t.value with
  | .output, some d =>
    if v = d then (s.modPoint i fun t => { t with observed := some v, age := 0 }).setQuality i .good
    else
      (s.modPoint i fun t =>
        { t with
          observed := some v
          slot := if t.slot.isSome then t.slot else some ⟨d, .reassert, false⟩ }).setQuality i .disagree
  | .output, none =>
    ((s.modPoint i fun t => { t with value := some v, observed := some v, age := 0 }).setQuality i .good).evaluate
      i none v
  | .input, old =>
    ((s.modPoint i fun t => { t with value := some v, age := 0 }).setQuality i .good).evaluate i old v

/-- An OK WRITE at a LIVE point: DELIVERED (R29, R61). -/
def State.deliver (s : State) (i : PointIdx) : State :=
  let t := s.point i
  match t.inFlight with
  | none => s
  | some f =>
    (((s.modPoint i fun t =>
      { t with value := some f.value, age := 0, inFlight := none, failed := 0 }).setQuality i .good).evaluate
        i t.value f.value).raiseWrite i .delivered f.writer

/-- The Output Slot logic's part of a refused WRITE (R62). -/
def State.writeRefused (s : State) (i : PointIdx) : State :=
  match (s.point i).inFlight with
  | none => s
  | some f => (s.modPoint i fun t => { t with inFlight := none, failed := 0 }).raiseWrite i .refused f.writer

/-- A WRITE that ends FAILED, DEFERRED, LINE_FAULT or ABANDONED at a LIVE point (R63): the value returns to
an empty slot, or gives way to a newer one; failed attempts rise; the first failure of a run is told. -/
def State.writeNotFinal (s : State) (g : Seg) (i : PointIdx) (k : GrantKind) : State :=
  let t := s.point i
  match t.inFlight with
  | none => s
  | some f =>
    let waiting := t.slot.getD f
    let s1 := s.modPoint i fun t =>
      { t with inFlight := none, slot := some waiting, failed := min (t.failed + 1) Config.countMax }
    let s2 := if t.slot.isSome then s1.raiseWrite i .superseded f.writer else s1
    let s3 := if t.failed = 0 then s2.raiseWrite i .delayed waiting.writer else s2
    if k = .scan && t.slot.isNone then s3.offerAgain g i else s3

/-- An outcome at a LIVE point (R26 to R31, R61 to R63). -/
def State.outcomeLive (s : State) (g : Seg) (x : Exchange) (o : ExchangeOutcome) (received : Option Int) : State :=
  let i := x.target
  match o, x.func with
  | .ok, .read =>
    match received with
    | some v => s.readOk i v
    | none => s
  | .ok, .write => s.deliver i
  | .refused, .read => s.setQuality i .refused
  | .refused, .write => (s.setQuality i .refused).writeRefused i
  | _, .read => s
  | _, .write => s.writeNotFinal g i x.kind

/-! ### At a RETIRING point (R15) -/

/-- The WRITE result of a RETIRING point's exchange. -/
def ExchangeOutcome.retiringResult : ExchangeOutcome → WriteResult
  | .ok => .delivered
  | .refused => .refused
  | _ => .cancelled

/-- An outcome at a RETIRING point: read data is discarded; a write's result goes to its writer alone. -/
def State.outcomeRetiring (s : State) (i : PointIdx) (o : ExchangeOutcome) : State :=
  let t := s.point i
  match t.inFlight with
  | none => s
  | some f =>
    let w := writerPorts f.writer
    (s.modPoint i fun t => { t with inFlight := none }).raisePoint i (.write o.retiringResult f.writer)
      ⟨w.a && t.retireSet.a, w.b && t.retireSet.b⟩

/-- The part of the Point Table and the Output Slot logic in an outcome. -/
def State.outcomePoint (s : State) (g : Seg) (x : Exchange) (o : ExchangeOutcome) (received : Option Int) : State :=
  match (s.point x.target).life with
  | .live => s.outcomeLive g x o received
  | .retiring => s.outcomeRetiring x.target o
  | _ => s

/-! ### At the node (R121, R122, R125, R130) -/

/-- The judgement of a node record (R121); a record that no point names is not judged. -/
def NodeRec.judge (n : NodeRec) (o : ExchangeOutcome) (lostLimit : Nat) : NodeRec :=
  if n.state = .idle then n
  else
    match o with
    | .ok => { n with failures := 0, state := .online }
    | .refused => { n with failures := 0, state := .online }
    | .deferred => { n with failures := 0, state := .online }
    | .failed =>
      let f := min (n.failures + 1) Config.failuresMax
      { n with failures := f, state := if n.state = .lost ∨ lostLimit ≤ f then .lost else .suspect }
    | .lineFault => n
    | .abandoned => n

/-- The tally events of an outcome (Table 7-4). -/
def outcomeEvents (x : Exchange) (o : ExchangeOutcome) : List TallyEvent :=
  (if o = .ok then [.exchangesOk] else []) ++ (if o = .refused then [.refusals] else []) ++
    (if x.kind = .demand then [.demandExchanges] else []) ++
    (if o = .ok ∧ x.func = .write then [.writesDelivered] else [])

/-- The LIVE points of a segment, in ascending index order. -/
def State.livePoints (s : State) (g : Seg) : List PointIdx :=
  allPoints.filter fun i => decide ((s.point i).life = .live ∧ (s.point i).seg = g)

/-- The Point Table's part of a node's entry into LOST (R32). -/
def State.nodeLost (s : State) (g : Seg) (n : NodeIdx) : State :=
  s.forPoints (s.livePoints g) fun i s =>
    if (s.point i).node = n ∧ (s.point i).quality ≠ .unpowered then s.setQuality i .nodeLost else s

/-- The parts that follow a judgement: NODE where the state changed, and the points of a node that entered
LOST. Their order is open (R152, notes/assumptions/9). -/
def State.judgeParts (g : Seg) (n : NodeIdx) (changed lost : Bool) : Part → State → State
  | .nodes _, s => if changed then s.raiseSeg g (.node n) else s
  | .points _, s => if lost then s.nodeLost g n else s
  | _, s => s

/-- The Node Tracker's part in an outcome (R121, R125, R130). -/
def State.outcomeNode (s : State) (g : Seg) (x : Exchange) (o : ExchangeOutcome) (order : List Part) : State :=
  let before := s.node g x.node
  let after := before.judge o (s.link g).cfg.lostLimit
  let s1 := s.modNode g x.node fun _ => after
  let s2 := s1.tally g (outcomeEvents x o) (some x.node)
  s2.takeParts
    (State.judgeParts g x.node (decide (after.state ≠ before.state))
      (decide (after.state = .lost) && decide (before.state ≠ .lost)))
    (arrange order [.nodes g, .points g])

/-- A RETIRING point enters CLOSED when its exchange has ended (R15). -/
def State.outcomeClose (s : State) (i : PointIdx) : State :=
  if (s.point i).life = .retiring then s.closePoint i else s

/-! ### At the Scheduler (R40, R58, R79) -/

/-- The DEMAND outcome of an exchange outcome (R40). -/
def ExchangeOutcome.demandOutcome : ExchangeOutcome → DemandOutcome
  | .ok => .completed
  | .refused => .completed
  | .failed => .failed
  | .deferred => .failed
  | .lineFault => .failed
  | .abandoned => .abandoned

/-- DEMAND to a LIVE point's demanders, whose set is then emptied (R40). -/
def State.tellDemanders (s : State) (i : PointIdx) (o : DemandOutcome) : State :=
  if (s.point i).life = .live then
    (s.raisePoint i (.demand o) (s.point i).demanders).modPoint i fun t => { t with demanders := noPorts }
  else s

/-- The end of a demand exchange (R79 step 1): DEMAND, then the granted entry leaves the queue, then an
urgent value is offered again (R58). -/
def State.endDemand (s : State) (g : Seg) (i : PointIdx) (o : ExchangeOutcome) : State :=
  ((s.tellDemanders i o.demandOutcome).modSched g fun c =>
    { c with queue := c.queue.filter fun d => !(decide (d.point = i) && d.granted) }).offerAgain g i

/-- The Scheduler's part in an outcome (R79). -/
def State.outcomeSched (s : State) (g : Seg) (x : Exchange) (o : ExchangeOutcome) : State :=
  let s1 := if x.kind = .demand then s.endDemand g x.target o else s
  let s2 := if (s1.sched g).scan = .stopping then s1.modSched g Scheduler.stop else s1
  if o = .abandoned then s2
  else if (s2.sched g).cut then s2.applyCut g
  else if (s2.sched g).scan.inCycle && (s2.sched g).cursor.isNone && decide (x.kind = .scan) then s2.complete g
  else s2

/-- The point's owners apply an outcome, in the order that R79, R112, R120 and R121 give them: the point and its
output fields, the judgement of the node, and only then the closure of a RETIRING point, by which the node's count
falls. -/
def State.applyOutcome (s : State) (g : Seg) (x : Exchange) (o : ExchangeOutcome) (received : Option Int)
    (order : List Part) : State :=
  ((s.outcomePoint g x o received).outcomeNode g x o order).outcomeClose x.target

/-- An outcome is handed on (R79, R112): the point's owners, then the Scheduler. -/
def State.hand (s : State) (g : Seg) (x : Exchange) (o : ExchangeOutcome) (received : Option Int)
    (order : List Part) : State :=
  (s.applyOutcome g x o received order).outcomeSched g x o

end Sys2Proof.Machine
end

