-- ==== Sys2Proof/Machine/LinkEngine.lean ====
section
/-! DEFINITION. The Segment Link Engine: the judgement of responses, attempt results, the settling of
outcomes, line faults and recovery.
Spec: 06_segment_link_exchanges.md (R106, R108 to R115). -/

namespace Sys2Proof.Machine

/-! ### Responses (R106) -/

/-- A character is received whole: even parity and a stop bit at the idle level (R106). -/
def RxChar.sound (c : RxChar) : Bool := decide (c.parity = parityBit c.data) && c.stop

/-- The result that a response status names (Table 6-4b). -/
def statusResult : Nat → Option AttemptResult
  | 0 => some .accepted
  | 1 => some .busy
  | 2 => some .noObject
  | 3 => some .badLength
  | 4 => some .readOnly
  | _ => none

/-- The number of data characters a valid response with this result carries (R106). -/
def dataLength (x : Exchange) (r : AttemptResult) : Nat :=
  if r = .accepted ∧ x.func = .read then x.width.bytes else 0

/-- The judgement of a response whose frame has ended: CHECK_ERROR, or the result its status names (R106). -/
def judgeResponse (x : Exchange) (frame : List RxChar) : AttemptResult :=
  let bytes := frame.map RxChar.data
  let n := bytes.length
  let body := (bytes.drop 1).take (n - 2)
  match statusResult (arg bytes 2) with
  | none => .checkError
  | some r =>
    if frame.all RxChar.sound && (frame.drop 1).all (fun c => !c.paused) && decide (5 ≤ n ∧ n ≤ 9) &&
        decide (argByte bytes 0 = 0x5D) && decide (arg bytes 1 = nodeAddress x.node) &&
        decide (arg bytes 3 = n - 5) && decide (arg bytes 3 = dataLength x r) &&
        decide (argByte bytes (n - 1) = linkCheck body) then r
    else .checkError

/-- The data characters of a response. -/
def responseData (frame : List RxChar) : List Byte :=
  let bytes := frame.map RxChar.data
  (bytes.drop 4).take (bytes.length - 5)

/-! ### The end of an attempt (R110 to R112) -/

/-- The link after an outcome other than LINE_FAULT and ABANDONED (R112). -/
def Link.rest (l : Link) (o : ExchangeOutcome) : Link :=
  { l with
    state := .gap
    faults := if o = .ok ∨ o = .refused then 0 else l.faults
    windowTimer := none
    backoffTimer := none
    idleTimer := none
    gapTimer := some l.cfg.bitRate.gapMicros }

/-- An outcome other than LINE_FAULT and ABANDONED is settled: handed on, then the link rests (R112). -/
def State.settle (s : State) (g : Seg) (x : Exchange) (o : ExchangeOutcome) (received : Option Int)
    (order : List Part) : State :=
  (s.hand g x o received order).modLink g fun l => l.rest o

/-- The tally events of an attempt report (Table 7-4). -/
def attemptEvents (x : Exchange) (r : AttemptResult) : List TallyEvent :=
  (if 1 < x.attempts then [.retries] else []) ++
    (match r with
     | .noResponse => [.noResponse]
     | .checkError => [.checkErrors]
     | .busy => [.busyReplies]
     | _ => [])

/-- An attempt ends (R110, R111): the report, then the outcome, a new attempt or a backoff. -/
def State.endAttempt (s : State) (g : Seg) (x : Exchange) (r : AttemptResult) (received : Option Int)
    (idle : Bool) (order : List Part) : State :=
  let s1 := s.tally g (attemptEvents x r) (some x.node)
  let y := { x with last := some r }
  let more := decide (x.attempts < (s.link g).cfg.retries + 1)
  match r with
  | .accepted => s1.settle g y .ok received order
  | .noObject => s1.settle g y .refused none order
  | .badLength => s1.settle g y .refused none order
  | .readOnly => s1.settle g y .refused none order
  | .noResponse => if more then s1.beginAttempt g y idle else s1.settle g y .failed none order
  | .checkError => if more then s1.beginAttempt g y idle else s1.settle g y .failed none order
  | .busy =>
    if more then
      s1.modLink g fun l =>
        { l with state := .busy .backoff y, windowTimer := none, backoffTimer := some Config.backoffMicros }
    else s1.settle g y .deferred none order

/-- A response frame has ended in RECEIVING (R109): judged, its attempt ends. The line is idle then, so a
new attempt transmits at once (R104, R108). -/
def State.frameEnd (s : State) (g : Seg) (x : Exchange) (frame : List RxChar) (order : List Part) : State :=
  let r := judgeResponse x frame
  let received :=
    match r, x.func with
    | .accepted, .read => some (intOfBytes (s.point x.target).signed (responseData frame))
    | _, _ => none
  s.endAttempt g x r received true order

/-! ### Line faults and recovery (R113 to R115) -/

/-- The scan's reaction to the link's entry into LINE_DOWN (R93). -/
def Scheduler.lineDown (c : Scheduler) : Scheduler :=
  match c.scan with
  | .waiting => c.halt .haltedLine
  | .running => c.halt .haltedLine
  | .finishing => c.halt .haltedLine
  | .stopping => c.stop
  | _ => c

/-- The start of a recovery: the drivers off, the recovery timer running (R114, R115). -/
def Link.recover (l : Link) : Link :=
  { l with
    state := .recovering
    windowTimer := none
    backoffTimer := none
    idleTimer := none
    gapTimer := none
    recoveryTimer := some (l.cfg.recovery.millis * 1000) }

/-- LINE_DOWN: no timer runs and the drivers stay off (R114). -/
def Link.down (l : Link) : Link :=
  { l with
    state := .lineDown
    windowTimer := none
    backoffTimer := none
    idleTimer := none
    gapTimer := none
    recoveryTimer := none }

/-- A line fault (R113, R114): an exchange in flight ends LINE_FAULT, the count rises, LINE and the tally
event, then RECOVERING or LINE_DOWN. -/
def State.lineFault (s : State) (g : Seg) : State :=
  let s1 :=
    match (s.link g).exchange with
    | some x => s.hand g x .lineFault none []
    | none => s
  let n := min ((s.link g).faults + 1) Config.faultsMax
  let s2 := s1.modLink g fun l => { l with faults := n }
  let s3 := (s2.raiseSeg g .line).tally g [.lineFaults] none
  if n < (s.link g).cfg.faultLimit then s3.modLink g Link.recover
  else ((s3.modLink g Link.down).raiseSeg g .line).modSched g Scheduler.lineDown

/-- The link becomes READY from GAP or RECOVERING (R112, R115). -/
def State.enterReady (s : State) (g : Seg) (e : Env) : State :=
  (s.modLink g fun l =>
    { l with state := .ready, gapTimer := none, idleTimer := none, recoveryTimer := none }).linkReady g e

end Sys2Proof.Machine
end

