-- ==== Sys2Proof/Machine/FeedOps.lean ====
section
/-! DEFINITION. The Feed Controllers and the Supply and Temperature Monitor: starts, entry into ON, the
leaving of ON with every block's part, trips, and the monitor's hold.
Spec: 08_segment_feeds_and_field_supply.md (R134 to R146), with R15 (01), R33 (02), R63, R66, R68 (04), R79, R92
(05), R112, R117, R118 (06), R120, R121, R123 (07) and R152 (09). -/

namespace Sys2Proof.Machine

/-! ### Opening and closing the switch -/

/-- The switch opens: clamping ends and the clamp, start, settle and retry timers stop (R134, R135, R141,
R146). -/
def Feed.open (f : Feed) (state : FeedState) : Feed :=
  { f with
    state := state
    clamping := false
    clampTimer := false
    startTimer := none
    settleTimer := none
    retryTimer := none }

/-- Entry into STARTING (R138): the switch closes and the start window begins. -/
def Feed.start (f : Feed) : Feed :=
  { f with
    state := .starting, startTimer := some (f.cfg.blanking.millis * 1000), settleTimer := none, retryTimer := none }

/-! ### Entry into ON (R66, R68, R94, R118, R139) -/

/-- The re-assert of one point at power-up (R66). -/
def Point.reassert (g : Seg) (t : Point) : Point :=
  match t.life, t.kind, t.value, t.slot with
  | .live, .output, some v, none => if t.seg = g then { t with slot := some ⟨v, .reassert, false⟩ } else t
  | _, _, _, _ => t

/-- The link goes from OFF to READY with the line-fault count at 0 (R118). -/
def Link.powerUp (l : Link) : Link := { l with state := .ready, faults := 0 }

/-- The LIVE OUTPUT points of a segment, in ascending index order. -/
def State.liveOutputs (s : State) (g : Seg) : List PointIdx :=
  (s.livePoints g).filter fun i => decide ((s.point i).kind = .output)

/-- The feed enters ON: FEED, the link READY, the re-assert values, then the urgent ones in ascending index
order, then the exit from HALTED and the arbiter (R139). -/
def State.feedEntersOn (s : State) (g : Seg) (e : Env) : State :=
  let s1 := s.modFeed g fun f => { f with state := .on, startTimer := none, settleTimer := none }
  let s2 := (s1.raiseSeg g .feed).modLink g Link.powerUp
  let s3 := s2.mapPoints (Point.reassert g)
  (s3.forPoints (s3.liveOutputs g) fun i s => s.offerAgain g i).linkReady g e

/-- The start window has passed (R138): SETTLING, or ON at once with a settle time of 0. -/
def State.feedSettles (s : State) (g : Seg) (e : Env) : State :=
  if (s.feed g).cfg.settle = 0 then s.feedEntersOn g e
  else s.modFeed g fun f =>
    { f with state := .settling, startTimer := none, settleTimer := some (f.cfg.settle * 1000) }

/-! ### Leaving ON (R33, R92, R117, R123, R141) -/

/-- The link with its feed gone (R117). -/
def Link.powerOff (l : Link) : Link :=
  { l with
    state := .off
    faults := 0
    windowTimer := none
    backoffTimer := none
    idleTimer := none
    gapTimer := none
    recoveryTimer := none }

/-- The Link Engine's part: LINE is raised for leaving LINE_DOWN and the link is OFF (R117). What the exchange in
flight leaves to the other blocks, ABANDONED, is in their parts. -/
def State.linkLosesFeed (s : State) (g : Seg) : State :=
  let s1 := if (s.link g).state = .lineDown then s.raiseSeg g .line else s
  s1.modLink g Link.powerOff

/-- The scan's reaction to the loss of the feed (R92). -/
def Scheduler.feedLost (c : Scheduler) : Scheduler :=
  match c.scan with
  | .waiting => c.halt .haltedPower
  | .running => c.halt .haltedPower
  | .finishing => c.halt .haltedPower
  | .haltedLine => c.halt .haltedPower
  | .stopping => c.stop
  | _ => c

/-- The Scheduler's part: the demand queue is emptied with DEMAND ABANDONED in ascending index order, the entry
whose exchange was in flight in its place among the others; the back-to-back count is 0, the scan halts or stops
(R40, R79, R92, R152). -/
def State.schedLosesFeed (s : State) (g : Seg) : State :=
  let queued := allPoints.filter fun i => ((s.sched g).entry i).isSome
  (s.forPoints queued fun i s => s.tellDemanders i .abandoned).modSched g fun c =>
    { c with queue := [], backToBack := 0 }.feedLost

/-- The exchange that the loss of the feed has ended, ABANDONED at a target of the given life: its outcome is
applied as any other, so the node is judged and the tallies count while the target is still counted (R112, R117,
R120, R121). -/
def State.abandon (s : State) (g : Seg) (x : Option Exchange) (life : Life) : State :=
  match x with
  | some x => if (s.point x.target).life = life then s.applyOutcome g x .abandoned none [] else s
  | none => s

/-- The Point Table's part at one record: a LIVE point is UNPOWERED (R33); the RETIRING target of the exchange
that has ended gets its outcome, is judged and enters CLOSED (R15, R16, R120). -/
def State.pointLosesFeed (g : Seg) (x : Option Exchange) (i : PointIdx) (s : State) : State :=
  match (s.point i).life with
  | .live => s.setQuality i .unpowered
  | .retiring => s.abandon g x .retiring
  | _ => s

/-- The Point Table's part: the LIVE points of the segment and the target of the exchange in flight, in ascending
index order (R33, R15, R152). -/
def State.pointsLoseFeed (s : State) (g : Seg) (x : Option Exchange) : State :=
  s.forPoints
    (allPoints.filter fun i =>
      decide ((s.point i).life = .live ∧ (s.point i).seg = g) || decide (x.map Exchange.target = some i))
    (State.pointLosesFeed g x)

/-- The Output Slot logic's part: the abandoned WRITE of a LIVE point returns to its slot or is superseded (R63,
R67), and the Node Tracker judges the outcome after it (R121). -/
def State.slotLosesFeed (s : State) (g : Seg) (x : Option Exchange) : State := s.abandon g x .live

/-- A node record at the loss of the feed (R123). -/
def NodeRec.feedLost (n : NodeRec) : NodeRec :=
  if n.refs = 0 then n else { n with state := .unknown, failures := 0, probe := false }

/-- The Node Tracker's part: every referenced record is UNKNOWN (R123). The judgement of the exchange that has ended
belongs to its outcome. -/
def State.nodesLoseFeed (s : State) (g : Seg) : State := s.mapNodes g NodeRec.feedLost

/-- The parts of a feed event: what each block does when its turn comes. `leaves` tells for which segments
the feed has left ON, `notice` for which FEED is due, `ended` the exchange that a segment's link held in flight,
`change` what the monitor raises. -/
def State.feedPart (leaves notice : Seg → Bool) (ended : Seg → Option Exchange) (change : Option DevReason) :
    Part → State → State
  | .monitor, s =>
    match change with
    | some r => (s.raiseDev .a r).raiseDev .b r
    | none => s
  | .feed g, s => if notice g then s.raiseSeg g .feed else s
  | .link g, s => if leaves g then s.linkLosesFeed g else s
  | .sched g, s => if leaves g then s.schedLosesFeed g else s
  | .points g, s => if leaves g then s.pointsLoseFeed g (ended g) else s
  | .slots g, s => if leaves g then s.slotLosesFeed g (ended g) else s
  | .nodes g, s => if leaves g then s.nodesLoseFeed g else s

/-- The parts of one segment's feed event, in the model's own order: FEED, then as an exchange's outcome is handed
on (R79, R112) the points, the slot, the node, the Scheduler, and the link's state last. -/
def segParts (g : Seg) : List Part := [.feed g, .points g, .slots g, .nodes g, .sched g, .link g]

/-- The feed of a segment has taken a new state by which it no longer is ON; where it was ON before, the
segment's blocks take their parts (R141). -/
def State.feedLeaves (s : State) (g : Seg) (wasOn notice : Bool) (order : List Part) : State :=
  s.takeParts
    (State.feedPart (fun h => decide (h = g) && wasOn) (fun h => decide (h = g) && notice)
      (fun h => (s.link h).exchange) none)
    (arrange order (segParts g))

/-! ### Trips and FEED_OFF (R135, R141) -/

/-- The feed after a trip (R135 steps 1 to 3). -/
def Feed.trip (f : Feed) : Feed :=
  let n := min (f.trips + 1) Config.countMax
  match f.cfg.retry.millis with
  | none => { f.open .latched with trips := n, enable := false }
  | some ms => { f.open .tripped with trips := n, retryTimer := some (ms * 1000) }

/-- A trip, with the leaving of ON where it came from ON (R135). -/
def State.feedTrips (s : State) (g : Seg) (order : List Part) : State :=
  (s.modFeed g Feed.trip).feedLeaves g (s.powered g) true order

/-- FEED_OFF at the feed: OFF, the flag clear, the timers stopped, no FEED (R141). -/
def State.feedSwitchedOff (s : State) (g : Seg) (order : List Part) : State :=
  (s.modFeed g fun f => { f.open .off with enable := false }).feedLeaves g (s.powered g) false order

/-! ### The monitor (R145, R146) -/

def State.held (s : State) : Bool := holds s.supply s.temperature

/-- A feed whose enable flag is set is forced off at the beginning of a hold (R146). -/
def Feed.forced (f : Feed) : Bool := f.enable && decide (f.state ≠ .forcedOff)

/-- A change of the monitor's levels, with the hold that begins or ends by it (R145, R146): at the beginning
every enabled feed is forced off and the parts of the monitor and of the forced segments follow; at the end
every feed in FORCED_OFF enters STARTING. -/
def State.monitorChange (s : State) (sl : SupplyLevel) (tl : TempLevel) (r : DevReason) (order : List Part) : State :=
  let s1 := { s with supply := sl, temperature := tl }
  let begins := !s.held && s1.held
  let ends := s.held && !s1.held
  let forced := fun g => begins && (s.feed g).forced
  let change := fun (f : Feed) =>
    if begins && f.forced then f.open .forcedOff
    else if ends && decide (f.state = .forcedOff) then f.start
    else f
  let s2 := Seg.all.foldl (fun s g => s.modFeed g change) s1
  s2.takeParts (State.feedPart (fun g => forced g && s.powered g) forced (fun g => (s.link g).exchange) (some r))
    (arrange order (.monitor :: Seg.all.flatMap segParts))

end Sys2Proof.Machine
end

