-- ==== Sys2Proof/Machine/FeedCommands.lean ====
section
/-! DEFINITION. The commands and events of the Feed Controllers and the monitor: CONFIGURE_FEED, FEED_ON,
FEED_OFF, READ_FEEDS, CLAMP_BEGIN, CLAMP_END, FEED_TRIP, the timer expiries, SUPPLY_LEVEL_CHANGE and
TEMPERATURE_LEVEL_CHANGE.
Spec: 08_segment_feeds_and_field_supply.md (R134 to R146). -/

namespace Sys2Proof.Machine

/-! ### CONFIGURE_FEED (R143) -/

/-- The settings of CONFIGURE_FEED within their values. -/
def feedCfgOf (ps : List Byte) : Option FeedCfg := do
  let limit ← limitOf (arg ps 1)
  let blanking ← blankingOf (arg ps 2)
  let doubleStart ← boolOf (arg ps 3)
  let fastShort ← boolOf (arg ps 4)
  let retry ← retryOf (arg ps 5)
  some ⟨limit, blanking, doubleStart, fastShort, retry, arg ps 6⟩

def configureFeed (p : Port) (ps : List Byte) (s : State) : Answer :=
  match feedCfgOf ps with
  | none => refuse s .badParameter
  | some f =>
    onSeg s p ps 7 true (some .feed) fun g =>
      if (s.feed g).state ≠ .off ∧ (s.feed g).state ≠ .latched then refuse s .busyState
      else accept (s.modFeed g fun d => { d with cfg := f, trips := 0 }) [byteOf (s.feed g).trips]

/-- CONFIGURE_FEED (0x58). -/
def execConfigureFeed (p : Port) (tag : Byte) (ps : List Byte) (s : State) : Host.Outcome State Fault Refusal :=
  command 0x58 p tag ps (configureFeed p ps) s

/-! ### FEED_ON and FEED_OFF (R136, R137, R141) -/

/-- The two result bytes of FEED_ON and FEED_OFF. -/
def State.feedBytes (s : State) (g : Seg) : List Byte :=
  [byteOf (s.feed g).state.code, byteOf (s.feed g).trips]

/-- FEED_ON in OFF or LATCHED, by the monitor's hold (R137). -/
def State.feedAsked (s : State) (g : Seg) : State :=
  if s.held then (s.modFeed g fun f => { f with state := .forcedOff, enable := true }).raiseSeg g .feed
  else s.modFeed g fun f => { f.start with enable := true }

/-- The effect of FEED_ON by the feed state (R137). -/
def State.feedOn (s : State) (g : Seg) : State :=
  match (s.feed g).state with
  | .off => s.feedAsked g
  | .latched => s.feedAsked g
  | .tripped => s.modFeed g fun f => { f.start with retryTimer := none }
  | _ => s

def feedOn (p : Port) (ps : List Byte) (s : State) : Answer :=
  onSeg s p ps 1 true (some .feed) fun g =>
    let t := s.feedOn g
    accept t (t.feedBytes g)

/-- FEED_ON (0x59). -/
def execFeedOn (p : Port) (tag : Byte) (ps : List Byte) (s : State) : Host.Outcome State Fault Refusal :=
  command 0x59 p tag ps (feedOn p ps) s

def feedOff (p : Port) (ps : List Byte) (e : Env) (s : State) : Answer :=
  onSeg s p ps 1 true (some .feed) fun g =>
    let t := s.feedSwitchedOff g e.order
    accept t (t.feedBytes g)

/-- FEED_OFF (0x5A). -/
def execFeedOff (p : Port) (tag : Byte) (ps : List Byte) (e : Env) (s : State) : Host.Outcome State Fault Refusal :=
  command 0x5A p tag ps (feedOff p ps e) s

/-! ### READ_FEEDS (R144) -/

/-- The seven bytes of one feed. -/
def Feed.bytes (f : Feed) : List Byte :=
  [byteOf f.state.code, byteOf f.trips, byteOf (bit f.enable 0 + bit f.clamping 1), byteOf f.cfg.limit.code,
    byteOf f.cfg.blanking.code,
    byteOf (bit f.cfg.doubleStart 0 + bit f.cfg.fastShort 1 + 4 * f.cfg.retry.code), byteOf f.cfg.settle]

def readFeeds (_ : Port) (ps : List Byte) (s : State) : Answer :=
  if ps.length ≠ 0 then refuse s .badParameter
  else
    accept s ([byteOf s.supply.code, byteOf s.temperature.code] ++ Seg.all.flatMap fun g => (s.feed g).bytes)

/-- READ_FEEDS (0x5B). -/
def execReadFeeds (p : Port) (tag : Byte) (ps : List Byte) (s : State) : Host.Outcome State Fault Refusal :=
  command 0x5B p tag ps (readFeeds p ps) s

/-! ### Clamps and trips (R134, R135) -/

/-- A clamp begins with the switch closed: the clamp timer starts from 0 (R134). -/
def Feed.clampBegin (f : Feed) : Feed :=
  if f.state.closed && !f.clamping then { f with clamping := true, clampTimer := true } else f

/-- CLAMP_BEGIN. -/
def execClampBegin (g : Seg) (s : State) : Host.Outcome State Fault Refusal :=
  event (fun s => s.modFeed g Feed.clampBegin) s

/-- The clamp ends: its timer stops (R134). -/
def Feed.clampEnd (f : Feed) : Feed := { f with clamping := false, clampTimer := false }

/-- CLAMP_END. -/
def execClampEnd (g : Seg) (s : State) : Host.Outcome State Fault Refusal :=
  event (fun s => s.modFeed g Feed.clampEnd) s

/-- The clamp timer has reached its trip time (R135): `ticks` is its count in 100 µs, `low` the judgement of
SnVO at this tick (notes/assumptions/17). -/
def Feed.tripDue (f : Feed) (ticks : Nat) (low : Bool) : Bool :=
  f.state.closed && f.clampTimer && decide (f.cfg.tripTicks low ≤ ticks)

/-- FEED_TRIP. -/
def execFeedTrip (g : Seg) (ticks : Nat) (outputLow : Bool) (e : Env) (s : State) : Host.Outcome State Fault Refusal :=
  event (fun s => if (s.feed g).tripDue ticks outputLow then s.feedTrips g e.order else s) s

/-! ### Timer expiries (R138, R140) -/

/-- START_TIMER_EXPIRY: SETTLING, or ON with a settle time of 0 (R138). -/
def execStartTimerExpiry (g : Seg) (e : Env) (s : State) : Host.Outcome State Fault Refusal :=
  event (fun s =>
    if (s.feed g).state = .starting ∧ (s.feed g).startTimer.isSome = true then s.feedSettles g e else s) s

/-- SETTLE_TIMER_EXPIRY: ON (R138, R139). -/
def execSettleTimerExpiry (g : Seg) (e : Env) (s : State) : Host.Outcome State Fault Refusal :=
  event (fun s =>
    if (s.feed g).state = .settling ∧ (s.feed g).settleTimer.isSome = true then s.feedEntersOn g e else s) s

/-- RETRY_TIMER_EXPIRY: STARTING (R140). -/
def execRetryTimerExpiry (g : Seg) (s : State) : Host.Outcome State Fault Refusal :=
  event (fun s =>
    if (s.feed g).state = .tripped ∧ (s.feed g).retryTimer.isSome = true then
      s.modFeed g fun f => { f.start with retryTimer := none }
    else s) s

/-! ### The monitor's levels (R145, R146) -/

/-- SUPPLY_LEVEL_CHANGE: a judgement of VFIELD in mV changes the level, with SUPPLY and the hold. -/
def execSupplyLevelChange (vfield : Nat) (e : Env) (s : State) : Host.Outcome State Fault Refusal :=
  event (fun s =>
    let l := s.supply.judge vfield
    if l = s.supply then s else s.monitorChange l s.temperature .supply e.order) s

/-- TEMPERATURE_LEVEL_CHANGE: a judgement of the die temperature in thousandths of a degree changes the
level, with THERMAL and the hold. -/
def execTemperatureLevelChange (temp : Int) (e : Env) (s : State) : Host.Outcome State Fault Refusal :=
  event (fun s =>
    let l := s.temperature.judge temp
    if l = s.temperature then s else s.monitorChange s.supply l .thermal e.order) s

end Sys2Proof.Machine
end

