-- ==== Sys2Proof/Machine/LimitCommands.lean ====
section
/-! DEFINITION. The commands on bands and deadbands: SET_BAND, CLEAR_BAND, SET_DEADBAND.
Spec: 03_limit_bands_and_change_detection.md (R45 to R47, R51, R52). -/

namespace Sys2Proof.Machine

/-- The limits and the hysteresis agree with the point's range (R45). -/
def bandFits (t : Point) (low high : Int) (hysteresis : Nat) : Bool :=
  inRange t.width t.signed low && inRange t.width t.signed high &&
    decide ((hysteresis : Int) ≤ rangeHigh t.width t.signed) && decide (low < high) &&
    decide (2 * (hysteresis : Int) < high - low)

/-- The new band, its state UNSET, classified at once where a value is present (R46). -/
def State.placeBand (s : State) (i : PointIdx) (b : Band) : State :=
  let s1 := s.modPoint i fun t => { t with band := some b }
  match (s.point i).value with
  | some v => s1.judgeBand i v
  | none => s1

def setBand (p : Port) (ps : List Byte) (s : State) : Answer :=
  onPoint s p ps 14 true (some .manage) fun i =>
    let t := s.point i
    let low := argInt t.signed ps 2
    let high := argInt t.signed ps 6
    let hysteresis := arg32 ps 10
    if bandFits t low high hysteresis = false then refuse s .badParameter
    else
      let s1 := s.placeBand i ⟨low, high, hysteresis, .unset⟩
      accept s1
        [byteOf
          (match (s1.point i).band with
           | some b => b.state.code
           | none => 0)]

/-- SET_BAND (0x28). -/
def execSetBand (p : Port) (tag : Byte) (ps : List Byte) (s : State) : Host.Outcome State Fault Refusal :=
  command 0x28 p tag ps (setBand p ps) s

def clearBand (p : Port) (ps : List Byte) (s : State) : Answer :=
  onPoint s p ps 2 true (some .manage) fun i => accept (s.modPoint i fun t => { t with band := none }) []

/-- CLEAR_BAND (0x29). -/
def execClearBand (p : Port) (tag : Byte) (ps : List Byte) (s : State) : Host.Outcome State Fault Refusal :=
  command 0x29 p tag ps (clearBand p ps) s

/-- A deadband of the given width based on the present value, or none (R52). -/
def Point.rebase (t : Point) (width : Nat) : Point :=
  { t with deadband := if width = 0 then none else some ⟨width, t.value⟩ }

def setDeadband (p : Port) (ps : List Byte) (s : State) : Answer :=
  onPoint s p ps 6 true (some .manage) fun i =>
    let width := arg32 ps 2
    if 256 ^ (s.point i).width.bytes ≤ width then refuse s .badParameter
    else accept (s.modPoint i fun t => t.rebase width) []

/-- SET_DEADBAND (0x2A). -/
def execSetDeadband (p : Port) (tag : Byte) (ps : List Byte) (s : State) : Host.Outcome State Fault Refusal :=
  command 0x2A p tag ps (setDeadband p ps) s

end Sys2Proof.Machine
end

