-- ==== Sys2Proof/Machine/LinkCommands.lean ====
section
/-! DEFINITION. The commands on links, nodes and tallies: CONFIGURE_LINK, RECOVER_LINE, READ_NODES,
RELEASE_NODE, CONFIGURE_TALLY, READ_TALLY.
Spec: R115, R116 (06), 07_node_tracking_and_link_tallies.md (R124, R128, R131, R132). -/

namespace Sys2Proof.Machine

/-! ### CONFIGURE_LINK (R116) -/

/-- The settings of CONFIGURE_LINK within their values. -/
def linkCfgOf (ps : List Byte) : Option LinkCfg := do
  let bitRate ← bitRateOf (arg ps 1)
  let window ← within 1 255 (arg ps 2)
  let retries ← within 0 3 (arg ps 3)
  let faultLimit ← within 0 7 (arg ps 4)
  let recovery ← recoveryOf (arg ps 5)
  let lostLimit ← within 1 15 (arg ps 6)
  some ⟨bitRate, window, retries, faultLimit, recovery, lostLimit⟩

def configureLink (p : Port) (ps : List Byte) (s : State) : Answer :=
  match linkCfgOf ps with
  | none => refuse s .badParameter
  | some f =>
    onSeg s p ps 7 true (some .scan) fun g =>
      if (s.sched g).scan ≠ .stopped ∨ (s.link g).exchange.isSome = true then refuse s .busyState
      else accept (s.modLink g fun l => { l with cfg := f }) []

/-- CONFIGURE_LINK (0x48). -/
def execConfigureLink (p : Port) (tag : Byte) (ps : List Byte) (s : State) : Host.Outcome State Fault Refusal :=
  command 0x48 p tag ps (configureLink p ps) s

/-! ### RECOVER_LINE (R115) -/

/-- In LINE_DOWN: the count to 0, RECOVERING, LINE; otherwise nothing. -/
def State.recoverLine (s : State) (g : Seg) : State :=
  if (s.link g).state = .lineDown then
    (s.modLink g fun l => { l with faults := 0 }.recover).raiseSeg g .line
  else s

def recoverLine (p : Port) (ps : List Byte) (s : State) : Answer :=
  onSeg s p ps 1 true (some .scan) fun g =>
    let t := s.recoverLine g
    accept t [byteOf (t.link g).state.code, byteOf (t.link g).faults]

/-- RECOVER_LINE (0x49). -/
def execRecoverLine (p : Port) (tag : Byte) (ps : List Byte) (s : State) : Host.Outcome State Fault Refusal :=
  command 0x49 p tag ps (recoverLine p ps) s

/-! ### READ_NODES and RELEASE_NODE (R124, R128) -/

/-- The three bytes of a node record. -/
def NodeRec.bytes (n : NodeRec) : List Byte :=
  [byteOf (n.state.code + bit n.probe 7), byteOf n.refs, byteOf n.failures]

def readNodes (p : Port) (ps : List Byte) (s : State) : Answer :=
  onSeg s p ps 1 true none fun g =>
    accept s
      ([byteOf g.code, byteOf (s.link g).cfg.lostLimit] ++ (s.seg g).nodes.toList.flatMap NodeRec.bytes)

/-- READ_NODES (0x50). -/
def execReadNodes (p : Port) (tag : Byte) (ps : List Byte) (s : State) : Host.Outcome State Fault Refusal :=
  command 0x50 p tag ps (readNodes p ps) s

/-- A LOST node becomes UNKNOWN, with NODE; any other node is left (R124, R125). -/
def State.releaseNode (s : State) (g : Seg) (n : NodeIdx) : State :=
  if (s.node g n).state = .lost then
    (s.modNode g n fun r => { r with state := .unknown, failures := 0 }).raiseSeg g (.node n)
  else s

def releaseNode (p : Port) (ps : List Byte) (s : State) : Answer :=
  match nodeOf (arg ps 1) with
  | none => refuse s .badParameter
  | some n =>
    onSeg s p ps 2 true (some .scan) fun g =>
      let t := s.releaseNode g n
      accept t [byteOf (t.node g n).state.code, byteOf (t.node g n).refs]

/-- RELEASE_NODE (0x51). -/
def execReleaseNode (p : Port) (tag : Byte) (ps : List Byte) (s : State) : Host.Outcome State Fault Refusal :=
  command 0x51 p tag ps (releaseNode p ps) s

/-! ### CONFIGURE_TALLY and READ_TALLY (R131, R132) -/

def Segment.tally (v : Segment) (second : Bool) : Tally := if second then v.tally1 else v.tally0

def Segment.setTally (v : Segment) (second : Bool) (t : Tally) : Segment :=
  if second then { v with tally1 := t } else { v with tally0 := t }

def configureTally (p : Port) (ps : List Byte) (s : State) : Answer :=
  match boolOf (arg ps 1), tallyEventOf (arg ps 2), within 0 30 (arg ps 3) with
  | some second, some ev, some filter =>
    onSeg s p ps 4 true (some .scan) fun g =>
      accept (s.modSeg g fun v => v.setTally second ⟨ev, filter, 0⟩)
        (le2 ((s.seg g).tally second).count.toNat)
  | _, _, _ => refuse s .badParameter

/-- CONFIGURE_TALLY (0x52). -/
def execConfigureTally (p : Port) (tag : Byte) (ps : List Byte) (s : State) : Host.Outcome State Fault Refusal :=
  command 0x52 p tag ps (configureTally p ps) s

/-- The four bytes of a counter. -/
def Tally.bytes (t : Tally) : List Byte := [byteOf t.event.code, byteOf t.filter] ++ le2 t.count.toNat

/-- Both counts at 0, the selections kept. -/
def Segment.clearTallies (v : Segment) : Segment :=
  { v with tally0 := { v.tally0 with count := 0 }, tally1 := { v.tally1 with count := 0 } }

def readTally (p : Port) (ps : List Byte) (s : State) : Answer :=
  onSeg s p ps 2 (boolOf (arg ps 1)).isSome none fun g =>
    accept (if arg ps 1 = 1 then s.modSeg g Segment.clearTallies else s)
      ((s.seg g).tally0.bytes ++ (s.seg g).tally1.bytes)

/-- READ_TALLY (0x53). -/
def execReadTally (p : Port) (tag : Byte) (ps : List Byte) (s : State) : Host.Outcome State Fault Refusal :=
  command 0x53 p tag ps (readTally p ps) s

end Sys2Proof.Machine
end

