-- ==== Sys2Proof/Machine/LinkEvents.lean ====
section
/-! DEFINITION. The events of the Segment Link Engine: REQUEST_SENT to RECOVERY_LINE_IDLE. Each is taken only
in the state that it is about; in any other it finds nothing to act on (notes/assumptions/2).
Spec: 06_segment_link_exchanges.md (R104, R108 to R115). -/

namespace Sys2Proof.Machine

/-- The check character's stop bit has been sent: the drivers are released and the response window starts
(R108, R109). -/
def State.requestSent (s : State) (g : Seg) : State :=
  match (s.link g).state with
  | .busy .sending x =>
    if (s.link g).driving then
      s.modLink g fun l => { l with state := .busy .awaiting x, windowTimer := some (l.cfg.window * 100) }
    else s
  | _ => s

/-- REQUEST_SENT. -/
def execRequestSent (g : Seg) (s : State) : Host.Outcome State Fault Refusal :=
  event (fun s => s.requestSent g) s

/-- A start bit ends AWAITING before the window does (R109). -/
def State.responseStart (s : State) (g : Seg) : State :=
  match (s.link g).state with
  | .busy .awaiting x => s.modLink g fun l => { l with state := .busy .receiving x, windowTimer := none }
  | _ => s

/-- RESPONSE_START_BIT. -/
def execResponseStartBit (g : Seg) (s : State) : Host.Outcome State Fault Refusal :=
  event (fun s => s.responseStart g) s

/-- The window expires in AWAITING: NO_RESPONSE (R109). -/
def State.windowExpiry (s : State) (g : Seg) (e : Env) : State :=
  match (s.link g).state with
  | .busy .awaiting x =>
    (s.modLink g fun l => { l with windowTimer := none }).endAttempt g x .noResponse none (e.idle.get g) e.order
  | _ => s

/-- RESPONSE_WINDOW_EXPIRY. -/
def execResponseWindowExpiry (g : Seg) (e : Env) (s : State) : Host.Outcome State Fault Refusal :=
  event (fun s => s.windowExpiry g e) s

/-- The line is idle after the last character of a response in RECEIVING (R109). -/
def State.responseEnd (s : State) (g : Seg) (frame : List RxChar) (e : Env) : State :=
  match (s.link g).state with
  | .busy .receiving x => s.frameEnd g x frame e.order
  | _ => s

/-- RESPONSE_FRAME_END, with the characters received (notes/assumptions/21). -/
def execResponseFrameEnd (g : Seg) (frame : List RxChar) (e : Env) (s : State) : Host.Outcome State Fault Refusal :=
  event (fun s => s.responseEnd g frame e) s

/-- A tenth character begins in RECEIVING: CHECK_ERROR. Its start bit keeps the line from being idle
(R104, R109). -/
def State.tenthCharacter (s : State) (g : Seg) (e : Env) : State :=
  match (s.link g).state with
  | .busy .receiving x => s.endAttempt g x .checkError none false e.order
  | _ => s

/-- TENTH_CHARACTER. -/
def execTenthCharacter (g : Seg) (e : Env) (s : State) : Host.Outcome State Fault Refusal :=
  event (fun s => s.tenthCharacter g e) s

/-- The backoff is over: a new attempt begins (R110). -/
def State.backoffExpiry (s : State) (g : Seg) (e : Env) : State :=
  match (s.link g).state with
  | .busy .backoff x => s.beginAttempt g x (e.idle.get g)
  | _ => s

/-- BACKOFF_EXPIRY. -/
def execBackoffExpiry (g : Seg) (e : Env) (s : State) : Host.Outcome State Fault Refusal :=
  event (fun s => s.backoffExpiry g e) s

/-- The line becomes idle within the idle wait of an attempt: transmission begins (R108). -/
def State.idleWaitIdle (s : State) (g : Seg) : State :=
  match (s.link g).state with
  | .busy .sending _ => s.modLink g fun l => { l with idleTimer := none }
  | _ => s

/-- IDLE_WAIT_LINE_IDLE. -/
def execIdleWaitLineIdle (g : Seg) (s : State) : Host.Outcome State Fault Refusal :=
  event (fun s => s.idleWaitIdle g) s

/-- The idle wait of an attempt or of a recovery expires: a line fault (R113, R115). -/
def State.idleWaitExpiry (s : State) (g : Seg) : State :=
  if (s.link g).idleTimer.isNone then s
  else
    match (s.link g).state with
    | .busy .sending _ => s.lineFault g
    | .recovering => s.lineFault g
    | _ => s

/-- IDLE_WAIT_EXPIRY. -/
def execIdleWaitExpiry (g : Seg) (s : State) : Host.Outcome State Fault Refusal :=
  event (fun s => s.idleWaitExpiry g) s

/-- TRANSMITTER_CURRENT_LIMIT: the limit trips while the engine drives the pair: a line fault (R108, R113). -/
def execTransmitterCurrentLimit (g : Seg) (s : State) : Host.Outcome State Fault Refusal :=
  event (fun s => if (s.link g).driving then s.lineFault g else s) s

/-- GAP_END: the link becomes READY and the arbiter decides (R112). -/
def execGapEnd (g : Seg) (e : Env) (s : State) : Host.Outcome State Fault Refusal :=
  event (fun s => if (s.link g).state = .gap then s.enterReady g e else s) s

/-- The recovery timer expires: READY on an idle line, else the idle wait (R115). -/
def State.recoveryExpiry (s : State) (g : Seg) (e : Env) : State :=
  if (s.link g).state = .recovering ∧ (s.link g).recoveryTimer.isSome = true then
    if e.idle.get g then s.enterReady g e
    else s.modLink g fun l => { l with recoveryTimer := none, idleTimer := some Config.idleWaitMicros }
  else s

/-- RECOVERY_EXPIRY. -/
def execRecoveryExpiry (g : Seg) (e : Env) (s : State) : Host.Outcome State Fault Refusal :=
  event (fun s => s.recoveryExpiry g e) s

/-- Every pair idle: what the end of a recovery's idle wait shows for its own pair. -/
def allIdle : Env := ⟨⟨true, true, true, true⟩, []⟩

/-- The line becomes idle within the idle wait of a recovery: READY. A first attempt then finds the line idle
(R108, R115). -/
def State.recoveryIdle (s : State) (g : Seg) : State :=
  if (s.link g).state = .recovering ∧ (s.link g).idleTimer.isSome = true then s.enterReady g allIdle else s

/-- RECOVERY_LINE_IDLE. -/
def execRecoveryLineIdle (g : Seg) (s : State) : Host.Outcome State Fault Refusal :=
  event (fun s => s.recoveryIdle g) s

end Sys2Proof.Machine
end

