-- ==== Sys2Proof/Machine/PointCommands.lean ====
section
/-! DEFINITION. The commands of the Point Table: DEFINE_POINT, RETIRE_POINT, MODIFY_POINT, LIST_POINTS.
Spec: 01_the_point_table.md (R7 to R21), R75, R76 (05). -/

namespace Sys2Proof.Machine

/-! ### DEFINE_POINT (R7 to R12) -/

/-- The parameters of DEFINE_POINT; `before` is whether position is 1. -/
structure Definition where
  kind : Kind
  seg : Seg
  node : NodeIdx
  object : Fin 1024
  width : Width
  signed : Bool
  group : Fin 16
  divider : Nat
  stale : Nat
  verify : Bool
  before : Bool
  deriving DecidableEq, Repr

/-- The parameters within their values (R7). -/
def definitionOf (ps : List Byte) : Option Definition := do
  let kind ← kindOf (arg ps 0)
  let seg ← segOf (arg ps 1)
  let node ← nodeOf (arg ps 2)
  let object ← objectOf (arg16 ps 3)
  let width ← widthOf (arg ps 5)
  let signed ← boolOf (arg ps 6)
  let group ← groupOf (arg ps 7)
  let divider ← within 1 16 (arg ps 8)
  let verify ← boolOf (arg ps 11)
  let before ← boolOf (arg ps 12)
  if ps.length = 15 ∧ ¬(verify = true ∧ kind = .input) then
    some ⟨kind, seg, node, object, width, signed, group, divider, arg16 ps 9, verify, before⟩
  else none

/-- A record that counts for DUPLICATE and SEGMENT_FULL: LIVE or RETIRING (R8, R9). -/
def Life.counted (l : Life) : Bool := decide (l = .live ∨ l = .retiring)

/-- A LIVE or RETIRING point already has the segment, node and object (R9). -/
def State.duplicate (s : State) (d : Definition) : Bool :=
  allPoints.any fun i =>
    let t := s.point i
    t.life.counted && decide (t.seg = d.seg ∧ t.node = d.node ∧ t.object = d.object)

/-- The segment already has 96 points that are LIVE or RETIRING (R8). -/
def State.segmentFull (s : State) (g : Seg) : Bool :=
  decide (Config.segmentPoints ≤
    (allPoints.filter fun i => (s.point i).life.counted && decide ((s.point i).seg = g)).length)

/-- The FREE record with the lowest index (R10). -/
def State.lowestFree (s : State) : Option PointIdx :=
  allPoints.find? fun i => decide ((s.point i).life = .free)

/-- The initial quality of a new point (R11). -/
def State.initialQuality (s : State) (g : Seg) (n : NodeIdx) : Quality :=
  if s.powered g = false then .unpowered
  else if (s.node g n).state = .lost then .nodeLost
  else .initial

/-- The record of a new point (R11). -/
def Definition.record (d : Definition) (generation : Byte) (owner : Port) (q : Quality) : Point :=
  { Point.cleared generation with
    life := .live
    kind := d.kind
    seg := d.seg
    node := d.node
    object := d.object
    width := d.width
    signed := d.signed
    owner := owner
    group := d.group
    divider := d.divider
    staleLimit := d.stale
    quality := q
    verify := d.verify }

/-- An accepted DEFINE_POINT: the record, the scan list, the node's count (R11, R12). -/
def State.define (s : State) (p : Port) (d : Definition) (i : PointIdx) (before : Option PointIdx) : State :=
  let s1 := s.setPoint i (d.record (s.point i).generation p (s.initialQuality d.seg d.node))
  (s1.modSched d.seg fun c => c.joinList i before).modNode d.seg d.node NodeRec.join

def definePoint (p : Port) (ps : List Byte) (s : State) : Answer :=
  match definitionOf ps with
  | none => refuse s .badParameter
  | some d =>
    let h := argHandle ps 13
    if d.before && !s.handleOk h then refuse s .staleHandle
    else if s.hasGroup p .manage d.group = false then refuse s .noRight
    else if d.before && decide ((s.point h.idx).seg ≠ d.seg) then refuse s .badParameter
    else if s.duplicate d then refuse s .duplicate
    else if s.segmentFull d.seg then refuse s .segmentFull
    else
      match s.lowestFree with
      | none => refuse s .tableFull
      | some i =>
        accept (s.define p d i (if d.before then some h.idx else none)) [byteOf i.val, (s.point i).generation]

/-- DEFINE_POINT (0x10). -/
def execDefinePoint (p : Port) (tag : Byte) (ps : List Byte) (s : State) : Host.Outcome State Fault Refusal :=
  command 0x10 p tag ps (definePoint p ps) s

/-! ### The scan list's part in RETIRE_POINT and MODIFY_POINT (R76, R82) -/

/-- A leaving that moved the cursor to END in a cycle without a scan exchange in flight completes the cycle
(R76); a cycle that starts then is decided on at once (R81). -/
def State.completeIfPassed (s : State) (g : Seg) (hadCursor : Bool) (e : Env) : State :=
  if hadCursor && (s.sched g).cursor.isNone && (s.sched g).scan.inCycle && !(s.link g).scanExchange then
    let r := s.complete g
    if (r.sched g).scan.inCycle then r.arbitrate g e else r
  else s

/-- The point leaves the list, and its demand entry the queue (R13, R76, R96). -/
def State.retireSched (s : State) (g : Seg) (i : PointIdx) (e : Env) : State :=
  let had := (s.sched g).cursor.isSome
  (s.modSched g fun c =>
    { c.leaveList i with queue := c.queue.filter fun d => decide (d.point ≠ i) }).completeIfPassed g had e

/-! ### RETIRE_POINT (R13, R14) -/

/-- The ports that wrote a value. -/
def slotPorts (f : Option Slot) : PortSet :=
  match f with
  | none => noPorts
  | some f => writerPorts f.writer

/-- The record's part: the pending value is discarded with CANCELLED, the retire notice set formed, and the
point RETIRING, or CLOSED where no exchange serves it (R13, R14). -/
def State.retireRecord (s : State) (i : PointIdx) (serving : Bool) : State :=
  let t := s.point i
  let s1 :=
    match t.slot with
    | some f => s.raisePoint i (.write .cancelled f.writer) (writerPorts f.writer)
    | none => s
  let s2 := s1.modPoint i fun t =>
    { t with life := .retiring, slot := none, retireSet := portUnion (slotPorts t.slot) (slotPorts t.inFlight) }
  if serving then s2 else s2.closePoint i

/-- The parts of a retirement; their order is open (R152, notes/assumptions/9). -/
def State.retirePart (g : Seg) (i : PointIdx) (serving : Bool) (e : Env) : Part → State → State
  | .sched _, s => s.retireSched g i e
  | .points _, s => s.retireRecord i serving
  | _, s => s

def State.retire (s : State) (i : PointIdx) (e : Env) : State :=
  let g := (s.point i).seg
  s.takeParts (State.retirePart g i ((s.link g).serves i) e) (arrange e.order [.sched g, .points g])

def retirePoint (p : Port) (ps : List Byte) (e : Env) (s : State) : Answer :=
  onPoint s p ps 2 true (some .manage) fun i =>
    let t := s.retire i e
    accept t [byteOf (t.point i).life.retireCode]

/-- RETIRE_POINT (0x11). -/
def execRetirePoint (p : Port) (tag : Byte) (ps : List Byte) (e : Env) (s : State) :
    Host.Outcome State Fault Refusal :=
  command 0x11 p tag ps (retirePoint p ps e) s

/-! ### MODIFY_POINT (R18 to R20) -/

/-- A field that the change byte selects (section 1.6). -/
def selected (ps : List Byte) (k : Nat) : Bool := (argByte ps 2).getLsbD k

/-- The parameters of MODIFY_POINT within their values (R18); a field not selected is ignored. -/
def modifyValid (ps : List Byte) : Bool :=
  decide (arg ps 2 < 32) &&
    (!selected ps 0 || (within 1 16 (arg ps 3)).isSome) &&
    (!selected ps 2 || (groupOf (arg ps 6)).isSome) &&
    (!selected ps 3 || (boolOf (arg ps 7)).isSome) &&
    (!selected ps 4 || (boolOf (arg ps 8)).isSome)

/-- Position is selected with value 1, so the before handle is examined. -/
def modifyBefore (ps : List Byte) : Bool := selected ps 4 && decide (arg ps 8 = 1)

/-- The new group, or the present one where the group is not selected. -/
def modifyGroup (ps : List Byte) (present : Fin 16) : Fin 16 :=
  if selected ps 2 then (groupOf (arg ps 6)).getD present else present

/-- The divider, stale limit, group with the loss of subscriptions, and verify (R19, R20). -/
def State.modifyFields (s : State) (i : PointIdx) (ps : List Byte) : State :=
  s.modPoint i fun t =>
    let k := modifyGroup ps t.group
    let keep := fun (p : Port) => !selected ps 2 || s.hasGroup p .read k
    { t with
      divider := if selected ps 0 then arg ps 3 else t.divider
      phase := if selected ps 0 then 0 else t.phase
      staleLimit := if selected ps 1 then arg16 ps 4 else t.staleLimit
      group := k
      subs := ⟨if keep .a then t.subs.a else 0, if keep .b then t.subs.b else 0⟩
      verify := if selected ps 3 then decide (arg ps 7 = 1) else t.verify }

/-- A GOOD point whose age has reached a non-zero stale limit (R19, R35). -/
def Point.expired (t : Point) : Bool :=
  decide (t.quality = .good) && decide (t.staleLimit ≠ 0) && decide (t.staleLimit ≤ t.age)

/-- The record's part of MODIFY_POINT. A stale limit at or below the age makes a GOOD point STALE at once,
told under the subscriptions the command finds (R19, notes/assumptions/10). -/
def State.modifyRecord (s : State) (i : PointIdx) (ps : List Byte) : State :=
  let limit := arg16 ps 4
  let t := s.point i
  let s1 :=
    if selected ps 1 && ({ t with staleLimit := limit } : Point).expired then s.setQuality i .stale else s
  s1.modifyFields i ps

/-- The scan list's part of MODIFY_POINT: the point leaves, a cycle it leaves behind at END completes, and
the point joins (R19, R76, notes/assumptions/11). -/
def State.movePoint (s : State) (g : Seg) (i : PointIdx) (before : Option PointIdx) (e : Env) : State :=
  let had := (s.sched g).cursor.isSome
  ((s.modSched g fun c => c.leaveList i).completeIfPassed g had e).modSched g fun c => c.joinList i before

/-- The parts of a modification; their order is open (R152, notes/assumptions/9). -/
def State.modifyPart (g : Seg) (i : PointIdx) (ps : List Byte) (e : Env) : Part → State → State
  | .points _, s => s.modifyRecord i ps
  | .sched _, s =>
    if selected ps 4 then
      s.movePoint g i (if modifyBefore ps then some (argHandle ps 9).idx else none) e
    else s
  | _, s => s

def modifyPoint (p : Port) (ps : List Byte) (e : Env) (s : State) : Answer :=
  if ps.length ≠ 11 ∨ modifyValid ps = false then refuse s .badParameter
  else
    let h := argHandle ps 0
    let b := argHandle ps 9
    let t := s.point h.idx
    if s.handleOk h = false then refuse s .staleHandle
    else if modifyBefore ps && !s.handleOk b then refuse s .staleHandle
    else if s.hasGroup p .manage t.group = false then refuse s .noRight
    else if s.hasGroup p .manage (modifyGroup ps t.group) = false then refuse s .noRight
    else if selected ps 3 && decide (t.kind = .input) then refuse s .wrongKind
    else if modifyBefore ps && decide (b.idx = h.idx) then refuse s .badParameter
    else if modifyBefore ps && decide ((s.point b.idx).seg ≠ t.seg) then refuse s .badParameter
    else
      accept (s.takeParts (State.modifyPart t.seg h.idx ps e) (arrange e.order [.points t.seg, .sched t.seg])) []

/-- MODIFY_POINT (0x12). -/
def execModifyPoint (p : Port) (tag : Byte) (ps : List Byte) (e : Env) (s : State) :
    Host.Outcome State Fault Refusal :=
  command 0x12 p tag ps (modifyPoint p ps e) s

/-! ### LIST_POINTS (R21) -/

/-- A search in ascending index that collects at most `room` records: those collected, and the next index
where it stopped before index 255 was examined. -/
def search (want : PointIdx → Bool) : Nat → List PointIdx → List PointIdx × Option PointIdx
  | _, [] => ([], none)
  | 0, i :: _ => ([], some i)
  | n + 1, i :: is =>
    if want i then
      let r := search want n is
      (i :: r.1, r.2)
    else search want (n + 1) is

/-- The records from a start index on. -/
def pointsFrom (start : Nat) : List PointIdx := allPoints.drop start

/-- The head of a search result: complete, next index, count (R21, R38). -/
def searchHead (r : List PointIdx × Option PointIdx) : List Byte :=
  match r.2 with
  | none => [1, 0, byteOf r.1.length]
  | some i => [0, byteOf i.val, byteOf r.1.length]

/-- The records a listing gives: LIVE, on the filtered segment, in a group the port may READ (R21). -/
def State.listed (s : State) (p : Port) (filter : Option Seg) (i : PointIdx) : Bool :=
  let t := s.point i
  decide (t.life = .live) && s.hasGroup p .read t.group &&
    (match filter with
     | none => true
     | some g => decide (t.seg = g))

def handleBytes (s : State) (i : PointIdx) : List Byte := [byteOf i.val, (s.point i).generation]

def listPoints (p : Port) (ps : List Byte) (s : State) : Answer :=
  let filter := segOf (arg ps 1)
  if ps.length ≠ 2 ∨ (filter = none ∧ arg ps 1 ≠ 0xFF) then refuse s .badParameter
  else
    let r := search (s.listed p filter) Config.listHandles (pointsFrom (arg ps 0))
    accept s (searchHead r ++ r.1.flatMap (handleBytes s))

/-- LIST_POINTS (0x13). -/
def execListPoints (p : Port) (tag : Byte) (ps : List Byte) (s : State) : Host.Outcome State Fault Refusal :=
  command 0x13 p tag ps (listPoints p ps) s

end Sys2Proof.Machine
end

