-- ==== Sys2Proof/Machine/ValueCommands.lean ====
section
/-! DEFINITION. The commands that read points: READ_POINT, READ_BLOCK, DEMAND_READ.
Spec: 02_values_quality_and_age.md (R37 to R39). -/

namespace Sys2Proof.Machine

/-! ### READ_POINT (R37, Table 2-4) -/

/-- Byte 18: what is present. -/
def Point.presence (t : Point) : Nat :=
  bit t.value.isSome 0 + bit t.observed.isSome 1 + bit t.band.isSome 2 + bit t.deadband.isSome 3 +
    bit (t.deadband.bind Deadband.reference).isSome 4 + bit t.slot.isSome 5 + bit t.inFlight.isSome 6 +
    bit t.safe.isSome 7

/-- Byte 19: the flags; whether the segment's link holds an exchange for the point comes from outside the
record. -/
def Point.flags (t : Point) (serving : Bool) : Nat :=
  bit t.verify 0 + bit t.urgentPending 1 + bit t.demanders.a 2 + bit t.demanders.b 3 + bit serving 4

/-- Bytes 28 to 40: the band. -/
def bandBytes (b : Option Band) : List Byte :=
  match b with
  | none => List.replicate 13 0
  | some b => le4 b.low ++ le4 b.high ++ le4 b.hysteresis ++ [byteOf b.state.code]

/-- Bytes 41 to 48: the deadband. -/
def deadbandBytes (d : Option Deadband) : List Byte :=
  match d with
  | none => List.replicate 8 0
  | some d => le4 d.width ++ le4Opt d.reference

/-- A value in the slot or in flight with its writer: 4 bytes and one. -/
def slotBytes (f : Option Slot) : List Byte :=
  match f with
  | none => List.replicate 5 0
  | some f => le4 f.value ++ [byteOf f.writer.code]

/-- The 65 bytes of READ_POINT. -/
def State.pointBytes (s : State) (p : Port) (i : PointIdx) : List Byte :=
  let t := s.point i
  [byteOf i.val, t.generation, byteOf t.kind.code, byteOf t.seg.code, byteOf (nodeAddress t.node)] ++
    le2 t.object.val ++
    [byteOf t.width.bytes, byteOf (boolCode t.signed), byteOf t.group.val, byteOf t.owner.code, byteOf t.divider,
      byteOf t.phase] ++
    le2 t.staleLimit ++ le2 t.age ++
    [byteOf t.quality.code, byteOf t.presence, byteOf (t.flags ((s.link t.seg).serves i))] ++
    le4Opt t.value ++ le4Opt t.observed ++ bandBytes t.band ++ deadbandBytes t.deadband ++ slotBytes t.slot ++
    slotBytes t.inFlight ++ le4Opt t.safe ++ [byteOf t.failed, (t.subs.get p).setWidth 8]

def readPoint (p : Port) (ps : List Byte) (s : State) : Answer :=
  onPoint s p ps 2 true (some .read) fun i => accept s (s.pointBytes p i)

/-- READ_POINT (0x20). -/
def execReadPoint (p : Port) (tag : Byte) (ps : List Byte) (s : State) : Host.Outcome State Fault Refusal :=
  command 0x20 p tag ps (readPoint p ps) s

/-! ### READ_BLOCK (R38, Table 2-5) -/

/-- One view. -/
def State.view (s : State) (p : Port) (i : PointIdx) : List Byte :=
  let t := s.point i
  if s.hasGroup p .read t.group then
    [byteOf i.val, t.generation, byteOf t.quality.code, byteOf (bit t.value.isSome 0)] ++ le4Opt t.value
  else [byteOf i.val, t.generation, 0, byteOf (bit true 1)] ++ le4 0

def readBlock (p : Port) (ps : List Byte) (s : State) : Answer :=
  if ps.length ≠ 1 then refuse s .badParameter
  else
    let r := search (fun i => decide ((s.point i).life = .live)) Config.blockViews (pointsFrom (arg ps 0))
    accept s (searchHead r ++ r.1.flatMap (s.view p))

/-- READ_BLOCK (0x21). -/
def execReadBlock (p : Port) (tag : Byte) (ps : List Byte) (s : State) : Host.Outcome State Fault Refusal :=
  command 0x21 p tag ps (readBlock p ps) s

/-! ### DEMAND_READ (R39, R95, R97) -/

/-- The port joins the point's entry, granted or not (R95). -/
def State.joinEntry (s : State) (g : Seg) (i : PointIdx) (p : Port) : State :=
  s.modSched g fun c =>
    { c with
      queue := c.queue.map fun d => if d.point = i then { d with ports := d.ports.set p true } else d }

def demandRead (p : Port) (ps : List Byte) (e : Env) (s : State) : Answer :=
  onPoint s p ps 2 true (some .read) fun i =>
    let g := (s.point i).seg
    if s.powered g = false then refuse s .notPowered
    else
      let s1 := s.modPoint i fun t => { t with demanders := t.demanders.set p true }
      match (s.sched g).entry i with
      | some _ => accept (s1.joinEntry g i p) [1]
      | none =>
        if (s.sched g).room = false then refuse s .queueFull
        else accept ((s1.joinQueue g i (onePort p)).arbitrate g e) [0]

/-- DEMAND_READ (0x22). -/
def execDemandRead (p : Port) (tag : Byte) (ps : List Byte) (e : Env) (s : State) :
    Host.Outcome State Fault Refusal :=
  command 0x22 p tag ps (demandRead p ps e) s

end Sys2Proof.Machine
end

