-- ==== Sys2Proof/Machine/NoticeCommands.lean ====
section
/-! DEFINITION. The commands of the Notice Unit: SUBSCRIBE, UNSUBSCRIBE, TAKE_ATTENTION, SET_NOTICE_MASK.
Spec: 09_subscriptions_and_attention_lists.md (R149, R150, R157 to R159). -/

namespace Sys2Proof.Machine

/-! ### SUBSCRIBE and UNSUBSCRIBE (R149, R150) -/

/-- The calling port's subscription takes a new mask; the reply holds the old one. -/
def State.setMask (s : State) (p : Port) (i : PointIdx) (mask : BitVec 4) : Answer :=
  accept (s.modPoint i fun t => { t with subs := t.subs.set p mask }) [((s.point i).subs.get p).setWidth 8]

def subscribe (p : Port) (ps : List Byte) (s : State) : Answer :=
  onPoint s p ps 3 (decide (1 ≤ arg ps 2 ∧ arg ps 2 < 16)) (some .read) fun i =>
    s.setMask p i ((argByte ps 2).setWidth 4)

/-- SUBSCRIBE (0x60). -/
def execSubscribe (p : Port) (tag : Byte) (ps : List Byte) (s : State) : Host.Outcome State Fault Refusal :=
  command 0x60 p tag ps (subscribe p ps) s

def unsubscribe (p : Port) (ps : List Byte) (s : State) : Answer :=
  onPoint s p ps 2 true none fun i => s.setMask p i 0

/-- UNSUBSCRIBE (0x61). -/
def execUnsubscribe (p : Port) (tag : Byte) (ps : List Byte) (s : State) : Host.Outcome State Fault Refusal :=
  command 0x61 p tag ps (unsubscribe p ps) s

/-! ### TAKE_ATTENTION (R158, R159, Table 9-1) -/

/-- Bytes 8 and 9 of a POINT entry. -/
def writeNoteBytes (w : Option (WriteResult × Writer)) : List Byte :=
  match w with
  | some (r, w) => [byteOf r.code, byteOf w.code]
  | none => [0xFF, 0xFF]

/-- Byte 10 of a POINT entry. -/
def demandNoteByte (d : Option DemandOutcome) : Byte :=
  match d with
  | some o => byteOf o.code
  | none => 0xFF

/-- Byte 24 of a POINT entry: what is present. -/
def Point.snapPresence (t : Point) : Nat :=
  bit t.value.isSome 0 + bit t.observed.isSome 1 + bit t.band.isSome 2 + bit t.slot.isSome 3 +
    bit t.inFlight.isSome 4

/-- Byte 33: the band state, 0 without a band. -/
def bandStateByte (b : Option Band) : Byte :=
  match b with
  | some b => byteOf b.state.code
  | none => 0

/-- Bytes 11 to 40 of a POINT result: the snapshot. -/
def Point.snapshot (t : Point) : List Byte :=
  [byteOf t.life.snapCode, byteOf t.kind.code, byteOf t.seg.code, byteOf (nodeAddress t.node)] ++ le2 t.object.val ++
    [byteOf t.width.bytes, byteOf (boolCode t.signed), byteOf t.group.val, byteOf t.owner.code,
      byteOf t.quality.code] ++
    le2 t.age ++ [byteOf t.snapPresence] ++ le4Opt t.value ++ le4Opt t.observed ++
    [bandStateByte t.band, byteOf t.writeState, writerByte t.slot] ++ le4Opt (t.slot.map Slot.value) ++
    [byteOf t.failed]

/-- The result of a taken entry, after the three common bytes' number of remaining entries. -/
def State.entryBytes (s : State) (p : Port) (remain : Nat) : Entry → List Byte
  | .point i gen n =>
    0 :: le2 remain ++
      [byteOf i.val, gen, byteOf n.reasons, byteOf n.changes, byteOf n.limits] ++ writeNoteBytes n.write ++
      [demandNoteByte n.demand] ++ (s.point i).snapshot
  | .segment g n =>
    1 :: le2 remain ++ [byteOf g.code, byteOf n.reasons, byteOf n.overruns, byteOf (bit n.wrap0 0 + bit n.wrap1 1)] ++
      le4 n.nodes.toNat ++
      [byteOf (s.feed g).state.code, byteOf (s.sched g).scan.code, byteOf (s.link g).state.code,
        byteOf (s.sched g).cyclesEnded, byteOf (s.sched g).overruns, byteOf (s.feed g).trips]
  | .device n =>
    2 :: le2 remain ++
      [n.setWidth 8, byteOf s.supply.code, byteOf s.temperature.code, byteOf (boolCode (s.port p.other).lapsed),
        byteOf (s.port p.other).supPeriod]

/-- The closure test that follows the take of a point entry (R17, R158). -/
def State.afterTake (s : State) : Entry → State
  | .point i _ _ => s.closureTest i
  | _ => s

def takeAttention (p : Port) (ps : List Byte) (s : State) : Answer :=
  if ps.length ≠ 0 then refuse s .badParameter
  else
    match (s.port p).attention with
    | [] => refuse s .nothingPending
    | x :: rest =>
      let s1 := s.modPort p fun u => { u with attention := rest }
      accept (s1.afterTake x) (s1.entryBytes p rest.length x)

/-- TAKE_ATTENTION (0x62). -/
def execTakeAttention (p : Port) (tag : Byte) (ps : List Byte) (s : State) : Host.Outcome State Fault Refusal :=
  command 0x62 p tag ps (takeAttention p ps) s

/-! ### SET_NOTICE_MASK (R157) -/

def setNoticeMask (p : Port) (ps : List Byte) (s : State) : Answer :=
  if ps.length ≠ 3 ∨ 0x3F < arg ps 0 ∨ 0x1F < arg ps 1 ∨ 1 < arg ps 2 then refuse s .badParameter
  else
    let u := s.port p
    accept
      (s.modPort p fun u =>
        { u with
          segMask := (argByte ps 0).setWidth 6
          devMask := (argByte ps 1).setWidth 5
          lineEnable := decide (arg ps 2 = 1) })
      [u.segMask.setWidth 8, u.devMask.setWidth 8, byteOf (boolCode u.lineEnable)]

/-- SET_NOTICE_MASK (0x63). -/
def execSetNoticeMask (p : Port) (tag : Byte) (ps : List Byte) (s : State) : Host.Outcome State Fault Refusal :=
  command 0x63 p tag ps (setNoticeMask p ps) s

end Sys2Proof.Machine
end

