-- ==== Sys2Proof/Machine/OutputCommands.lean ====
section
/-! DEFINITION. The commands on output points: WRITE_POINT, CANCEL_WRITE, SET_SAFE_VALUE; and the supervision
lapse, which places safe values.
Spec: 04_output_points_and_write_delivery.md (R55 to R59, R69, R70), R170 (10). -/

namespace Sys2Proof.Machine

/-! ### The slot (R56) -/

/-- A value takes the slot; a replaced port value is told SUPERSEDED (R56, R70). -/
def State.placeValue (s : State) (i : PointIdx) (f : Slot) : State :=
  let s1 := s.modPoint i fun t => { t with slot := some f }
  match (s.point i).slot with
  | some old => s1.raiseWrite i .superseded old.writer
  | none => s1

/-! ### WRITE_POINT (R55 to R57) -/

/-- The queuing code of a write and the state it leaves: an urgent value is offered to the demand queue, and
the arbiter decides where an entry joins (R57, R97). -/
def State.offerWrite (s : State) (g : Seg) (i : PointIdx) (urgent : Bool) (e : Env) : State × Nat :=
  if urgent then
    let c := s.urgentCode g i
    if c = 1 then ((s.offerUrgent g i).arbitrate g e, 1) else (s, c)
  else (s, 0)

def writePoint (p : Port) (ps : List Byte) (e : Env) (s : State) : Answer :=
  onPoint s p ps 7 (boolOf (arg ps 6)).isSome (some .write) fun i =>
    let t := s.point i
    let v := argInt t.signed ps 2
    let urgent := decide (arg ps 6 = 1)
    if t.kind = .input then refuse s .wrongKind
    else if inRange t.width t.signed v = false then refuse s .badParameter
    else
      let r := (s.placeValue i ⟨v, .port p, urgent⟩).offerWrite t.seg i urgent e
      accept r.1 [byteOf r.2, byteOf (r.1.point i).writeState, writerByte t.slot]

/-- WRITE_POINT (0x30). -/
def execWritePoint (p : Port) (tag : Byte) (ps : List Byte) (e : Env) (s : State) :
    Host.Outcome State Fault Refusal :=
  command 0x30 p tag ps (writePoint p ps e) s

/-! ### CANCEL_WRITE (R59, R96) -/

/-- The pending value is withdrawn: the slot absent, CANCELLED to a port writer, an ungranted entry without
ports removed. -/
def State.cancel (s : State) (i : PointIdx) (f : Slot) : State :=
  ((s.modPoint i fun t => { t with slot := none }).raiseWrite i .cancelled f.writer).modSched (s.point i).seg fun c =>
    { c with queue := c.queue.filter fun d => !(decide (d.point = i) && !d.granted && portsEmpty d.ports) }

def cancelWrite (p : Port) (ps : List Byte) (s : State) : Answer :=
  onPoint s p ps 2 true (some .write) fun i =>
    let t := s.point i
    if t.kind = .input then refuse s .wrongKind
    else
      match t.slot with
      | none => refuse s .nothingPending
      | some f => accept (s.cancel i f) (byteOf f.writer.code :: le4 f.value)

/-- CANCEL_WRITE (0x32). -/
def execCancelWrite (p : Port) (tag : Byte) (ps : List Byte) (s : State) : Host.Outcome State Fault Refusal :=
  command 0x32 p tag ps (cancelWrite p ps) s

/-! ### SET_SAFE_VALUE (R69) -/

def setSafeValue (p : Port) (ps : List Byte) (s : State) : Answer :=
  onPoint s p ps 7 (boolOf (arg ps 2)).isSome (some .manage) fun i =>
    let t := s.point i
    let v := argInt t.signed ps 3
    if t.kind = .input then refuse s .wrongKind
    else if arg ps 2 = 1 ∧ inRange t.width t.signed v = false then refuse s .badParameter
    else accept (s.modPoint i fun t => { t with safe := if arg ps 2 = 1 then some v else none }) []

/-- SET_SAFE_VALUE (0x31). -/
def execSetSafeValue (p : Port) (tag : Byte) (ps : List Byte) (s : State) : Host.Outcome State Fault Refusal :=
  command 0x31 p tag ps (setSafeValue p ps) s

/-! ### SUPERVISION_LAPSE (R70, R170) -/

/-- A LIVE OUTPUT point owned by the port, with a safe value (R70). -/
def Point.safeOwned (t : Point) (p : Port) : Bool :=
  decide (t.life = .live) && decide (t.kind = .output) && decide (t.owner = p) && t.safe.isSome

/-- The safe value of one point takes its slot and is offered to the demand queue (R70). -/
def State.placeSafe (i : PointIdx) (s : State) : State :=
  match (s.point i).safe with
  | some v => (s.placeValue i ⟨v, .safe, true⟩).offerUrgent (s.point i).seg i
  | none => s

/-- A port's supervision lapses (R170): LAPSED and the timer stopped, the safe values in ascending index
order, PEER_LAPSED; then the arbiters decide on the entries that joined (R97). -/
def State.lapse (s : State) (p : Port) (e : Env) : State :=
  let s1 := s.modPort p fun u => { u with lapsed := true, supTimer := none }
  let s2 := s1.forPoints (allPoints.filter fun i => (s.point i).safeOwned p) State.placeSafe
  let s3 := s2.raiseDev p.other .peerLapsed
  Seg.all.foldl
    (fun t g => if (t.sched g).queue.length = (s.sched g).queue.length then t else t.arbitrate g e) s3

/-- A running supervision timer has counted its period (R1, R169). -/
def PortUnit.supDue (u : PortUnit) : Bool := decide (u.supTimer = some u.supPeriod)

/-- SUPERVISION_LAPSE: the supervision timer expires on the tick at which its count equals the period (R169,
R170); below that count the event finds nothing to act on (notes/assumptions/2). -/
def execSupervisionLapse (p : Port) (e : Env) (s : State) : Host.Outcome State Fault Refusal :=
  event (fun s => if (s.port p).supDue then s.lapse p e else s) s

end Sys2Proof.Machine
end

