-- ==== Sys2Proof/Machine/PortCommands.lean ====
section
/-! DEFINITION. The transactions and commands of the Port Units, the Rights Table and the device: NOOP,
READ_IDENTITY, SET_SUPERVISION, SET_RIGHTS, READ_RIGHTS, RESET_PORT, RESET_DEVICE, UNKNOWN_COMMAND,
FRAME_REJECTED, FETCH; and the device resets VDD_BROWNOUT, POWER_ON, RESET_PIN and RESET_EXIT.
Spec: 10_ports_command_frames_and_rights.md (R162 to R174), R22 to R24 (01), R72 (04), R145, R147 (08), R161
(09). -/

namespace Sys2Proof.Machine

/-! ### NOOP and READ_IDENTITY (R172) -/

def noop (ps : List Byte) (s : State) : Answer :=
  if ps.length ≠ 0 then refuse s .badParameter else accept s []

/-- NOOP (0x00). -/
def execNoop (p : Port) (tag : Byte) (ps : List Byte) (s : State) : Host.Outcome State Fault Refusal :=
  command 0x00 p tag ps (noop ps) s

/-- The identity and capacity bytes. -/
def identityBytes : List Byte := le2 0x5248 ++ le2 0x4256 ++ [1] ++ le2 256 ++ [4, 96, 30, 8, 5]

def readIdentity (ps : List Byte) (s : State) : Answer :=
  if ps.length ≠ 0 then refuse s .badParameter else accept s identityBytes

/-- READ_IDENTITY (0x01). -/
def execReadIdentity (p : Port) (tag : Byte) (ps : List Byte) (s : State) : Host.Outcome State Fault Refusal :=
  command 0x01 p tag ps (readIdentity ps) s

/-! ### SET_SUPERVISION (R169) -/

/-- A port with a new supervision period: 0 stops the timer, any other starts it from 0. -/
def PortUnit.supervise (u : PortUnit) (period : Nat) : PortUnit :=
  { u with supPeriod := period, supTimer := if period = 0 then none else some 0 }

def setSupervision (p : Port) (ps : List Byte) (s : State) : Answer :=
  if ps.length ≠ 1 then refuse s .badParameter
  else accept (s.modPort p fun u => u.supervise (arg ps 0)) [byteOf (s.port p).supPeriod]

/-- SET_SUPERVISION (0x02). -/
def execSetSupervision (p : Port) (tag : Byte) (ps : List Byte) (s : State) : Host.Outcome State Fault Refusal :=
  command 0x02 p tag ps (setSupervision p ps) s

/-! ### The Rights Table (R151, R166 to R168) -/

/-- The 17 bytes of a port's rights: groups 0 to 15, then the device rights. -/
def PortUnit.rightsBytes (u : PortUnit) : List Byte :=
  (u.rights.toList.map fun r => r.setWidth 8) ++ [u.device.setWidth 8]

/-- The rights bytes of SET_RIGHTS are within their coding. -/
def rightsCoded (ps : List Byte) : Bool := (List.range 17).all fun k => decide (arg ps (k + 1) < 8)

/-- The group rights that SET_RIGHTS carries. -/
def rightsOf (ps : List Byte) : Vector (BitVec 3) 16 := Vector.ofFn fun k => (argByte ps (k.val + 1)).setWidth 3

/-- The device rights that SET_RIGHTS carries. -/
def deviceRightsOf (ps : List Byte) : BitVec 3 := (argByte ps 17).setWidth 3

/-- A subscription on a LIVE or RETIRING point of a group whose READ is lost becomes none (R151). -/
def Point.loseRead (t : Point) (p : Port) (lost : Fin 16 → Bool) : Point :=
  if (t.life = .live ∨ t.life = .retiring) ∧ lost t.group = true then { t with subs := t.subs.set p 0 } else t

/-- The rights of a port replaced, its subscriptions on lost groups removed, RIGHTS_CHANGED raised (R168). -/
def State.replaceRights (s : State) (q : Port) (groups : Vector (BitVec 3) 16) (device : BitVec 3) : State :=
  let lost := fun (k : Fin 16) => s.hasGroup q .read k && !(groups[k.val]).getLsbD GroupRight.read.bit
  ((s.modPort q fun u => { u with rights := groups, device := device }).mapPoints fun t => t.loseRead q lost).raiseDev
    q .rightsChanged

def setRights (p : Port) (ps : List Byte) (s : State) : Answer :=
  match portOf (arg ps 0) with
  | none => refuse s .badParameter
  | some q =>
    if ps.length ≠ 18 ∨ rightsCoded ps = false then refuse s .badParameter
    else if s.hasDevice p .rights = false then refuse s .noRight
    else if (deviceRightsOf ps).getLsbD DeviceRight.rights.bit = false ∧ s.hasDevice q.other .rights = false then
      refuse s .lastAuthority
    else accept (s.replaceRights q (rightsOf ps) (deviceRightsOf ps)) (s.port q).rightsBytes

/-- SET_RIGHTS (0x03). -/
def execSetRights (p : Port) (tag : Byte) (ps : List Byte) (s : State) : Host.Outcome State Fault Refusal :=
  command 0x03 p tag ps (setRights p ps) s

def readRights (ps : List Byte) (s : State) : Answer :=
  match portOf (arg ps 0) with
  | none => refuse s .badParameter
  | some q => if ps.length ≠ 1 then refuse s .badParameter else accept s (s.port q).rightsBytes

/-- READ_RIGHTS (0x04). -/
def execReadRights (p : Port) (tag : Byte) (ps : List Byte) (s : State) : Host.Outcome State Fault Refusal :=
  command 0x04 p tag ps (readRights ps) s

/-! ### RESET_PORT (R23, R24, R161, R173) -/

/-- A point record in the reset of a port (R23). -/
def Point.leavePort (t : Point) (p : Port) : Point :=
  { t with
    subs := t.subs.set p 0
    demanders := portErase t.demanders p
    retireSet := portErase t.retireSet p }

/-- A Scheduler in the reset of a port: it leaves the port sets of the demand entries (R73). -/
def Scheduler.leavePort (c : Scheduler) (p : Port) : Scheduler :=
  { c with queue := c.queue.map fun d => { d with ports := portErase d.ports p } }

/-- The steps of RESET_PORT before its reply (R173). -/
def State.resetPort (s : State) (p : Port) : State :=
  let named := allPoints.filter (s.named p)
  let s1 := s.modPort p fun u => { u with reply := none, attention := [] }
  let s2 := s1.mapPoints fun t => t.leavePort p
  let s3 := Seg.all.foldl (fun s g => s.modSched g fun c => c.leavePort p) s2
  let s4 := s3.forPoints named fun i s => s.closureTest i
  s4.modPort p fun u => { u with supPeriod := 0, supTimer := none, lapsed := false }

def resetPort (p : Port) (ps : List Byte) (s : State) : Answer :=
  if ps.length ≠ 0 then refuse s .badParameter else accept (s.resetPort p) []

/-- RESET_PORT (0x05). -/
def execResetPort (p : Port) (tag : Byte) (ps : List Byte) (s : State) : Host.Outcome State Fault Refusal :=
  command 0x05 p tag ps (resetPort p ps) s

/-! ### Device resets (R22, R145, R147, R174) -/

/-- The reset values of every block (R147, R174). The commands that wait are the model's own, and the chip-selects are
the hosts': a transaction in progress is discarded (R174). -/
def State.resetBlocks (s : State) : State :=
  { State.reset with
    pending := s.pending
    ports :=
      ⟨{ State.reset.ports.a with select := s.ports.a.select.discard },
        { State.reset.ports.b with select := s.ports.b.select.discard }⟩ }

/-- The reset values, the monitor's levels judged afresh from NORMAL and the trigger levels those of the pins
(R101, R145). -/
def State.afterReset (s : State) (x : Samples) : State :=
  { s.resetBlocks with
    supply := SupplyLevel.normal.judge x.vfield
    temperature := TempLevel.normal.judge x.temp
    trigs := ⟨TriggerInput.reset x.trg0, TriggerInput.reset x.trg1⟩ }

/-- The device in reset, until RESET_EXIT (R147, notes/assumptions/7). -/
def State.holdReset (s : State) : State := { s.resetBlocks with inReset := true }

/-- RESET_DEVICE (0x06): accepted, it is a device reset, its own transaction ended, and places no reply; refused, it is
answered as usual (R174, notes/assumptions/28). -/
def execResetDevice (p : Port) (tag : Byte) (ps : List Byte) (x : Samples) (s : State) :
    Host.Outcome State Fault Refusal :=
  if s.hears p && decide (ps.length = 0) && s.hasDevice p .rights then
    .next (((s.selectRises p).afterReset x).shiftOut p (commandOut (s.port p).shown 5))
  else command 0x06 p tag ps (fun t => refuse t (if ps.length ≠ 0 then .badParameter else .noRight)) s

/-- VDD_BROWNOUT: a dip of VDD that has lasted 100 µs (R147). -/
def execVddBrownout (s : State) : Host.Outcome State Fault Refusal := .next s.holdReset

/-- POWER_ON: the device is in reset until VDD first reaches 2.7 V (R147). -/
def execPowerOn (s : State) : Host.Outcome State Fault Refusal := .next s.holdReset

/-- RESET_PIN: the RESET input is held low (R147). -/
def execResetPin (s : State) : Host.Outcome State Fault Refusal := .next s.holdReset

/-- RESET_EXIT: the device leaves reset with every block at its reset values (R147). -/
def execResetExit (x : Samples) (s : State) : Host.Outcome State Fault Refusal :=
  .next (if s.inReset then s.afterReset x else s)

/-! ### Frames that carry no known command, and FETCH (R163 to R165) -/

/-- UNKNOWN_COMMAND: a valid frame whose code names no command (R165). -/
def execUnknownCommand (p : Port) (code tag : Byte) (ps : List Byte) (s : State) :
    Host.Outcome State Fault Refusal :=
  if code.toNat ∈ commandCodes then .next s
  else command code p tag ps (fun t => refuse t .unknownCommand) s

/-- FRAME_REJECTED: the reply with the cause, the tag and code echoed where received; no command, no restart
of supervision, no resumption (R163). The 0x00 shifted out after a first byte that is neither 0xA1 nor 0xB2, and
beyond byte 4 + n, is the model's choice (notes/assumptions/31). -/
def execFrameRejected (p : Port) (bytes : List Byte) (s : State) : Host.Outcome State Fault Refusal :=
  if isRejectedFrame bytes then
    transfer p (fun s =>
      match rejectCause bytes with
      | some c =>
        (s.putReply p ⟨argByte bytes 2, argByte bytes 1, .frameRejected, [byteOf c]⟩).shiftOut p
          (commandOut (s.port p).shown bytes.length)
      | none => s) s
  else .next s

/-- FETCH of `clocked` bytes (R164): the reply held at the falling chip-select is shifted out, 0x00 after it, and the
slot is emptied where the check byte was clocked in full. -/
def State.fetch (s : State) (p : Port) (clocked : Nat) : State :=
  let u := s.port p
  let out := fetchBytes u.shown (u.offered.getD noReply)
  let s1 := s.shiftOut p (out.take clocked ++ List.replicate (clocked - out.length) 0)
  if out.length ≤ clocked then s1.modPort p fun u => { u with reply := none } else s1

/-- FETCH, and the edges of a transaction: the falling chip-select, and the rising one after a FETCH; a transaction
without a complete byte changes nothing (R162, R164, notes/assumptions/4). -/
def execFetch (p : Port) (cs : ChipSelect) (s : State) : Host.Outcome State Fault Refusal :=
  match cs with
  | .falls => .next (s.selectFalls p)
  | .rises clocked => transfer p (fun s => if clocked = 0 then s else s.fetch p clocked) s

end Sys2Proof.Machine
end

