-- ==== Sys2Proof/Machine/ScanCommands.lean ====
section
/-! DEFINITION. The commands of the Segment Scheduler and the Trigger Router, and their events:
CONFIGURE_SCAN, START_SCAN, STOP_SCAN, FINISH_SCAN, FIRE_TRIGGER, CONFIGURE_TRIGGER_INPUT, PERIOD_BOUNDARY,
DEFERRED_START, TRIGGER_INPUT_EDGE.
Spec: 05_scan_lists_and_segment_scheduling.md (R80, R81, R84 to R88, R99 to R102). -/

namespace Sys2Proof.Machine

/-! ### CONFIGURE_SCAN (R80) -/

/-- The settings of CONFIGURE_SCAN within their values. -/
def scanCfgOf (ps : List Byte) : Option ScanCfg := do
  let mode ← scanModeOf (arg ps 1)
  let trigger ← within 1 15 (arg ps 5)
  let policy ← policyOf (arg ps 6)
  let share ← within 1 4 (arg ps 7)
  some ⟨mode, arg16 ps 2, arg ps 4, trigger, policy, share⟩

/-- An accepted CONFIGURE_SCAN: the settings, and three counts at 0 (R80). -/
def Scheduler.configure (c : Scheduler) (f : ScanCfg) : Scheduler :=
  { c with cfg := f, cyclesEnded := 0, overruns := 0, backToBack := 0 }

def configureScan (p : Port) (ps : List Byte) (s : State) : Answer :=
  match scanCfgOf ps with
  | none => refuse s .badParameter
  | some f =>
    onSeg s p ps 8 true (some .scan) fun g =>
      if (s.sched g).scan ≠ .stopped then refuse s .busyState
      else accept (s.modSched g fun c => c.configure f) []

/-- CONFIGURE_SCAN (0x40). -/
def execConfigureScan (p : Port) (tag : Byte) (ps : List Byte) (s : State) : Host.Outcome State Fault Refusal :=
  command 0x40 p tag ps (configureScan p ps) s

/-! ### START_SCAN, STOP_SCAN, FINISH_SCAN (R85 to R88) -/

/-- The three result bytes of the scan commands (R85). -/
def State.scanBytes (s : State) (g : Seg) : List Byte :=
  let c := s.sched g
  [byteOf c.scan.code, byteOf c.cyclesEnded, byteOf c.overruns]

/-- The effect of START_SCAN by the scan state (R86). -/
def State.startScan (s : State) (g : Seg) (e : Env) : State :=
  match (s.sched g).scan with
  | .stopped =>
    let s1 := s.modSched g fun c => { c with cyclesEnded := 0, overruns := 0 }
    if s.powered g = false then s1.modSched g fun c => c.halt .haltedPower
    else if (s.link g).state = .lineDown then s1.modSched g fun c => c.halt .haltedLine
    else (s1.setGoing g).arbitrate g e
  | .finishing => s.modSched g fun c => { c with scan := .running }
  | _ => s

def startScan (p : Port) (ps : List Byte) (e : Env) (s : State) : Answer :=
  onSeg s p ps 1 true (some .scan) fun g =>
    let t := s.startScan g e
    accept t (t.scanBytes g)

/-- START_SCAN (0x41). -/
def execStartScan (p : Port) (tag : Byte) (ps : List Byte) (e : Env) (s : State) :
    Host.Outcome State Fault Refusal :=
  command 0x41 p tag ps (startScan p ps e) s

/-- A stop in a cycle: STOPPING while an exchange is in flight, else STOPPED (R87). -/
def Scheduler.endCycle (busy : Bool) (c : Scheduler) : Scheduler :=
  if busy then { c with scan := .stopping, periodTimer := none, cut := false } else c.stop

/-- The effect of STOP_SCAN by the scan state and the exchange in flight (R87); a stop withdraws a pending
cut (R91, notes/assumptions/22). -/
def State.stopScan (s : State) (g : Seg) : State :=
  match (s.sched g).scan with
  | .stopped => s
  | .stopping => s
  | .running => s.modSched g (Scheduler.endCycle (s.link g).exchange.isSome)
  | .finishing => s.modSched g (Scheduler.endCycle (s.link g).exchange.isSome)
  | _ => s.modSched g Scheduler.stop

def stopScan (p : Port) (ps : List Byte) (s : State) : Answer :=
  onSeg s p ps 1 true (some .scan) fun g =>
    let t := s.stopScan g
    accept t (t.scanBytes g)

/-- STOP_SCAN (0x42). -/
def execStopScan (p : Port) (tag : Byte) (ps : List Byte) (s : State) : Host.Outcome State Fault Refusal :=
  command 0x42 p tag ps (stopScan p ps) s

/-- The effect of FINISH_SCAN by the scan state (R88). -/
def Scheduler.finish (c : Scheduler) : Scheduler :=
  match c.scan with
  | .running => { c with scan := .finishing, cut := false }
  | .waiting => c.stop
  | .haltedPower => c.stop
  | .haltedLine => c.stop
  | _ => c

def finishScan (p : Port) (ps : List Byte) (s : State) : Answer :=
  onSeg s p ps 1 true (some .scan) fun g =>
    let t := s.modSched g Scheduler.finish
    accept t (t.scanBytes g)

/-- FINISH_SCAN (0x43). -/
def execFinishScan (p : Port) (tag : Byte) (ps : List Byte) (s : State) : Host.Outcome State Fault Refusal :=
  command 0x43 p tag ps (finishScan p ps) s

/-! ### FIRE_TRIGGER and CONFIGURE_TRIGGER_INPUT (R100, R101) -/

def fireTrigger (p : Port) (ps : List Byte) (e : Env) (s : State) : Answer :=
  match groupOf (arg ps 0) with
  | none => refuse s .badParameter
  | some v =>
    if ps.length ≠ 1 then refuse s .badParameter
    else if s.hasDevice p .scan = false then refuse s .noRight
    else
      let r := s.trigger v e
      accept r.1 (r.2.map byteOf)

/-- FIRE_TRIGGER (0x44). -/
def execFireTrigger (p : Port) (tag : Byte) (ps : List Byte) (e : Env) (s : State) :
    Host.Outcome State Fault Refusal :=
  command 0x44 p tag ps (fireTrigger p ps e) s

def State.modTrg (s : State) (t : Trg) (f : TriggerInput → TriggerInput) : State :=
  { s with trigs := s.trigs.set t (f (s.trigs.get t)) }

/-- The settings of CONFIGURE_TRIGGER_INPUT within their values: the input, the value (none for NONE),
falling polarity, LEVEL model. -/
def triggerCfgOf (ps : List Byte) : Option (Trg × Option (Fin 16) × Bool × Bool) := do
  let t ← trgOf (arg ps 0)
  let falling ← boolOf (arg ps 2)
  let level ← boolOf (arg ps 3)
  if arg ps 1 = 0xFF then some (t, none, falling, level)
  else
    let v ← groupOf (arg ps 1)
    some (t, some v, falling, level)

def configureTriggerInput (p : Port) (ps : List Byte) (s : State) : Answer :=
  match triggerCfgOf ps with
  | none => refuse s .badParameter
  | some (t, v, falling, level) =>
    if ps.length ≠ 4 then refuse s .badParameter
    else if s.hasDevice p .scan = false then refuse s .noRight
    else
      accept (s.modTrg t fun i => { i with value := v, falling := falling, levelModel := level, held := false })
        [byteOf (boolCode (s.trigs.get t).level)]

/-- CONFIGURE_TRIGGER_INPUT (0x45). -/
def execConfigureTriggerInput (p : Port) (tag : Byte) (ps : List Byte) (s : State) :
    Host.Outcome State Fault Refusal :=
  command 0x45 p tag ps (configureTriggerInput p ps) s

/-! ### Period boundaries and deferred starts (R81, R84) -/

/-- A boundary of a running period timer, by the scan state (R84). -/
def State.boundary (s : State) (g : Seg) (e : Env) : State :=
  match (s.sched g).scan with
  | .waiting => (s.startCycle g).arbitrate g e
  | .running => s.overrun g e
  | .finishing => s.overrun g e
  | _ => s

/-- PERIOD_BOUNDARY: the timer keeps running with its boundaries (R84). -/
def execPeriodBoundary (g : Seg) (e : Env) (s : State) : Host.Outcome State Fault Refusal :=
  event (fun s => if (s.sched g).periodTimer.isSome then s.boundary g e else s) s

/-- A deferred start at the next 100 µs tick (R81): cleared, and the cycle starts in WAITING; for a held
LEVEL trigger the input must still be held. -/
def State.deferredStart (s : State) (g : Seg) (e : Env) : State :=
  let s1 := s.modSched g fun c => { c with deferred := false }
  if decide ((s.sched g).scan = .waiting) && (decide ((s.sched g).cfg.mode = .freeRun) || s.heldFor g) then
    (s1.startCycle g).arbitrate g e
  else s1

/-- DEFERRED_START. -/
def execDeferredStart (g : Seg) (e : Env) (s : State) : Host.Outcome State Fault Refusal :=
  event (fun s => if (s.sched g).deferred then s.deferredStart g e else s) s

/-! ### TRIGGER_INPUT_EDGE (R101, R102) -/

/-- A change of the filtered level: the level-held state, then the trigger event of an active edge
(R102, notes/assumptions/12). An input whose value is NONE makes no event. -/
def State.edge (s : State) (t : Trg) (level : Bool) (e : Env) : State :=
  let i := s.trigs.get t
  let active := decide (level ≠ i.falling)
  let s1 := s.modTrg t fun i => { i with level := level, held := active && i.levelModel }
  if active then
    match i.value with
    | some v => (s1.trigger v e).1
    | none => s1
  else s1

/-- TRIGGER_INPUT_EDGE: the input's filtered level becomes `level`. -/
def execTriggerInputEdge (t : Trg) (level : Bool) (e : Env) (s : State) : Host.Outcome State Fault Refusal :=
  event (fun s => if (s.trigs.get t).level = level then s else s.edge t level e) s

end Sys2Proof.Machine
end

