-- ==== Sys2Proof/Machine/TimeEvents.lean ====
section
/-! DEFINITION. The 10 ms tick and the stale expiry: AGE_TICK, STALE_EXPIRY.
Spec: R35 (02), R169 (10). -/

namespace Sys2Proof.Machine

/-- A tick at a record: the age of a LIVE point with a value rises, saturating (R35). -/
def Point.tick (t : Point) : Point :=
  if t.life = .live ∧ t.value.isSome = true then { t with age := min (t.age + 1) Config.ageMax } else t

/-- A tick at a running supervision timer, up to its period (R169, notes/assumptions/29). -/
def PortUnit.tick (u : PortUnit) : PortUnit := { u with supTimer := u.supTimer.map fun n => min (n + 1) u.supPeriod }

/-- AGE_TICK: the 10 ms tick of the Timebase. -/
def execAgeTick (s : State) : Host.Outcome State Fault Refusal :=
  event (fun s => ((s.mapPoints Point.tick).modPort .a PortUnit.tick).modPort .b PortUnit.tick) s

/-- STALE_EXPIRY: a GOOD point whose age has reached its non-zero stale limit becomes STALE (R35). -/
def execStaleExpiry (i : PointIdx) (s : State) : Host.Outcome State Fault Refusal :=
  event (fun s =>
    if (s.point i).life = .live ∧ (s.point i).expired = true then s.setQuality i .stale else s) s

end Sys2Proof.Machine
end

