-- ==== Sys2Proof/Machine/Dispatch.lean ====
section
/-! DEFINITION. The dispatch: one arm per command or event, each one call of its meaning. -/

namespace Sys2Proof.Machine

def exec (i : Instr) (s : State) : Host.Outcome State Fault Refusal :=
  match i with
  | .noop p tag ps => Sys2Proof.Machine.execNoop p tag ps s
  | .readIdentity p tag ps => Sys2Proof.Machine.execReadIdentity p tag ps s
  | .setSupervision p tag ps => Sys2Proof.Machine.execSetSupervision p tag ps s
  | .setRights p tag ps => Sys2Proof.Machine.execSetRights p tag ps s
  | .readRights p tag ps => Sys2Proof.Machine.execReadRights p tag ps s
  | .resetPort p tag ps => Sys2Proof.Machine.execResetPort p tag ps s
  | .resetDevice p tag ps x => Sys2Proof.Machine.execResetDevice p tag ps x s
  | .unknownCommand p code tag ps => Sys2Proof.Machine.execUnknownCommand p code tag ps s
  | .frameRejected p bytes => Sys2Proof.Machine.execFrameRejected p bytes s
  | .fetch p cs => Sys2Proof.Machine.execFetch p cs s
  | .definePoint p tag ps => Sys2Proof.Machine.execDefinePoint p tag ps s
  | .retirePoint p tag ps e => Sys2Proof.Machine.execRetirePoint p tag ps e s
  | .modifyPoint p tag ps e => Sys2Proof.Machine.execModifyPoint p tag ps e s
  | .listPoints p tag ps => Sys2Proof.Machine.execListPoints p tag ps s
  | .readPoint p tag ps => Sys2Proof.Machine.execReadPoint p tag ps s
  | .readBlock p tag ps => Sys2Proof.Machine.execReadBlock p tag ps s
  | .demandRead p tag ps e => Sys2Proof.Machine.execDemandRead p tag ps e s
  | .setBand p tag ps => Sys2Proof.Machine.execSetBand p tag ps s
  | .clearBand p tag ps => Sys2Proof.Machine.execClearBand p tag ps s
  | .setDeadband p tag ps => Sys2Proof.Machine.execSetDeadband p tag ps s
  | .writePoint p tag ps e => Sys2Proof.Machine.execWritePoint p tag ps e s
  | .cancelWrite p tag ps => Sys2Proof.Machine.execCancelWrite p tag ps s
  | .setSafeValue p tag ps => Sys2Proof.Machine.execSetSafeValue p tag ps s
  | .configureScan p tag ps => Sys2Proof.Machine.execConfigureScan p tag ps s
  | .startScan p tag ps e => Sys2Proof.Machine.execStartScan p tag ps e s
  | .stopScan p tag ps => Sys2Proof.Machine.execStopScan p tag ps s
  | .finishScan p tag ps => Sys2Proof.Machine.execFinishScan p tag ps s
  | .fireTrigger p tag ps e => Sys2Proof.Machine.execFireTrigger p tag ps e s
  | .configureTriggerInput p tag ps => Sys2Proof.Machine.execConfigureTriggerInput p tag ps s
  | .configureLink p tag ps => Sys2Proof.Machine.execConfigureLink p tag ps s
  | .recoverLine p tag ps => Sys2Proof.Machine.execRecoverLine p tag ps s
  | .readNodes p tag ps => Sys2Proof.Machine.execReadNodes p tag ps s
  | .releaseNode p tag ps => Sys2Proof.Machine.execReleaseNode p tag ps s
  | .configureTally p tag ps => Sys2Proof.Machine.execConfigureTally p tag ps s
  | .readTally p tag ps => Sys2Proof.Machine.execReadTally p tag ps s
  | .configureFeed p tag ps => Sys2Proof.Machine.execConfigureFeed p tag ps s
  | .feedOn p tag ps => Sys2Proof.Machine.execFeedOn p tag ps s
  | .feedOff p tag ps e => Sys2Proof.Machine.execFeedOff p tag ps e s
  | .readFeeds p tag ps => Sys2Proof.Machine.execReadFeeds p tag ps s
  | .subscribe p tag ps => Sys2Proof.Machine.execSubscribe p tag ps s
  | .unsubscribe p tag ps => Sys2Proof.Machine.execUnsubscribe p tag ps s
  | .takeAttention p tag ps => Sys2Proof.Machine.execTakeAttention p tag ps s
  | .setNoticeMask p tag ps => Sys2Proof.Machine.execSetNoticeMask p tag ps s
  | .supervisionLapse p e => Sys2Proof.Machine.execSupervisionLapse p e s
  | .ageTick => Sys2Proof.Machine.execAgeTick s
  | .staleExpiry k => Sys2Proof.Machine.execStaleExpiry k s
  | .periodBoundary g e => Sys2Proof.Machine.execPeriodBoundary g e s
  | .deferredStart g e => Sys2Proof.Machine.execDeferredStart g e s
  | .triggerInputEdge t level e => Sys2Proof.Machine.execTriggerInputEdge t level e s
  | .requestSent g => Sys2Proof.Machine.execRequestSent g s
  | .responseStartBit g => Sys2Proof.Machine.execResponseStartBit g s
  | .responseWindowExpiry g e => Sys2Proof.Machine.execResponseWindowExpiry g e s
  | .responseFrameEnd g frame e => Sys2Proof.Machine.execResponseFrameEnd g frame e s
  | .tenthCharacter g e => Sys2Proof.Machine.execTenthCharacter g e s
  | .backoffExpiry g e => Sys2Proof.Machine.execBackoffExpiry g e s
  | .idleWaitLineIdle g => Sys2Proof.Machine.execIdleWaitLineIdle g s
  | .idleWaitExpiry g => Sys2Proof.Machine.execIdleWaitExpiry g s
  | .transmitterCurrentLimit g => Sys2Proof.Machine.execTransmitterCurrentLimit g s
  | .gapEnd g e => Sys2Proof.Machine.execGapEnd g e s
  | .recoveryExpiry g e => Sys2Proof.Machine.execRecoveryExpiry g e s
  | .recoveryLineIdle g => Sys2Proof.Machine.execRecoveryLineIdle g s
  | .clampBegin g => Sys2Proof.Machine.execClampBegin g s
  | .clampEnd g => Sys2Proof.Machine.execClampEnd g s
  | .feedTrip g ticks outputLow e => Sys2Proof.Machine.execFeedTrip g ticks outputLow e s
  | .startTimerExpiry g e => Sys2Proof.Machine.execStartTimerExpiry g e s
  | .settleTimerExpiry g e => Sys2Proof.Machine.execSettleTimerExpiry g e s
  | .retryTimerExpiry g => Sys2Proof.Machine.execRetryTimerExpiry g s
  | .supplyLevelChange vfield e => Sys2Proof.Machine.execSupplyLevelChange vfield e s
  | .temperatureLevelChange temp e => Sys2Proof.Machine.execTemperatureLevelChange temp e s
  | .vddBrownout => Sys2Proof.Machine.execVddBrownout s
  | .powerOn => Sys2Proof.Machine.execPowerOn s
  | .resetPin => Sys2Proof.Machine.execResetPin s
  | .resetExit x => Sys2Proof.Machine.execResetExit x s

end Sys2Proof.Machine
end

