-- ==== Sys2Proof/Safety.lean ====
section
/-! DEFINITION. What a claim about the device can rest on: frames (what a step leaves as it was) and the
invariants that every step keeps.
Spec: R8, R14 (01), R33 (02), R73, R74, R77, R83, R89, R92, R95, R98 (05), R107, R109, R110, R113 (06), R120, R121,
R126, R128 (07), R152, R154 (09), R162, R166, R174 (10), and the ranges of the chapters' tables. -/

namespace Sys2Proof.Machine

/-- A step that goes on. No step of this device ends otherwise. -/
def Goes (s : State) : Prop := ∃ t, step s = .next t

/-! ### Transactions -/

/-- The device takes the transaction that ends on the port, and the parameters fit a frame (R163, R174). -/
def Takes (s : State) (p : Port) (ps : List Byte) : Prop := s.hears p = true ∧ ps.length ≤ Config.maxParams

/-- From `s`, a command frame whose command left `t`: its reply in the slot, the status byte of `s` as the chip-select
fell shifted out, then 0x00 (Table 10-2), and the chip-select high. -/
def State.answered (s t : State) (p : Port) (code tag : Byte) (ps : List Byte) (r : Result) (data : List Byte) :
    State :=
  ((t.putReply p ⟨tag, code, r, data⟩).shiftOut p (commandOut (s.port p).shown (5 + ps.length))).selectRises p

/-- A command row: its port, code, tag and parameter bytes. -/
def commandParts : Instr → Option (Port × Byte × Byte × List Byte)
  | .noop p tag ps => some (p, 0x00, tag, ps)
  | .readIdentity p tag ps => some (p, 0x01, tag, ps)
  | .setSupervision p tag ps => some (p, 0x02, tag, ps)
  | .setRights p tag ps => some (p, 0x03, tag, ps)
  | .readRights p tag ps => some (p, 0x04, tag, ps)
  | .resetPort p tag ps => some (p, 0x05, tag, ps)
  | .resetDevice p tag ps _ => some (p, 0x06, tag, ps)
  | .definePoint p tag ps => some (p, 0x10, tag, ps)
  | .retirePoint p tag ps _ => some (p, 0x11, tag, ps)
  | .modifyPoint p tag ps _ => some (p, 0x12, tag, ps)
  | .listPoints p tag ps => some (p, 0x13, tag, ps)
  | .readPoint p tag ps => some (p, 0x20, tag, ps)
  | .readBlock p tag ps => some (p, 0x21, tag, ps)
  | .demandRead p tag ps _ => some (p, 0x22, tag, ps)
  | .setBand p tag ps => some (p, 0x28, tag, ps)
  | .clearBand p tag ps => some (p, 0x29, tag, ps)
  | .setDeadband p tag ps => some (p, 0x2A, tag, ps)
  | .writePoint p tag ps _ => some (p, 0x30, tag, ps)
  | .setSafeValue p tag ps => some (p, 0x31, tag, ps)
  | .cancelWrite p tag ps => some (p, 0x32, tag, ps)
  | .configureScan p tag ps => some (p, 0x40, tag, ps)
  | .startScan p tag ps _ => some (p, 0x41, tag, ps)
  | .stopScan p tag ps => some (p, 0x42, tag, ps)
  | .finishScan p tag ps => some (p, 0x43, tag, ps)
  | .fireTrigger p tag ps _ => some (p, 0x44, tag, ps)
  | .configureTriggerInput p tag ps => some (p, 0x45, tag, ps)
  | .configureLink p tag ps => some (p, 0x48, tag, ps)
  | .recoverLine p tag ps => some (p, 0x49, tag, ps)
  | .readNodes p tag ps => some (p, 0x50, tag, ps)
  | .releaseNode p tag ps => some (p, 0x51, tag, ps)
  | .configureTally p tag ps => some (p, 0x52, tag, ps)
  | .readTally p tag ps => some (p, 0x53, tag, ps)
  | .configureFeed p tag ps => some (p, 0x58, tag, ps)
  | .feedOn p tag ps => some (p, 0x59, tag, ps)
  | .feedOff p tag ps _ => some (p, 0x5A, tag, ps)
  | .readFeeds p tag ps => some (p, 0x5B, tag, ps)
  | .subscribe p tag ps => some (p, 0x60, tag, ps)
  | .unsubscribe p tag ps => some (p, 0x61, tag, ps)
  | .takeAttention p tag ps => some (p, 0x62, tag, ps)
  | .setNoticeMask p tag ps => some (p, 0x63, tag, ps)
  | .unknownCommand p code tag ps => some (p, code, tag, ps)
  | _ => none

/-- A command whose first two parameter bytes are a point's handle: its parameter length, the group right it
needs, and whether its other parameters lie within their values (Table 10-5). -/
def handleRow : Instr → Option (Nat × Option GroupRight × Bool)
  | .retirePoint _ _ _ _ => some (2, some .manage, true)
  | .readPoint _ _ _ => some (2, some .read, true)
  | .demandRead _ _ _ _ => some (2, some .read, true)
  | .setBand _ _ _ => some (14, some .manage, true)
  | .clearBand _ _ _ => some (2, some .manage, true)
  | .setDeadband _ _ _ => some (6, some .manage, true)
  | .writePoint _ _ ps _ => some (7, some .write, decide (arg ps 6 ≤ 1))
  | .setSafeValue _ _ ps => some (7, some .manage, decide (arg ps 2 ≤ 1))
  | .cancelWrite _ _ _ => some (2, some .write, true)
  | .subscribe _ _ ps => some (3, some .read, decide (1 ≤ arg ps 2 ∧ arg ps 2 < 16))
  | .unsubscribe _ _ _ => some (2, none, true)
  | _ => none

/-- A command whose first parameter byte is a segment: its parameter length, the device right it needs, and
whether its other parameters lie within their values (Table 10-5). -/
def segRow : Instr → Option (Nat × Option DeviceRight × Bool)
  | .configureScan _ _ ps => some (8, some .scan, (scanCfgOf ps).isSome)
  | .startScan _ _ _ _ => some (1, some .scan, true)
  | .stopScan _ _ _ => some (1, some .scan, true)
  | .finishScan _ _ _ => some (1, some .scan, true)
  | .configureLink _ _ ps => some (7, some .scan, (linkCfgOf ps).isSome)
  | .recoverLine _ _ _ => some (1, some .scan, true)
  | .readNodes _ _ _ => some (1, none, true)
  | .releaseNode _ _ ps => some (2, some .scan, decide (1 ≤ arg ps 1 ∧ arg ps 1 ≤ 30))
  | .configureTally _ _ ps =>
    some (4, some .scan, decide (arg ps 1 ≤ 1) && decide (arg ps 2 ≤ 9) && decide (arg ps 3 ≤ 30))
  | .readTally _ _ ps => some (2, none, decide (arg ps 1 ≤ 1))
  | .configureFeed _ _ ps => some (7, some .feed, (feedCfgOf ps).isSome)
  | .feedOn _ _ _ => some (1, some .feed, true)
  | .feedOff _ _ _ _ => some (1, some .feed, true)
  | _ => none

/-! ### Notes and the ends of exchanges -/

/-- What a port's attention list holds for the present use of a point record: the note of its entry, or an empty
one (R152, R154). -/
def State.noteOf (s : State) (p : Port) (i : PointIdx) : PointNote :=
  match (s.port p).attention.find? (Entry.isPoint i (s.point i).generation) with
  | some (.point _ _ n) => n
  | _ => .empty

/-- What a port's attention list holds for a segment: the note of its entry, or an empty one (R152, R156). -/
def State.segNoteOf (s : State) (p : Port) (g : Seg) : SegNote :=
  match (s.port p).attention.find? (Entry.isSegment g) with
  | some (.segment _ n) => n
  | _ => .empty

/-- What a port's attention list holds for the device: the note of its entry, or an empty one (R152, R156). -/
def State.devNoteOf (s : State) (p : Port) : DevNote :=
  match (s.port p).attention.find? Entry.isDevice with
  | some (.device n) => n
  | _ => 0

/-- At `s` the event `i` ends the exchange `x` of segment `g` with outcome `o`: by its last attempt (R109, R110) or
by a line fault (R113). -/
def State.endsExchange (s : State) (i : Instr) (g : Seg) (x : Exchange) (o : ExchangeOutcome) : Prop :=
  (∃ e, i = .responseWindowExpiry g e ∧ (s.link g).state = .busy .awaiting x ∧
    (s.link g).cfg.retries < x.attempts ∧ o = .failed) ∨
  (∃ e, i = .tenthCharacter g e ∧ (s.link g).state = .busy .receiving x ∧
    (s.link g).cfg.retries < x.attempts ∧ o = .failed) ∨
  (∃ frame e, i = .responseFrameEnd g frame e ∧ (s.link g).state = .busy .receiving x ∧
    (judgeResponse x frame = .accepted ∧ o = .ok ∨
      judgeResponse x frame ∈ [.noObject, .badLength, .readOnly] ∧ o = .refused ∨
      judgeResponse x frame = .checkError ∧ (s.link g).cfg.retries < x.attempts ∧ o = .failed ∨
      judgeResponse x frame = .busy ∧ (s.link g).cfg.retries < x.attempts ∧ o = .deferred)) ∨
  (i = .idleWaitExpiry g ∧ (s.link g).state = .busy .sending x ∧ (s.link g).idleTimer ≠ none ∧ o = .lineFault) ∨
  (i = .transmitterCurrentLimit g ∧ (s.link g).state = .busy .sending x ∧ (s.link g).idleTimer = none ∧
    o = .lineFault)

/-- At `s` the outcome `o` of an exchange with the node brings its record to LOST (R121). -/
def State.bringsLost (s : State) (g : Seg) (n : NodeIdx) (o : ExchangeOutcome) : Prop :=
  o = .failed ∧ (s.node g n).state ≠ .idle ∧ (s.node g n).state ≠ .lost ∧
    (s.link g).cfg.lostLimit ≤ min ((s.node g n).failures + 1) Config.failuresMax

/-- A visit to the point gives the exchange `f`, or none (R77, R126). -/
def State.visitNeeds (s : State) (g : Seg) (i : PointIdx) (f : Option Func) : Prop :=
  (f = none ∧
    ((s.point i).phase ≠ 0 ∨
      (s.node g (s.point i).node).state = .lost ∧ (s.node g (s.point i).node).probe = true ∨
      (s.point i).kind = .output ∧ (s.point i).slot = none ∧ (s.point i).verify = false)) ∨
  ((s.point i).phase = 0 ∧
    ¬((s.node g (s.point i).node).state = .lost ∧ (s.node g (s.point i).node).probe = true) ∧
    (f = some .read ∧ (s.point i).kind = .input ∨
      f = some .write ∧ (s.point i).kind = .output ∧ (s.point i).slot ≠ none ∨
      f = some .read ∧ (s.point i).kind = .output ∧ (s.point i).slot = none ∧ (s.point i).verify = true))

/-- A record after a visit, but for what a grant does to it (R77). -/
def Point.visited (t : Point) : Point :=
  { t with phase := if t.phase = 0 then t.divider - 1 else t.phase - 1 }

/-! ### Frames -/

/-- A port but for its attention list. -/
def PortUnit.bare (u : PortUnit) : PortUnit := { u with attention := [] }

/-- No segment. -/
def noSeg : Seg → Prop := fun _ => False

/-- One segment. -/
def onlySeg (g : Seg) : Seg → Prop := fun h => h = g

/-- From `s` to `t`, no feed outside `F` changes, no link outside `L`, and no Scheduler and tally of a segment
outside `G`; no port but in its attention list; and nothing else but point records and node records. -/
structure Touches (F L G : Seg → Prop) (s t : State) : Prop where
  pending : t.pending = s.pending
  inReset : t.inReset = s.inReset
  trigs : t.trigs = s.trigs
  supply : t.supply = s.supply
  temperature : t.temperature = s.temperature
  ports : ∀ p, (t.port p).bare = (s.port p).bare
  feed : ∀ h, ¬ F h → t.feed h = s.feed h
  sched : ∀ h, ¬ G h → t.sched h = s.sched h
  link : ∀ h, ¬ L h → t.link h = s.link h
  tally0 : ∀ h, ¬ G h → (t.seg h).tally0 = (s.seg h).tally0
  tally1 : ∀ h, ¬ G h → (t.seg h).tally1 = (s.seg h).tally1

/-- From `s` to `t`, only attention lists change. -/
structure NoticesOnly (s t : State) : Prop where
  pending : t.pending = s.pending
  inReset : t.inReset = s.inReset
  trigs : t.trigs = s.trigs
  supply : t.supply = s.supply
  temperature : t.temperature = s.temperature
  ports : ∀ p, (t.port p).bare = (s.port p).bare
  segs : t.segs = s.segs
  points : t.points = s.points

/-! ### Invariants -/

/-- At least one port holds the device right RIGHTS (R166). -/
def RightsHeld (s : State) : Prop := s.hasDevice .a .rights = true ∨ s.hasDevice .b .rights = true

/-- What an entry of an attention list names (R152). -/
inductive Thing where
  | point (i : PointIdx) (generation : Byte)
  | segment (g : Seg)
  | device
  deriving DecidableEq, Repr

def Entry.thing : Entry → Thing
  | .point i h _ => .point i h
  | .segment g _ => .segment g
  | .device _ => .device

/-- Each attention list holds at most one entry for a thing (R152). -/
def ListsMerged (s : State) : Prop := ∀ p, ((s.port p).attention.map Entry.thing).Nodup

/-- The demand queues hold at most 8 entries (R95). -/
def QueuesFit (s : State) : Prop := ∀ g, (s.sched g).queue.length ≤ Config.queueEntries

/-- The Scheduler's saturating counts stay in their ranges (R73). -/
def SchedCounts (s : State) : Prop :=
  ∀ g, (s.sched g).cyclesEnded ≤ Config.countMax ∧ (s.sched g).overruns ≤ Config.countMax ∧
    (s.sched g).backToBack ≤ Config.backToBackMax

/-- The scan states of a segment whose feed is not ON (R92). -/
def ScanState.quiet (c : ScanState) : Prop :=
  c = .stopped ∨ c = .stopping ∨ c = .haltedPower ∨ c = .haltedLine

/-- A scan list holds the LIVE points of its segment, each once, and its cursor stands on one of them or at END
(R74, R75). -/
def ScanListsSound (s : State) : Prop :=
  ∀ g, (s.sched g).list.Nodup ∧
    (∀ i, i ∈ (s.sched g).list ↔ (s.point i).life = .live ∧ (s.point i).seg = g) ∧
    ∀ i, (s.sched g).cursor = some i → i ∈ (s.sched g).list

/-- What a segment's blocks hold of its points: a demand queue names distinct LIVE points of its segment (R95), an
exchange in flight serves a LIVE or RETIRING point of its segment and is addressed to its node (R14, R107), and while
the feed is not ON the link is OFF, the queue is empty, the scan is STOPPED, STOPPING or HALTED and every LIVE point
is UNPOWERED (R33, R92). -/
def SegmentLaw (s : State) : Prop :=
  ∀ g, ((s.sched g).queue.map DemandEntry.point).Nodup ∧
    (∀ d ∈ (s.sched g).queue, (s.point d.point).life = .live ∧ (s.point d.point).seg = g) ∧
    (∀ x, (s.link g).exchange = some x →
      (s.point x.target).seg = g ∧ (s.point x.target).node = x.node ∧
        ((s.point x.target).life = .live ∨ (s.point x.target).life = .retiring)) ∧
    ((s.feed g).state ≠ .on →
      (s.link g).state = .off ∧ (s.sched g).queue = [] ∧ (s.sched g).scan.quiet ∧
      ∀ i, (s.point i).life = .live → (s.point i).seg = g → (s.point i).quality = .unpowered)

/-- Each node record counts the LIVE and RETIRING points of its segment and address, and is IDLE, with no failures and
its probe mark clear, exactly when there is none; a segment has at most 96 of them (R8, R120, R128). -/
def NodeCounts (s : State) : Prop :=
  (∀ g n,
    (s.node g n).refs =
      (Finset.univ.filter fun i : PointIdx =>
        ((s.point i).life = .live ∨ (s.point i).life = .retiring) ∧ (s.point i).seg = g ∧ (s.point i).node = n).card ∧
    ((s.node g n).state = .idle ↔ (s.node g n).refs = 0) ∧
    ((s.node g n).state = .idle → (s.node g n).failures = 0 ∧ (s.node g n).probe = false)) ∧
  ∀ g,
    (Finset.univ.filter fun i : PointIdx =>
      ((s.point i).life = .live ∨ (s.point i).life = .retiring) ∧ (s.point i).seg = g).card ≤ Config.segmentPoints

/-- While a segment's feed is not ON, its link is OFF, its demand queue is empty, and its scan is STOPPED,
STOPPING or HALTED (R92, but for the qualities of its points). -/
def UnpoweredQuiet (s : State) : Prop :=
  ∀ g, (s.feed g).state ≠ .on →
    (s.link g).state = .off ∧ (s.sched g).queue = [] ∧ (s.sched g).scan.quiet

end Sys2Proof.Machine
end

