-- ==== Sys2Proof/WellFormed.lean ====
section
/-! DEFINITION. Which terms are commands and events that the outside can send.
Spec: R162 to R165 (10) for the transactions, R104, R109 (06) for a received frame; notes/assumptions/23. -/

namespace Sys2Proof

/-- No part is named twice in an order. -/
def Env.wellFormed (e : Env) : Bool := decide e.order.Nodup

/-- A command frame carries at most 48 parameter bytes (R163). -/
def paramsFit (ps : List Byte) : Bool := decide (ps.length ≤ Config.maxParams)

def Instr.wellFormed : Instr → Bool
  | .noop _ _ ps => paramsFit ps
  | .readIdentity _ _ ps => paramsFit ps
  | .setSupervision _ _ ps => paramsFit ps
  | .setRights _ _ ps => paramsFit ps
  | .readRights _ _ ps => paramsFit ps
  | .resetPort _ _ ps => paramsFit ps
  | .resetDevice _ _ ps _ => paramsFit ps
  | .definePoint _ _ ps => paramsFit ps
  | .retirePoint _ _ ps e => paramsFit ps && e.wellFormed
  | .modifyPoint _ _ ps e => paramsFit ps && e.wellFormed
  | .listPoints _ _ ps => paramsFit ps
  | .readPoint _ _ ps => paramsFit ps
  | .readBlock _ _ ps => paramsFit ps
  | .demandRead _ _ ps e => paramsFit ps && e.wellFormed
  | .setBand _ _ ps => paramsFit ps
  | .clearBand _ _ ps => paramsFit ps
  | .setDeadband _ _ ps => paramsFit ps
  | .writePoint _ _ ps e => paramsFit ps && e.wellFormed
  | .setSafeValue _ _ ps => paramsFit ps
  | .cancelWrite _ _ ps => paramsFit ps
  | .configureScan _ _ ps => paramsFit ps
  | .startScan _ _ ps e => paramsFit ps && e.wellFormed
  | .stopScan _ _ ps => paramsFit ps
  | .finishScan _ _ ps => paramsFit ps
  | .fireTrigger _ _ ps e => paramsFit ps && e.wellFormed
  | .configureTriggerInput _ _ ps => paramsFit ps
  | .configureLink _ _ ps => paramsFit ps
  | .recoverLine _ _ ps => paramsFit ps
  | .readNodes _ _ ps => paramsFit ps
  | .releaseNode _ _ ps => paramsFit ps
  | .configureTally _ _ ps => paramsFit ps
  | .readTally _ _ ps => paramsFit ps
  | .configureFeed _ _ ps => paramsFit ps
  | .feedOn _ _ ps => paramsFit ps
  | .feedOff _ _ ps e => paramsFit ps && e.wellFormed
  | .readFeeds _ _ ps => paramsFit ps
  | .subscribe _ _ ps => paramsFit ps
  | .unsubscribe _ _ ps => paramsFit ps
  | .takeAttention _ _ ps => paramsFit ps
  | .setNoticeMask _ _ ps => paramsFit ps
  | .unknownCommand _ code _ ps => paramsFit ps && decide (code.toNat ∉ Machine.commandCodes)
  | .frameRejected _ bytes => Machine.isRejectedFrame bytes
  | .fetch _ _ => true
  | .responseFrameEnd _ frame e => decide (1 ≤ frame.length ∧ frame.length ≤ 9) && e.wellFormed
  | .supervisionLapse _ e => e.wellFormed
  | .ageTick => true
  | .staleExpiry _ => true
  | .periodBoundary _ e => e.wellFormed
  | .deferredStart _ e => e.wellFormed
  | .triggerInputEdge _ _ e => e.wellFormed
  | .requestSent _ => true
  | .responseStartBit _ => true
  | .responseWindowExpiry _ e => e.wellFormed
  | .tenthCharacter _ e => e.wellFormed
  | .backoffExpiry _ e => e.wellFormed
  | .idleWaitLineIdle _ => true
  | .idleWaitExpiry _ => true
  | .transmitterCurrentLimit _ => true
  | .gapEnd _ e => e.wellFormed
  | .recoveryExpiry _ e => e.wellFormed
  | .recoveryLineIdle _ => true
  | .clampBegin _ => true
  | .clampEnd _ => true
  | .feedTrip _ _ _ e => e.wellFormed
  | .startTimerExpiry _ e => e.wellFormed
  | .settleTimerExpiry _ e => e.wellFormed
  | .retryTimerExpiry _ => true
  | .supplyLevelChange _ e => e.wellFormed
  | .temperatureLevelChange _ e => e.wellFormed
  | .vddBrownout => true
  | .powerOn => true
  | .resetPin => true
  | .resetExit _ => true

end Sys2Proof
end

