-- ==== Sys2Proof/Certificates/Slice0/Obligations.lean ====
section
/-! DEFINITION. The statements about the device that the provers are asked for: how a step takes a command, what
each command and event does and leaves alone, which commands are refused, and the invariants that every step
keeps. -/

section

open Sys2Proof Sys2Proof.Machine

/-! ### Steps and transactions -/

/-- A step carries out the command at the front of the queue on the state with the rest; with nothing waiting
the device idles. The queue and its idle step are the model's choice (notes/assumptions/1). -/
def Obligations.StepTakesFrontCommand : Prop :=
  (∀ (c : Instr) (s : State), step { s with pending := c :: s.pending } = exec c s) ∧
    ∀ s : State, s.pending = [] → step s = .next s

/-- No command and no event stops the device: refusals are replies, failures are states and reasons. In a device
reset every event but RESET_EXIT and the causes of a reset is ignored, the feed gates are off and the attention lines
released (R147, R160). A transaction in progress at a reset, or begun in one, is discarded: at its rising chip-select
the device does nothing, even where it has left the reset by then (R174). The flag for being in reset and the field for
the chip-select are the model's (notes/assumptions/7, notes/assumptions/4). -/
def Obligations.EveryStepGoesOn : Prop :=
  (∀ s : State, ∃ t, step s = .next t) ∧
  (∀ (i : Instr) (s : State), s.inReset = true → (∀ x, i ≠ .resetExit x) → i ≠ .vddBrownout → i ≠ .powerOn →
    i ≠ .resetPin → portOfInstr i = none → (∀ p, i ≠ .fetch p .falls) → exec i s = .next s) ∧
  (∀ s : State, s.inReset = true → (∀ g, s.gate g = false) ∧ ∀ p, s.attentionLine p = false) ∧
  (∀ (s : State) (p : Port), s.hears p = true ↔ s.inReset = false ∧ (s.port p).select ≠ .ignored) ∧
  ∀ (i : Instr) (s : State) (p : Port), portOfInstr i = some p → i.wellFormed = true → s.hears p = false →
    exec i s = .next (s.modPort p fun u => { u with select := .high })

/-- A valid frame resumes a LAPSED port with PEER_RESUMED to the other, restarts a running supervision timer and
clears RESET_SEEN; it changes nothing else (R163, R171). The status byte shows REPLY_READY, ATTENTION, LAPSED and
RESET_SEEN in its bits 0 to 3 and 0 above, of the port as it is at the falling chip-select (R162): a falling chip-select
latches it, with the reply that FETCH shows (R164), and nothing but the port's rising chip-select or a device reset
ends that; one that falls in a device reset begins a transaction that is ignored (R174). The falling edge as a form of
FETCH, and a fall in the step of the rise where none came before, are the model's choice (notes/assumptions/4); a fall
where it is low already finds nothing (notes/assumptions/2). An
attention line is driven while its list holds an entry and its line is enabled, outside a reset (R160). -/
def Obligations.AcceptedFrameAndStatus : Prop :=
  (∀ (s : State) (p : Port),
    (s.acceptFrame p).pending = s.pending ∧ (s.acceptFrame p).inReset = s.inReset ∧
    (s.acceptFrame p).points = s.points ∧ (s.acceptFrame p).segs = s.segs ∧ (s.acceptFrame p).trigs = s.trigs ∧
    (s.acceptFrame p).supply = s.supply ∧ (s.acceptFrame p).temperature = s.temperature ∧
    (s.acceptFrame p).port p =
      { s.port p with
        lapsed := false
        resetSeen := false
        supTimer :=
          if (s.port p).lapsed then (if (s.port p).supPeriod = 0 then none else some 0)
          else (s.port p).supTimer.map fun _ => 0 } ∧
    (s.acceptFrame p).port p.other =
      if (s.port p).lapsed then (s.raiseDev p.other .peerResumed).port p.other else s.port p.other) ∧
  (∀ u : PortUnit,
    u.statusByte.getLsbD 0 = u.reply.isSome ∧ u.statusByte.getLsbD 1 = !u.attention.isEmpty ∧
    u.statusByte.getLsbD 2 = u.lapsed ∧ u.statusByte.getLsbD 3 = u.resetSeen ∧ u.statusByte.toNat < 16) ∧
  (∀ (s : State) (p : Port),
    s.attentionLine p = true ↔
      s.inReset = false ∧ (s.port p).attention ≠ [] ∧ (s.port p).lineEnable = true) ∧
  (∀ u : PortUnit,
    (∀ status reply, u.select = .low status reply → u.shown = status ∧ u.offered = reply) ∧
    ((∀ status reply, u.select ≠ .low status reply) → u.shown = u.statusByte ∧ u.offered = u.reply)) ∧
  (∀ (s : State) (p : Port),
    ((s.port p).select = .high → s.inReset = false →
      exec (.fetch p .falls) s =
        .next (s.modPort p fun u => { u with select := .low (s.port p).statusByte (s.port p).reply })) ∧
    ((s.port p).select = .high → s.inReset = true →
      exec (.fetch p .falls) s = .next (s.modPort p fun u => { u with select := .ignored })) ∧
    ((s.port p).select ≠ .high → exec (.fetch p .falls) s = .next s)) ∧
  ∀ (i : Instr) (s t : State) (p : Port), portOfInstr i ≠ some p → i ≠ .fetch p .falls →
    (∀ q tag ps x, i ≠ .resetDevice q tag ps x) → (∀ x, i ≠ .resetExit x) → i ≠ .vddBrownout → i ≠ .powerOn →
    i ≠ .resetPin → exec i s = .next t → (t.port p).select = (s.port p).select

/-- A refused command changes nothing but what its frame does, and its reply carries no result bytes (R165). -/
def Obligations.RefusedChangesNothing : Prop :=
  ∀ (i : Instr) (s t : State) (p : Port) (code tag : Byte) (ps : List Byte) (r : Reply),
    commandParts i = some (p, code, tag, ps) → s.hears p = true → i.wellFormed = true → exec i s = .next t →
    (t.port p).reply = some r → r.result ≠ .ok →
    r.data = [] ∧ t = s.answered (s.acceptFrame p) p code tag ps r.result []

/-- The checks of the commands that begin with a point's handle, in the order parameters, handle, right, and of
those that begin with a segment, in the order parameters, right (R5, R165); and the parameters and rights of
TAKE_ATTENTION, FIRE_TRIGGER and CONFIGURE_TRIGGER_INPUT. The lengths and values of the parameters are those of R37,
R39, R45, R47, R51, R55, R59, R69, R80, R85, R100, R101, R115, R116, R124, R128, R131, R132, R136, R143, R149, R150 and
R158; the rights are those of Table 10-5. A handle is an index and a generation, and passes its check
where the record is LIVE under that generation (R5); the rights are coded bit 0 READ, 1 WRITE, 2 MANAGE of a group's
byte and bit 0 SCAN, 1 FEED, 2 RIGHTS of the device byte, as the table after R166 lays them out. -/
def Obligations.CommandChecks : Prop :=
  (∀ (s : State) (ps : List Byte) (k : Nat),
    (argHandle ps k).idx.val = arg ps k ∧ (argHandle ps k).generation = argByte ps (k + 1) ∧
    ∀ h : Handle, s.handleOk h = true ↔ (s.point h.idx).life = .live ∧ (s.point h.idx).generation = h.generation) ∧
  (∀ (s : State) (p : Port) (k : Fin 16),
    s.hasGroup p .read k = (s.port p).rights[k.val].getLsbD 0 ∧
    s.hasGroup p .write k = (s.port p).rights[k.val].getLsbD 1 ∧
    s.hasGroup p .manage k = (s.port p).rights[k.val].getLsbD 2 ∧ s.hasDevice p .scan = (s.port p).device.getLsbD 0 ∧
    s.hasDevice p .feed = (s.port p).device.getLsbD 1 ∧ s.hasDevice p .rights = (s.port p).device.getLsbD 2) ∧
  (∀ (i : Instr) (s : State) (p : Port) (code tag : Byte) (ps : List Byte) (len : Nat) (right : Option GroupRight)
    (fit : Bool),
    commandParts i = some (p, code, tag, ps) → handleRow i = some (len, right, fit) → Takes s p ps →
    (ps.length ≠ len ∨ fit = false →
      exec i s = .next (s.answered (s.acceptFrame p) p code tag ps .badParameter [])) ∧
    (ps.length = len → fit = true → s.handleOk (argHandle ps 0) = false →
      exec i s = .next (s.answered (s.acceptFrame p) p code tag ps .staleHandle [])) ∧
    ∀ r, right = some r → ps.length = len → fit = true → s.handleOk (argHandle ps 0) = true →
      s.hasGroup p r (s.point (argHandle ps 0).idx).group = false →
      exec i s = .next (s.answered (s.acceptFrame p) p code tag ps .noRight [])) ∧
  (∀ (i : Instr) (s : State) (p : Port) (code tag : Byte) (ps : List Byte) (len : Nat) (right : Option DeviceRight)
    (fit : Bool),
    commandParts i = some (p, code, tag, ps) → segRow i = some (len, right, fit) → Takes s p ps →
    (ps.length ≠ len ∨ fit = false ∨ segOf (arg ps 0) = none →
      exec i s = .next (s.answered (s.acceptFrame p) p code tag ps .badParameter [])) ∧
    ∀ r g, right = some r → ps.length = len → fit = true → segOf (arg ps 0) = some g → s.hasDevice p r = false →
      exec i s = .next (s.answered (s.acceptFrame p) p code tag ps .noRight [])) ∧
  ∀ (s : State) (p : Port) (tag : Byte) (ps : List Byte) (e : Env), Takes s p ps →
    (ps ≠ [] →
      exec (.takeAttention p tag ps) s = .next (s.answered (s.acceptFrame p) p 0x62 tag ps .badParameter [])) ∧
    (ps.length ≠ 1 ∨ 15 < arg ps 0 →
      exec (.fireTrigger p tag ps e) s = .next (s.answered (s.acceptFrame p) p 0x44 tag ps .badParameter [])) ∧
    (ps.length = 1 → arg ps 0 ≤ 15 → s.hasDevice p .scan = false →
      exec (.fireTrigger p tag ps e) s = .next (s.answered (s.acceptFrame p) p 0x44 tag ps .noRight [])) ∧
    (ps.length ≠ 4 ∨ 1 < arg ps 0 ∨ 15 < arg ps 1 ∧ arg ps 1 ≠ 255 ∨ 1 < arg ps 2 ∨ 1 < arg ps 3 →
      exec (.configureTriggerInput p tag ps) s =
        .next (s.answered (s.acceptFrame p) p 0x45 tag ps .badParameter [])) ∧
    (ps.length = 4 → arg ps 0 ≤ 1 → (arg ps 1 ≤ 15 ∨ arg ps 1 = 255) → arg ps 2 ≤ 1 → arg ps 3 ≤ 1 →
      s.hasDevice p .scan = false →
      exec (.configureTriggerInput p tag ps) s = .next (s.answered (s.acceptFrame p) p 0x45 tag ps .noRight []))

/-! ### Ports, rights and resets -/

/-- NOOP changes nothing beyond the frame, READ_IDENTITY answers the twelve identity bytes, and parameters are refused
(R172). SET_SUPERVISION replaces the calling port's period, stops or starts its timer, and answers the old period
(R169). READ_RIGHTS answers the rights of either port and changes nothing (R166). -/
def Obligations.PortCommands : Prop :=
  (∀ (s : State) (p : Port) (tag : Byte) (ps : List Byte), Takes s p ps →
    (ps = [] →
      exec (.noop p tag ps) s = .next (s.answered (s.acceptFrame p) p 0x00 tag ps .ok []) ∧
      exec (.readIdentity p tag ps) s =
        .next (s.answered (s.acceptFrame p) p 0x01 tag ps .ok
          [0x48, 0x52, 0x56, 0x42, 1, 0, 1, 4, 96, 30, 8, 5])) ∧
    (ps ≠ [] →
      exec (.noop p tag ps) s = .next (s.answered (s.acceptFrame p) p 0x00 tag ps .badParameter []) ∧
      exec (.readIdentity p tag ps) s = .next (s.answered (s.acceptFrame p) p 0x01 tag ps .badParameter []))) ∧
  ∀ (s : State) (p : Port) (tag : Byte) (ps : List Byte), Takes s p ps →
    (∀ n : Byte, ps = [n] →
      exec (.setSupervision p tag ps) s =
        .next (s.answered
          ((s.acceptFrame p).modPort p fun u =>
            { u with supPeriod := n.toNat, supTimer := if n.toNat = 0 then none else some 0 })
          p 0x02 tag ps .ok [byteOf (s.port p).supPeriod])) ∧
    (ps.length ≠ 1 →
      exec (.setSupervision p tag ps) s = .next (s.answered (s.acceptFrame p) p 0x02 tag ps .badParameter [])) ∧
    (∀ q : Port, ps = [byteOf q.code] →
      exec (.readRights p tag ps) s =
        .next (s.answered (s.acceptFrame p) p 0x04 tag ps .ok
          ((s.port q).rights.toList.map (fun r => r.setWidth 8) ++ [(s.port q).device.setWidth 8]))) ∧
    (ps.length ≠ 1 ∨ 1 < arg ps 0 →
      exec (.readRights p tag ps) s = .next (s.answered (s.acceptFrame p) p 0x04 tag ps .badParameter []))

/-- SET_RIGHTS replaces all rights of the target, takes its subscriptions on the LIVE and RETIRING points of
every group whose READ it loses, raises RIGHTS_CHANGED for it and answers the rights before; its refusals come
in the order BAD_PARAMETER, NO_RIGHT, LAST_AUTHORITY (R151, R167, R168). -/
def Obligations.SetRights : Prop :=
  ∀ (s : State) (p q : Port) (tag : Byte) (ps : List Byte), Takes s p ps →
    (ps.length ≠ 18 ∨ 1 < arg ps 0 ∨ (∃ k, 1 ≤ k ∧ k ≤ 17 ∧ 7 < arg ps k) →
      exec (.setRights p tag ps) s = .next (s.answered (s.acceptFrame p) p 0x03 tag ps .badParameter [])) ∧
    (ps.length = 18 → arg ps 0 = q.code → (∀ k, 1 ≤ k → k ≤ 17 → arg ps k ≤ 7) →
      (s.hasDevice p .rights = false →
        exec (.setRights p tag ps) s = .next (s.answered (s.acceptFrame p) p 0x03 tag ps .noRight [])) ∧
      (s.hasDevice p .rights = true → arg ps 17 < 4 → s.hasDevice q.other .rights = false →
        exec (.setRights p tag ps) s = .next (s.answered (s.acceptFrame p) p 0x03 tag ps .lastAuthority [])) ∧
      (s.hasDevice p .rights = true → (4 ≤ arg ps 17 ∨ s.hasDevice q.other .rights = true) →
        exec (.setRights p tag ps) s =
          .next (s.answered
            ((((s.acceptFrame p).modPort q fun u =>
                { u with
                  rights := Vector.ofFn fun k => (argByte ps (k.val + 1)).setWidth 3
                  device := (argByte ps 17).setWidth 3 }).mapPoints fun t =>
                if (t.life = .live ∨ t.life = .retiring) ∧ s.hasGroup q .read t.group = true ∧
                    (argByte ps (t.group.val + 1)).getLsbD 0 = false then
                  { t with subs := t.subs.set q 0 }
                else t).raiseDev q .rightsChanged)
            p 0x03 tag ps .ok
            ((s.port q).rights.toList.map (fun r => r.setWidth 8) ++ [(s.port q).device.setWidth 8]))))

/-- RESET_PORT empties the reply slot and the list of the calling port, takes it out of every subscription,
demanders set, retire notice set and demand entry, frees the CLOSED points that only its list named, and sets
its supervision to ACTIVE with period 0; rights, masks and line enable, the other port but for PEER_RESUMED, and
everything else are kept (R173). Parameters are refused. -/
def Obligations.ResetPort : Prop :=
  ∀ (s : State) (p : Port) (tag : Byte), s.hears p = true →
    (∀ ps : List Byte, ps.length ≤ 48 → ps ≠ [] →
      exec (.resetPort p tag ps) s = .next (s.answered (s.acceptFrame p) p 0x05 tag ps .badParameter [])) ∧
    ∃ t, exec (.resetPort p tag []) s = .next (s.answered t p 0x05 tag [] .ok []) ∧
      t.port p =
        { s.port p with
          reply := none, resetSeen := false, attention := [], supPeriod := 0, supTimer := none, lapsed := false } ∧
      t.port p.other =
        (if (s.port p).lapsed then (s.raiseDev p.other .peerResumed).port p.other else s.port p.other) ∧
      (∀ i, t.point i =
        if (s.point i).life = .closed ∧ s.named p i = true ∧ s.named p.other i = false then
          Point.cleared ((s.point i).generation + 1)
        else
          { s.point i with
            subs := (s.point i).subs.set p 0
            demanders := (s.point i).demanders.set p false
            retireSet := (s.point i).retireSet.set p false }) ∧
      (∀ g, t.seg g =
        { s.seg g with
          sched :=
            { s.sched g with
              queue := (s.sched g).queue.map fun d => { d with ports := d.ports.set p false } } }) ∧
      t.trigs = s.trigs ∧ t.supply = s.supply ∧ t.temperature = s.temperature ∧ t.pending = s.pending ∧
      t.inReset = s.inReset

/-- A device reset, by RESET_DEVICE with RIGHTS or by leaving a reset of another cause, gives every block its
reset values, with the monitor's levels judged afresh from NORMAL and the trigger levels sampled; VDD_BROWNOUT,
POWER_ON and RESET_PIN hold the device in reset; a transaction in progress on either port is discarded, and the rest of
it ignored (R22, R101, R145, R147, R166, R174). The reset values are those of
Tables 5-1, 5-3, 6-1, 6-4, 7-1, 7-3, 8-1, 8-3 and 10-1; what an enumerated field of a FREE record holds is the model's
(notes/assumptions/14), as are the place for the bytes shifted out (notes/assumptions/5) and the field for the
chip-select, high in State.reset (notes/assumptions/4). The one flag for being in
reset is the model's (notes/assumptions/7), and that RESET_DEVICE leaves its reset in the same step, with the samples
as its operand, is read from R147 and R174 (notes/assumptions/28). -/
def Obligations.DeviceResets : Prop :=
  (∀ (s : State) (chip : Port → Selection),
    (∀ q, chip q = if (s.port q).select = .high then .high else .ignored) →
    (∀ (p : Port) (tag : Byte) (ps : List Byte) (x : Samples), Takes s p ps →
      (ps ≠ [] → exec (.resetDevice p tag ps x) s =
        .next (s.answered (s.acceptFrame p) p 0x06 tag ps .badParameter [])) ∧
      (ps = [] → s.hasDevice p .rights = false → exec (.resetDevice p tag ps x) s =
        .next (s.answered (s.acceptFrame p) p 0x06 tag ps .noRight [])) ∧
      (ps = [] → s.hasDevice p .rights = true → exec (.resetDevice p tag ps x) s =
        .next { State.reset with
          pending := s.pending
          ports :=
            ⟨{ State.reset.port .a with
                select := if p = .a then .high else chip .a
                miso := if p = .a then commandOut (s.port .a).shown 5 else [] },
              { State.reset.port .b with
                select := if p = .b then .high else chip .b
                miso := if p = .b then commandOut (s.port .b).shown 5 else [] }⟩
          supply := SupplyLevel.normal.judge x.vfield
          temperature := TempLevel.normal.judge x.temp
          trigs := ⟨⟨none, false, false, x.trg0, false⟩, ⟨none, false, false, x.trg1, false⟩⟩ })) ∧
    (∀ held : State,
      held = { State.reset with
        pending := s.pending
        inReset := true
        ports := ⟨{ State.reset.port .a with select := chip .a }, { State.reset.port .b with select := chip .b }⟩ } →
      exec .vddBrownout s = .next held ∧ exec .powerOn s = .next held ∧ exec .resetPin s = .next held) ∧
    ∀ x : Samples, s.inReset = true →
      exec (.resetExit x) s =
        .next { State.reset with
          pending := s.pending
          ports := ⟨{ State.reset.port .a with select := chip .a }, { State.reset.port .b with select := chip .b }⟩
          supply := SupplyLevel.normal.judge x.vfield
          temperature := TempLevel.normal.judge x.temp
          trigs := ⟨⟨none, false, false, x.trg0, false⟩, ⟨none, false, false, x.trg1, false⟩⟩ }) ∧
  State.reset.inReset = false ∧ State.reset.pending = [] ∧ (∀ i, State.reset.point i = Point.cleared 0) ∧
  (∀ n, Point.cleared n =
    { generation := n, life := .free, kind := .input, seg := .s0, node := 0, object := 0, width := .w1, signed := false
      owner := .a, group := 0, divider := 0, phase := 0, staleLimit := 0, age := 0, value := none, observed := none
      quality := .initial, verify := false, band := none, deadband := none, slot := none, inFlight := none
      safe := none, failed := 0, subs := ⟨0, 0⟩, demanders := ⟨false, false⟩, retireSet := ⟨false, false⟩ }) ∧
  (∀ g,
    State.reset.sched g =
      { list := [], cursor := none, scan := .stopped, cfg := ⟨.freeRun, 100, 0, g.code + 1, .skip, 2⟩
        cyclesEnded := 0, overruns := 0, cut := false, deferred := false, periodTimer := none, queue := []
        backToBack := 0, cycleMark := false } ∧
    State.reset.link g =
      { state := .off, faults := 0, cfg := ⟨.k125, 20, 2, 3, .ms100, 3⟩, windowTimer := none, backoffTimer := none
        idleTimer := none, gapTimer := none, recoveryTimer := none } ∧
    (∀ n, State.reset.node g n = ⟨.idle, 0, 0, false⟩) ∧
    (State.reset.seg g).tally0 = ⟨.exchangesOk, 0, 0⟩ ∧ (State.reset.seg g).tally1 = ⟨.noResponse, 0, 0⟩ ∧
    State.reset.feed g =
      { state := .off, enable := false, cfg := ⟨.ma500, .ms15, false, false, .ms2000, 20⟩, clamping := false
        clampTimer := false, startTimer := none, settleTimer := none, retryTimer := none, trips := 0 }) ∧
  (∀ p, (State.reset.port p).reply = none ∧ (State.reset.port p).attention = [] ∧
    (State.reset.port p).resetSeen = true ∧ (State.reset.port p).lapsed = false ∧
    (State.reset.port p).supPeriod = 0 ∧ (State.reset.port p).supTimer = none ∧ (State.reset.port p).segMask = 0x3F ∧
    (State.reset.port p).devMask = 0x1F ∧ (State.reset.port p).lineEnable = true ∧ (State.reset.port p).miso = [] ∧
    (State.reset.port p).select = .high) ∧
  (∀ k r, State.reset.hasGroup .a r k = true) ∧ (∀ r, State.reset.hasDevice .a r = true) ∧
  (∀ k, State.reset.hasGroup .b .read k = true ∧ State.reset.hasGroup .b .write k = false ∧
    State.reset.hasGroup .b .manage k = false) ∧
  ∀ r, State.reset.hasDevice .b r = false

/-- A valid frame whose code names no command is answered UNKNOWN_COMMAND (R165). A rejected frame is answered
FRAME_REJECTED with its cause, tag and code echoed, and neither restarts supervision, nor resumes the port, nor
clears RESET_SEEN (R163). What a port shifts out after the status byte where Table 10-2 is silent is the model's
choice (notes/assumptions/31). -/
def Obligations.UnknownAndRejectedFrames : Prop :=
  (∀ (s : State) (p : Port) (code tag : Byte) (ps : List Byte), Takes s p ps → code.toNat ∉ commandCodes →
    exec (.unknownCommand p code tag ps) s =
      .next (s.answered (s.acceptFrame p) p code tag ps .unknownCommand [])) ∧
  ∀ (s : State) (p : Port) (bytes : List Byte) (cause : Nat), s.hears p = true → bytes ≠ [] →
    argByte bytes 0 ≠ 0xB2 → rejectCause bytes = some cause →
    exec (.frameRejected p bytes) s =
      .next (s.modPort p fun u =>
        { u with
          reply := some ⟨argByte bytes 2, argByte bytes 1, .frameRejected, [byteOf cause]⟩
          miso := (s.port p).shown :: List.replicate (bytes.length - 1) 0
          select := .high })

/-- Bytes that begin with 0xA1 are a valid frame exactly when they are the marker, a code, a tag, a length of
at most 48, that many parameters and the check byte, and nothing more; the cause of any other frame is the first that
applies of: ended early 0, length above 48 1, another first byte 2, a wrong check 3, bytes beyond the check 4 (R163;
the order where a rule names none: notes/assumptions/15). -/
def Obligations.ValidFrames : Prop :=
  (∀ bytes : List Byte, argByte bytes 0 = 0xA1 →
    (rejectCause bytes = none ↔
      ∃ (code tag : Byte) (ps : List Byte), ps.length ≤ 48 ∧
        bytes = 0xA1 :: code :: tag :: byteOf ps.length :: ps ++
          [portCheck (code :: tag :: byteOf ps.length :: ps)])) ∧
  ∀ (bytes : List Byte) (n : Nat), argByte bytes 0 ≠ 0xB2 → n = arg bytes 3 →
    rejectCause bytes =
      if bytes.length < 5 ∨ bytes.length < 5 + n then some 0
      else if 48 < n then some 1
      else if argByte bytes 0 ≠ 0xA1 then some 2
      else if argByte bytes (4 + n) ≠ portCheck ((bytes.drop 1).take (3 + n)) then some 3
      else if 5 + n < bytes.length then some 4
      else none

/-- FETCH shifts out the status byte, the reply and its check, then 0x00, both as the chip-select fell, and empties the
slot where the check byte was clocked in full; an empty slot reads as NO_REPLY (R162, R164). A transaction of no
complete byte changes nothing (R162); that it is a form of FETCH is the model's choice (notes/assumptions/4), as is the
place for the bytes shifted out (notes/assumptions/5). -/
def Obligations.Fetch : Prop :=
  ∀ (s : State) (p : Port) (n : Nat) (r : Reply) (out : List Byte), s.hears p = true →
    r = (s.port p).offered.getD ⟨0, 0, .noReply, []⟩ →
    out = (s.port p).shown :: r.tag :: r.code :: byteOf r.result.code :: byteOf r.data.length :: r.data ++
      [portCheck (r.tag :: r.code :: byteOf r.result.code :: byteOf r.data.length :: r.data)] →
    (n = 0 → exec (.fetch p (.rises n)) s = .next (s.modPort p fun u => { u with select := .high })) ∧
    (0 < n → n < out.length →
      exec (.fetch p (.rises n)) s = .next (s.modPort p fun u => { u with miso := out.take n, select := .high })) ∧
    (out.length ≤ n →
      exec (.fetch p (.rises n)) s =
        .next (s.modPort p fun u =>
          { u with reply := none, miso := out ++ List.replicate (n - out.length) 0, select := .high }))

/-- The bytes of every well-formed SPI row are read back as that row (R163 to R165). -/
def Obligations.SpiRowsReadBack : Prop :=
  ∀ (i : Instr) (p : Port) (bytes : List Byte) (x : Samples) (e : Env), i.wellFormed = true →
    frameOf i = some bytes → portOfInstr i = some p →
    transaction p bytes (samplesOf x i) (envOf e i) = i

/-- Frames written out byte by byte from Table 10-2 and the check of R163, and one request frame of Table
6-4a, read as the commands they stand for. The two checks, byte by byte, most significant bit first (R105, R163). The
codes and times that parameters, replies and snapshots carry: segments, ports, inputs, nodes, groups, Tables 2-1, 2-4
(byte 53), 4-3, 5-2, 6-2, 6-3, 7-2, 7-4, 8-2, 8-4, 8-5, 9-1 (byte 10) and 10-4, R42, and the settings of R116 and
R143. -/
def Obligations.FramesAndCodes : Prop :=
  (∀ (x : Samples) (e : Env),
    transaction .a [0xA1, 0x00, 0x01, 0x00, 0x3E] x e = .noop .a 0x01 [] ∧
    transaction .b [0xA1, 0x41, 0x07, 0x01, 0x02, 0x51] x e = .startScan .b 0x07 [0x02] e ∧
    transaction .a [0xA1, 0x20, 0x10, 0x02, 0x05, 0x03, 0xA4] x e = .readPoint .a 0x10 [0x05, 0x03] ∧
    transaction .a [0xA1, 0x30, 0x22, 0x07, 0x00, 0x00, 0xE7, 0x03, 0x00, 0x00, 0x01, 0x35] x e =
      .writePoint .a 0x22 [0x00, 0x00, 0xE7, 0x03, 0x00, 0x00, 0x01] e ∧
    transaction .b [0xA1, 0x5B, 0xAB, 0x00, 0x6C] x e = .readFeeds .b 0xAB [] ∧
    transaction .a [0xA1, 0x7F, 0x00, 0x00, 0x0B] x e = .unknownCommand .a 0x7F 0x00 [] ∧
    transaction .a [0xB2, 0x00] x e = .fetch .a (.rises 2) ∧
    transaction .b [0xC3] x e = .frameRejected .b [0xC3] ∧
    requestFrame 4 16 .w2 .read none = [0xD5, 0x05, 0x01, 0x10, 0x00, 0x02, 0x91]) ∧
  (portCheck [] = 0xFF ∧ linkCheck [] = 0x00 ∧
    ∀ (shift : Byte → Byte → Byte),
      (∀ poly r, shift poly r = if r.getLsbD 7 = true then (r <<< 1) ^^^ poly else r <<< 1) →
      ∀ (xs : List Byte) (x : Byte),
        portCheck (xs ++ [x]) = (shift 0x07)^[8] (portCheck xs ^^^ x) ∧
        linkCheck (xs ++ [x]) = (shift 0x31)^[8] (linkCheck xs ^^^ x)) ∧
  ((∀ n g, segOf n = some g ↔ n = g.code) ∧ [Seg.s0, .s1, .s2, .s3].map Seg.code = [0, 1, 2, 3] ∧
    (∀ n p, portOf n = some p ↔ n = p.code) ∧ [Port.a, .b].map Port.code = [0, 1] ∧
    (∀ n i, trgOf n = some i ↔ n = (match i with
      | .trg0 => 0
      | .trg1 => 1)) ∧
    (∀ n k, nodeOf n = some k ↔ n = k.val + 1) ∧ (∀ n k, groupOf n = some k ↔ n = k.val) ∧
    (∀ n v, tallyEventOf n = some v ↔ n = v.code)) ∧
  ([Quality.initial, .good, .stale, .nodeLost, .unpowered, .refused, .disagree].map Quality.code =
      [0, 1, 2, 3, 4, 5, 6] ∧
    [BandState.unset, .below, .inside, .above].map BandState.code = [0, 1, 2, 3] ∧
    [Writer.port .a, .port .b, .safe, .reassert].map Writer.code = [0, 1, 2, 3] ∧
    [WriteResult.delivered, .refused, .superseded, .cancelled, .delayed].map WriteResult.code = [0, 1, 2, 3, 4] ∧
    [DemandOutcome.completed, .failed, .abandoned].map DemandOutcome.code = [0, 1, 2] ∧
    [ScanState.stopped, .waiting, .running, .finishing, .stopping, .haltedPower, .haltedLine].map ScanState.code =
      [0, 1, 2, 3, 4, 5, 6] ∧
    [LinkState.off, .ready, .gap, .recovering, .lineDown].map LinkState.code = [0, 1, 3, 4, 5] ∧
    (∀ sub x, (LinkState.busy sub x).code = 2) ∧
    [NodeState.idle, .unknown, .online, .suspect, .lost].map NodeState.code = [0, 1, 2, 3, 4] ∧
    [TallyEvent.exchangesOk, .retries, .noResponse, .checkErrors, .busyReplies, .refusals, .lineFaults, .overruns,
      .demandExchanges, .writesDelivered].map TallyEvent.code = [0, 1, 2, 3, 4, 5, 6, 7, 8, 9] ∧
    [FeedState.off, .starting, .settling, .on, .tripped, .latched, .forcedOff].map FeedState.code =
      [0, 1, 2, 3, 4, 5, 6] ∧
    [SupplyLevel.normal, .low, .under].map SupplyLevel.code = [0, 1, 2] ∧
    [TempLevel.normal, .warn, .shutdown].map TempLevel.code = [0, 1, 2] ∧
    [Result.ok, .frameRejected, .noReply, .unknownCommand, .badParameter, .staleHandle, .noRight, .wrongKind,
      .duplicate, .tableFull, .segmentFull, .queueFull, .notPowered, .busyState, .nothingPending,
      .lastAuthority].map Result.code =
      [0, 1, 2, 3, 4, 5, 6, 7, 8, 9, 10, 11, 12, 13, 14, 15]) ∧
  [Width.w1, .w2, .w4].map Width.bytes = [1, 2, 4] ∧
  [RecoveryTime.ms50, .ms100, .ms200, .ms500].map RecoveryTime.millis = [50, 100, 200, 500] ∧
  [BitRate.k62, .k125, .k250, .k500].map BitRate.gapMicros = [528, 264, 132, 66] ∧
  [CurrentLimit.ma250, .ma500, .ma750, .ma1000].map (fun c => (c.code, c.milliamps)) =
    [(0, 250), (1, 500), (2, 750), (3, 1000)] ∧
  [Blanking.ms5, .ms15, .ms50, .ms150].map (fun b => (b.code, b.millis)) = [(0, 5), (1, 15), (2, 50), (3, 150)] ∧
  [Retry.latch, .ms500, .ms2000, .ms10000].map (fun r => (r.code, r.millis)) =
    [(0, none), (1, some 500), (2, some 2000), (3, some 10000)]

/-! ### The Point Table -/

/-- DEFINE_POINT that passes every check makes the FREE record with the lowest index LIVE under the generation
it held, joins it to the scan list, at the end or immediately before the named point, and counts it at its node
(R10 to R12, R74, R120). -/
def Obligations.DefinePointAccepted : Prop :=
  (∀ (i b : PointIdx) (l m : List PointIdx), b ∉ l → insertBefore i b (l ++ b :: m) = l ++ i :: b :: m) ∧
  ∀ (s : State) (p : Port) (tag : Byte) (ps : List Byte) (d : Definition) (i : PointIdx), s.hears p = true →
    definitionOf ps = some d →
    (d.before = true → s.handleOk (argHandle ps 13) = true ∧ (s.point (argHandle ps 13).idx).seg = d.seg) →
    s.hasGroup p .manage d.group = true →
    (∀ j, ((s.point j).life = .live ∨ (s.point j).life = .retiring) →
      ¬((s.point j).seg = d.seg ∧ (s.point j).node = d.node ∧ (s.point j).object = d.object)) →
    s.segmentFull d.seg = false → (s.point i).life = .free → (∀ j, (s.point j).life = .free → i ≤ j) →
    exec (.definePoint p tag ps) s =
      .next (s.answered
        ((((s.acceptFrame p).setPoint i
            { Point.cleared (s.point i).generation with
              life := .live, kind := d.kind, seg := d.seg, node := d.node, object := d.object, width := d.width
              signed := d.signed, owner := p, group := d.group, divider := d.divider, staleLimit := d.stale
              verify := d.verify
              quality :=
                if (s.feed d.seg).state ≠ .on then .unpowered
                else if (s.node d.seg d.node).state = .lost then .nodeLost
                else .initial }).modSched d.seg fun c =>
            { c with
              list := if d.before then insertBefore i (argHandle ps 13).idx c.list else c.list ++ [i] }).modNode
          d.seg d.node fun n => if n.refs = 0 then ⟨.unknown, 1, 0, false⟩ else { n with refs := n.refs + 1 })
        p 0x10 tag ps .ok [byteOf i.val, (s.point i).generation])

/-- The refusals of DEFINE_POINT in their order: BAD_PARAMETER, STALE_HANDLE, NO_RIGHT, BAD_PARAMETER for a
before point of another segment, DUPLICATE, SEGMENT_FULL, TABLE_FULL (R7, R8); and those of MODIFY_POINT:
BAD_PARAMETER, STALE_HANDLE for the point and then for the before point, NO_RIGHT on the present and then on the
new group, WRONG_KIND, BAD_PARAMETER for a before point that is the point itself or of another segment (R18). The
parameters of DEFINE_POINT are within their values as its table and R7 say, and a segment is full at 96 points that
are LIVE or RETIRING. -/
def Obligations.DefineAndModifyRefused : Prop :=
  (∀ (ps : List Byte) (d : Definition),
    definitionOf ps = some d ↔
      ps.length = 15 ∧ arg ps 0 ≤ 1 ∧ 1 ≤ arg ps 2 ∧ arg ps 2 ≤ 30 ∧ arg ps 3 + 256 * arg ps 4 ≤ 1023 ∧
      arg ps 6 ≤ 1 ∧ 1 ≤ arg ps 8 ∧ arg ps 8 ≤ 16 ∧ arg ps 11 ≤ 1 ∧ arg ps 12 ≤ 1 ∧
      ¬(arg ps 11 = 1 ∧ arg ps 0 = 0) ∧ d.kind = (if arg ps 0 = 0 then .input else .output) ∧
      d.seg.code = arg ps 1 ∧ d.node.val + 1 = arg ps 2 ∧ d.object.val = arg ps 3 + 256 * arg ps 4 ∧
      d.width.bytes = arg ps 5 ∧ d.signed = decide (arg ps 6 = 1) ∧ d.group.val = arg ps 7 ∧
      d.divider = arg ps 8 ∧ d.stale = arg ps 9 + 256 * arg ps 10 ∧ d.verify = decide (arg ps 11 = 1) ∧
      d.before = decide (arg ps 12 = 1)) ∧
  (∀ (s : State) (g : Seg),
    s.segmentFull g = true ↔
      96 ≤ (Finset.univ.filter fun i : PointIdx =>
        ((s.point i).life = .live ∨ (s.point i).life = .retiring) ∧ (s.point i).seg = g).card) ∧
  (∀ (s : State) (p : Port) (tag : Byte) (ps : List Byte), Takes s p ps →
    (definitionOf ps = none →
      exec (.definePoint p tag ps) s = .next (s.answered (s.acceptFrame p) p 0x10 tag ps .badParameter [])) ∧
    ∀ (d : Definition) (r : Result), definitionOf ps = some d →
      r = (if d.before = true ∧ s.handleOk (argHandle ps 13) = false then Result.staleHandle
        else if s.hasGroup p .manage d.group = false then .noRight
        else if d.before = true ∧ (s.point (argHandle ps 13).idx).seg ≠ d.seg then .badParameter
        else if ∃ j, ((s.point j).life = .live ∨ (s.point j).life = .retiring) ∧ (s.point j).seg = d.seg ∧
          (s.point j).node = d.node ∧ (s.point j).object = d.object then .duplicate
        else if s.segmentFull d.seg = true then .segmentFull
        else if ∀ j, (s.point j).life ≠ .free then .tableFull
        else .ok) →
      r ≠ .ok → exec (.definePoint p tag ps) s = .next (s.answered (s.acceptFrame p) p 0x10 tag ps r [])) ∧
  ∀ (s : State) (p : Port) (tag : Byte) (ps : List Byte) (e : Env), Takes s p ps →
    (ps.length ≠ 11 ∨ 31 < arg ps 2 ∨ selected ps 0 = true ∧ (arg ps 3 = 0 ∨ 16 < arg ps 3) ∨
        selected ps 2 = true ∧ 15 < arg ps 6 ∨ selected ps 3 = true ∧ 1 < arg ps 7 ∨
        selected ps 4 = true ∧ 1 < arg ps 8 →
      exec (.modifyPoint p tag ps e) s = .next (s.answered (s.acceptFrame p) p 0x12 tag ps .badParameter [])) ∧
    ∀ (i b : PointIdx) (before : Prop) [Decidable before] (r : Result), ps.length = 11 → modifyValid ps = true →
      i = (argHandle ps 0).idx → b = (argHandle ps 9).idx → (before ↔ selected ps 4 = true ∧ arg ps 8 = 1) →
      r = (if s.handleOk (argHandle ps 0) = false then Result.staleHandle
        else if before ∧ s.handleOk (argHandle ps 9) = false then .staleHandle
        else if s.hasGroup p .manage (s.point i).group = false then .noRight
        else if ∃ k : Fin 16, selected ps 2 = true ∧ k.val = arg ps 6 ∧ s.hasGroup p .manage k = false then .noRight
        else if selected ps 3 = true ∧ (s.point i).kind = .input then .wrongKind
        else if before ∧ b = i then .badParameter
        else if before ∧ (s.point b).seg ≠ (s.point i).seg then .badParameter
        else .ok) →
      r ≠ .ok →
      exec (.modifyPoint p tag ps e) s = .next (s.answered (s.acceptFrame p) p 0x12 tag ps r [])

/-- RETIRE_POINT: the point leaves its scan list and the demand queue, with no DEMAND, and drops its pending value,
CANCELLED for a port that wrote it. It is RETIRING and stays counted at its node while its link serves it; else it is
CLOSED, with RETIRED for its subscribers, demanders and retire notice set, or FREE at once where nobody is told and no
list names it, and its node's count falls by 1, the record IDLE with the last (R13, R14, R16, R17, R120). The other
points keep their order in the list; the cursor moves from the point that leaves to the one behind it or END, and
otherwise stays (R74, R76). Where it reaches END in a cycle and no scan exchange is in flight, the cycle completes at
once, and the arbiter decides on a cycle that this starts (R76, R82); it touches no more of the node records than their
probe marks. The order of the blocks' parts is an operand (notes/assumptions/9). -/
def Obligations.RetirePoint : Prop :=
  (∀ (s : State) (p : Port) (i : PointIdx),
    s.named p i = true ↔ ∃ n, Entry.point i (s.point i).generation n ∈ (s.port p).attention) ∧
  ∀ (s : State) (p : Port) (tag : Byte) (ps : List Byte) (e : Env) (i : PointIdx) (g : Seg) (n m : NodeRec)
    (wrote told : Port → Prop) (serving passed : Prop), s.hears p = true →
    ps.length = 2 → s.handleOk (argHandle ps 0) = true → i = (argHandle ps 0).idx → g = (s.point i).seg →
    s.hasGroup p .manage (s.point i).group = true →
    (serving ↔ ∃ sub x, (s.link g).state = .busy sub x ∧ x.target = i) →
    (∀ q, wrote q ↔ ∃ f, ((s.point i).slot = some f ∨ (s.point i).inFlight = some f) ∧ f.writer = .port q) →
    (∀ q, told q ↔ (s.point i).subs.get q ≠ 0 ∨ (s.point i).demanders.get q = true ∨ wrote q) →
    n = s.node g (s.point i).node →
    m = (if n.refs ≤ 1 then ⟨.idle, 0, 0, false⟩ else { n with refs := n.refs - 1 }) →
    (passed ↔ (s.sched g).cursor = some i ∧ (s.sched g).list.getLast? = some i ∧ (s.sched g).scan.inCycle = true ∧
      ∀ x, (s.link g).exchange = some x → x.kind = .demand) →
    ∃ t code, exec (.retirePoint p tag ps e) s = .next (s.answered t p 0x11 tag ps .ok [code]) ∧
      i ∉ (t.sched g).list ∧ (∀ d ∈ (t.sched g).queue, d.point ≠ i) ∧
      (∀ l r, i ∉ l → i ∉ r → (s.sched g).list = l ++ i :: r →
        ∃ u v : State,
          u.sched g =
            { s.sched g with
              list := l ++ r
              cursor := if (s.sched g).cursor = some i then r.head? else (s.sched g).cursor
              queue := (s.sched g).queue.filter fun d => decide (d.point ≠ i) } ∧
          u.link g = s.link g ∧ u.trigs = s.trigs ∧ (∀ j, j ≠ i → u.point j = s.point j) ∧
          (∀ k, k ≠ (s.point i).node → u.node g k = s.node g k) ∧ (∀ q, u.segNoteOf q g = s.segNoteOf q g) ∧
          (¬passed → v = u) ∧
          (passed → v = if ((u.complete g).sched g).scan.inCycle then (u.complete g).arbitrate g e else u.complete g) ∧
          t.sched g = v.sched g ∧ t.link g = v.link g ∧ (∀ j, j ≠ i → t.point j = v.point j) ∧
          ∀ q, t.segNoteOf q g = v.segNoteOf q g) ∧
      (∀ k, k ≠ (s.point i).node → { t.node g k with probe := (s.node g k).probe } = s.node g k) ∧
      (code ≠ 3 → ∀ q,
        (t.noteOf q i).write =
          (match (s.point i).slot with
            | some f => if f.writer = .port q then some (.cancelled, f.writer) else (s.noteOf q i).write
            | none => (s.noteOf q i).write) ∧
        ((t.noteOf q i).retired = true ↔ (s.noteOf q i).retired = true ∨ code = 2 ∧ told q) ∧
        (t.noteOf q i).demand = (s.noteOf q i).demand ∧ (t.noteOf q i).quality = (s.noteOf q i).quality ∧
        (t.noteOf q i).changes = (s.noteOf q i).changes ∧ (t.noteOf q i).limits = (s.noteOf q i).limits) ∧
      (serving →
        code = 1 ∧ { t.node g (s.point i).node with probe := n.probe } = n ∧
        (∀ q, (t.point i).retireSet.get q = true ↔ wrote q) ∧
        t.point i = { s.point i with life := .retiring, slot := none, retireSet := (t.point i).retireSet }) ∧
      (¬serving →
        { t.node g (s.point i).node with probe := m.probe } = m ∧
        ((∀ q, ¬told q ∧ s.named q i = false) →
          code = 3 ∧ t.point i = Point.cleared ((s.point i).generation + 1)) ∧
        ((∃ q, told q ∨ s.named q i = true) →
          code = 2 ∧
          t.point i =
            { s.point i with
              life := .closed, divider := 0, phase := 0, staleLimit := 0, verify := false, deadband := none
              slot := none, inFlight := none, safe := none, subs := ⟨0, 0⟩, demanders := ⟨false, false⟩
              retireSet := ⟨false, false⟩ }))

/-- MODIFY_POINT without a move sets the selected fields and changes nothing else: the divider with the phase
at 0, the stale limit with a GOOD point at or over it STALE, the group with the loss of subscriptions, verify
(R19, R20). QUALITY goes out under the subscriptions that the command finds (notes/assumptions/10). -/
def Obligations.ModifyPointFields : Prop :=
  ∀ (s : State) (p : Port) (tag : Byte) (ps : List Byte) (e : Env) (i : PointIdx) (k : Fin 16), s.hears p = true →
    ps.length = 11 → modifyValid ps = true → selected ps 4 = false → s.handleOk (argHandle ps 0) = true →
    i = (argHandle ps 0).idx → s.hasGroup p .manage (s.point i).group = true →
    k.val = (if selected ps 2 then arg ps 6 else (s.point i).group.val) → s.hasGroup p .manage k = true →
    ¬(selected ps 3 = true ∧ (s.point i).kind = .input) →
    exec (.modifyPoint p tag ps e) s =
      .next (s.answered
        ((if selected ps 1 = true ∧ arg16 ps 4 ≠ 0 ∧ (s.point i).quality = .good ∧ arg16 ps 4 ≤ (s.point i).age then
            (s.acceptFrame p).setQuality i .stale
          else s.acceptFrame p).modPoint i fun t =>
          { t with
            divider := if selected ps 0 then arg ps 3 else t.divider
            phase := if selected ps 0 then 0 else t.phase
            staleLimit := if selected ps 1 then arg16 ps 4 else t.staleLimit
            group := k
            subs :=
              ⟨if selected ps 2 = true ∧ s.hasGroup .a .read k = false then 0 else t.subs.a,
                if selected ps 2 = true ∧ s.hasGroup .b .read k = false then 0 else t.subs.b⟩
            verify := if selected ps 3 then decide (arg ps 7 = 1) else t.verify })
        p 0x12 tag ps .ok [])

/-- MODIFY_POINT with a move takes the point out of its scan list and puts it at the end, or immediately before the
named point; the cursor moves on from the point that leaves to the one behind it, or to END, and otherwise keeps its
point (R19, R76). Where the leaving takes it to END in a cycle and no scan exchange is in flight, the cycle completes at
once (R76, R82); that this stands between the leaving and the joining, and that the arbiter then decides on a cycle that
starts, is the model's deduction (notes/assumptions/11). The selected fields are set as without a move, a group change
takes the subscriptions of the ports without READ on the new group, and a GOOD point at or over the new stale limit is
STALE, with QUALITY (R19, R20, R36) under the subscriptions that the command finds, the model's choice
(notes/assumptions/10). The moved point keeps its other fields, but that a grant may take its pending value, and its
other notices; the other points keep theirs, and the other segments everything. -/
def Obligations.ModifyPointMoves : Prop :=
  (∀ (i b : PointIdx) (l m : List PointIdx), b ∉ l → insertBefore i b (l ++ b :: m) = l ++ i :: b :: m) ∧
  (∀ (i : PointIdx) (l m : List PointIdx), i ∉ l → successor (l ++ i :: m) i = m.head?) ∧
  ∀ (s : State) (p : Port) (tag : Byte) (ps : List Byte) (e : Env) (i b : PointIdx) (g : Seg) (k : Fin 16)
    (passed : Prop) (stale : Bool),
    s.hears p = true → ps.length = 11 → modifyValid ps = true → selected ps 4 = true →
    s.handleOk (argHandle ps 0) = true → i = (argHandle ps 0).idx → b = (argHandle ps 9).idx → g = (s.point i).seg →
    s.hasGroup p .manage (s.point i).group = true →
    k.val = (if selected ps 2 then arg ps 6 else (s.point i).group.val) → s.hasGroup p .manage k = true →
    ¬(selected ps 3 = true ∧ (s.point i).kind = .input) →
    (arg ps 8 = 1 → s.handleOk (argHandle ps 9) = true ∧ b ≠ i ∧ (s.point b).seg = g) →
    (passed ↔ (s.sched g).cursor = some i ∧ successor (s.sched g).list i = none ∧ (s.sched g).scan.inCycle = true ∧
      ∀ x, (s.link g).exchange = some x → x.kind = .demand) →
    stale = (selected ps 1 &&
      decide (arg16 ps 4 ≠ 0 ∧ (s.point i).quality = .good ∧ arg16 ps 4 ≤ (s.point i).age)) →
    ∃ t, exec (.modifyPoint p tag ps e) s = .next (s.answered t p 0x12 tag ps .ok []) ∧
      (t.sched g).list =
        (if arg ps 8 = 1 then insertBefore i b ((s.sched g).list.filter fun x => decide (x ≠ i))
         else ((s.sched g).list.filter fun x => decide (x ≠ i)) ++ [i]) ∧
      ((s.sched g).cursor ≠ some i → (t.sched g).cursor = (s.sched g).cursor) ∧
      (∀ j, (s.sched g).cursor = some i → successor (s.sched g).list i = some j → (t.sched g).cursor = some j) ∧
      (∃ u v : State,
        u.seg g =
          { s.seg g with
            sched :=
              { s.sched g with
                list := (s.sched g).list.filter fun x => decide (x ≠ i)
                cursor :=
                  if (s.sched g).cursor = some i then successor (s.sched g).list i else (s.sched g).cursor } } ∧
        u.trigs = s.trigs ∧ (∀ j, j ≠ i → u.point j = s.point j) ∧
        (u.point i).kind = (s.point i).kind ∧ (u.point i).node = (s.point i).node ∧
        (u.point i).object = (s.point i).object ∧ (u.point i).width = (s.point i).width ∧
        (u.point i).slot = (s.point i).slot ∧ (u.point i).inFlight = (s.point i).inFlight ∧
        (∀ q, u.segNoteOf q g = s.segNoteOf q g) ∧
        (¬passed → v = u) ∧
        (passed → v = if ((u.complete g).sched g).scan.inCycle then (u.complete g).arbitrate g e else u.complete g) ∧
        t.seg g = { v.seg g with sched := { v.sched g with list := (t.sched g).list } } ∧
        (∀ j, j ≠ i → t.point j = v.point j) ∧ (∀ q, t.segNoteOf q g = v.segNoteOf q g) ∧
        t.point i =
          { s.point i with
            divider := if selected ps 0 then arg ps 3 else (s.point i).divider
            phase := if selected ps 0 then 0 else (s.point i).phase
            staleLimit := if selected ps 1 then arg16 ps 4 else (s.point i).staleLimit
            group := k
            subs :=
              ⟨if selected ps 2 = true ∧ s.hasGroup .a .read k = false then 0 else (s.point i).subs.a,
                if selected ps 2 = true ∧ s.hasGroup .b .read k = false then 0 else (s.point i).subs.b⟩
            verify := if selected ps 3 then decide (arg ps 7 = 1) else (s.point i).verify
            quality := if stale then .stale else (s.point i).quality
            slot := (v.point i).slot
            inFlight := (v.point i).inFlight }) ∧
      (∀ q j, t.noteOf q j =
        if j = i ∧ stale = true ∧ ((s.point i).subs.get q).getLsbD 2 = true then { s.noteOf q j with quality := true }
        else s.noteOf q j) ∧
      (∀ h, h ≠ g → t.seg h = s.seg h ∧ ∀ q, t.segNoteOf q h = s.segNoteOf q h) ∧
      (∀ q, t.devNoteOf q = (s.acceptFrame p).devNoteOf q ∧ (t.port q).bare = ((s.acceptFrame p).port q).bare) ∧
      t.trigs = s.trigs ∧ t.supply = s.supply ∧ t.temperature = s.temperature

/-- LIST_POINTS gives, in ascending index from the start, the handles of at most 16 LIVE points of the filtered
segment in groups the port may READ; READ_BLOCK gives at most 8 views of LIVE points. Both say where they
stopped, change nothing, and are refused only for their parameters (R21, R38). -/
def Obligations.Listings : Prop :=
  ∀ (s : State) (p : Port) (tag : Byte) (ps : List Byte) (found : List PointIdx), Takes s p ps →
    (ps.length ≠ 2 ∨ 3 < arg ps 1 ∧ arg ps 1 ≠ 255 →
      exec (.listPoints p tag ps) s = .next (s.answered (s.acceptFrame p) p 0x13 tag ps .badParameter [])) ∧
    (ps.length ≠ 1 →
      exec (.readBlock p tag ps) s = .next (s.answered (s.acceptFrame p) p 0x21 tag ps .badParameter [])) ∧
    (ps.length = 2 → (arg ps 1 < 4 ∨ arg ps 1 = 255) →
      found = (List.finRange 256).filter (fun i =>
        decide (arg ps 0 ≤ i.val ∧ (s.point i).life = .live ∧
          s.hasGroup p .read (s.point i).group = true ∧
          (arg ps 1 < 4 → (s.point i).seg.code = arg ps 1))) →
      exec (.listPoints p tag ps) s =
        .next (s.answered (s.acceptFrame p) p 0x13 tag ps .ok
          ((if found.length < 16 ∨ found[15]? = some 255 then [1, 0]
            else [0, byteOf (((found[15]?).getD 0).val + 1)]) ++
            byteOf (min found.length 16) ::
              (found.take 16).flatMap fun i => [byteOf i.val, (s.point i).generation]))) ∧
    (ps.length = 1 →
      found = (List.finRange 256).filter (fun i => decide (arg ps 0 ≤ i.val ∧ (s.point i).life = .live)) →
      exec (.readBlock p tag ps) s =
        .next (s.answered (s.acceptFrame p) p 0x21 tag ps .ok
          ((if found.length < 8 ∨ found[7]? = some 255 then [1, 0]
            else [0, byteOf (((found[7]?).getD 0).val + 1)]) ++
            byteOf (min found.length 8) ::
              (found.take 8).flatMap fun i =>
                if s.hasGroup p .read (s.point i).group = true then
                  [byteOf i.val, (s.point i).generation, byteOf (s.point i).quality.code,
                    if (s.point i).value.isSome then 1 else 0] ++ le4Opt (s.point i).value
                else [byteOf i.val, (s.point i).generation, 0, 2, 0, 0, 0, 0])))

/-! ### Values, bands and outputs -/

/-- READ_POINT answers the 65 bytes of Table 2-4 from the record and changes nothing (R37): an absent field reads
as 0 with its presence flag clear, and the last byte is the calling port's own mask. -/
def Obligations.ReadPoint : Prop :=
  ∀ (s : State) (p : Port) (tag : Byte) (ps : List Byte) (i : PointIdx) (t : Point) (data : List Byte),
    s.hears p = true → ps.length = 2 → s.handleOk (argHandle ps 0) = true → i = (argHandle ps 0).idx →
    t = s.point i → s.hasGroup p .read t.group = true →
    data =
      [byteOf i.val, t.generation, if t.kind = .output then 1 else 0, byteOf t.seg.code, byteOf (t.node.val + 1)] ++
        le2 t.object.val ++
        [byteOf t.width.bytes, if t.signed then 1 else 0, byteOf t.group.val, if t.owner = .b then 1 else 0,
          byteOf t.divider, byteOf t.phase] ++
        le2 t.staleLimit ++ le2 t.age ++
        [byteOf t.quality.code,
          byteOf ((if t.value.isSome then 1 else 0) + (if t.observed.isSome then 2 else 0) +
            (if t.band.isSome then 4 else 0) + (if t.deadband.isSome then 8 else 0) +
            (if (t.deadband.bind Deadband.reference).isSome then 16 else 0) +
            (if t.slot.isSome then 32 else 0) + (if t.inFlight.isSome then 64 else 0) +
            (if t.safe.isSome then 128 else 0)),
          byteOf ((if t.verify then 1 else 0) + (if t.slot.any Slot.urgent then 2 else 0) +
            (if t.demanders.a then 4 else 0) + (if t.demanders.b then 8 else 0) +
            (if (s.link t.seg).exchange.any fun x => decide (x.target = i) then 16 else 0))] ++
        le4 (t.value.getD 0) ++ le4 (t.observed.getD 0) ++
        (match t.band with
         | none => List.replicate 13 0
         | some b => le4 b.low ++ le4 b.high ++ le4 b.hysteresis ++ [byteOf b.state.code]) ++
        (match t.deadband with
         | none => List.replicate 8 0
         | some d => le4 d.width ++ le4 (d.reference.getD 0)) ++
        (match t.slot with
         | none => List.replicate 5 0
         | some f => le4 f.value ++ [byteOf f.writer.code]) ++
        (match t.inFlight with
         | none => List.replicate 5 0
         | some f => le4 f.value ++ [byteOf f.writer.code]) ++
        le4 (t.safe.getD 0) ++ [byteOf t.failed, (t.subs.get p).setWidth 8] →
    data.length = 65 ∧
    exec (.readPoint p tag ps) s = .next (s.answered (s.acceptFrame p) p 0x20 tag ps .ok data)

/-- DEMAND_READ on a powered segment adds the port to the point's demanders, and to its entry or to a new one
at the tail, where the queue has room; it is refused NOT_POWERED or QUEUE_FULL otherwise (R39, R95). -/
def Obligations.DemandRead : Prop :=
  ∀ (s : State) (p : Port) (tag : Byte) (ps : List Byte) (e : Env) (i : PointIdx) (g : Seg), s.hears p = true →
    ps.length = 2 → s.handleOk (argHandle ps 0) = true → i = (argHandle ps 0).idx → g = (s.point i).seg →
    s.hasGroup p .read (s.point i).group = true →
    ((s.feed g).state ≠ .on →
      exec (.demandRead p tag ps e) s = .next (s.answered (s.acceptFrame p) p 0x22 tag ps .notPowered [])) ∧
    ((s.feed g).state = .on → (∃ d ∈ (s.sched g).queue, d.point = i) →
      exec (.demandRead p tag ps e) s =
        .next (s.answered
          (((s.acceptFrame p).modPoint i fun t => { t with demanders := t.demanders.set p true }).modSched g fun c =>
            { c with
              queue := c.queue.map fun d => if d.point = i then { d with ports := d.ports.set p true } else d })
          p 0x22 tag ps .ok [1])) ∧
    ((s.feed g).state = .on → (∀ d ∈ (s.sched g).queue, d.point ≠ i) → 8 ≤ (s.sched g).queue.length →
      exec (.demandRead p tag ps e) s = .next (s.answered (s.acceptFrame p) p 0x22 tag ps .queueFull [])) ∧
    ((s.feed g).state = .on → (∀ d ∈ (s.sched g).queue, d.point ≠ i) → (s.sched g).queue.length < 8 →
      exec (.demandRead p tag ps e) s =
        .next (s.answered
          ((((s.acceptFrame p).modPoint i fun t => { t with demanders := t.demanders.set p true }).modSched g fun c =>
            { c with queue := c.queue ++ [⟨i, noPorts.set p true, false⟩] }).arbitrate g e)
          p 0x22 tag ps .ok [0]))

/-- The refusals of SET_BAND, CLEAR_BAND and SET_DEADBAND for their parameters, the handle and MANAGE, in that
order. SET_BAND is refused BAD_PARAMETER where the limits do not fit the point (R45); otherwise it replaces the
band, classifies a present value at once from UNSET with LIMIT outside the band, and answers the state (R46).
CLEAR_BAND makes the band absent and raises nothing (R47). SET_DEADBAND sets the width with the present
value as reference, or with a width of 0 makes the deadband absent, and raises nothing; a width above the
point's range is refused (R51, R52). Parameters of 4 bytes are read least significant byte first, in two's complement
for a signed point (R45), and a point's range is that of its width and signedness (R2). -/
def Obligations.BandAndDeadband : Prop :=
  (∀ (ps : List Byte) (k : Nat),
    arg32 ps k = arg ps k + 256 * arg ps (k + 1) + 65536 * arg ps (k + 2) + 16777216 * arg ps (k + 3) ∧
    argInt false ps k = arg32 ps k ∧
    argInt true ps k = if arg32 ps k < 2147483648 then (arg32 ps k : Int) else (arg32 ps k : Int) - 4294967296) ∧
  (∀ (w : Width) (v : Int),
    (inRange w false v = true ↔ 0 ≤ v ∧ v < 256 ^ w.bytes) ∧
    (inRange w true v = true ↔ -(256 ^ w.bytes / 2) ≤ v ∧ v < 256 ^ w.bytes / 2) ∧
    rangeHigh w false = 256 ^ w.bytes - 1 ∧ rangeHigh w true = 256 ^ w.bytes / 2 - 1) ∧
  (∀ (s : State) (p : Port) (tag : Byte) (ps : List Byte), Takes s p ps →
    (ps.length ≠ 14 →
      exec (.setBand p tag ps) s = .next (s.answered (s.acceptFrame p) p 0x28 tag ps .badParameter [])) ∧
    (ps.length ≠ 2 →
      exec (.clearBand p tag ps) s = .next (s.answered (s.acceptFrame p) p 0x29 tag ps .badParameter [])) ∧
    (ps.length ≠ 6 →
      exec (.setDeadband p tag ps) s = .next (s.answered (s.acceptFrame p) p 0x2A tag ps .badParameter [])) ∧
    ∀ r,
      (s.handleOk (argHandle ps 0) = false ∧ r = .staleHandle ∨
        s.handleOk (argHandle ps 0) = true ∧
          s.hasGroup p .manage (s.point (argHandle ps 0).idx).group = false ∧ r = .noRight) →
      (ps.length = 14 → exec (.setBand p tag ps) s = .next (s.answered (s.acceptFrame p) p 0x28 tag ps r [])) ∧
      (ps.length = 2 → exec (.clearBand p tag ps) s = .next (s.answered (s.acceptFrame p) p 0x29 tag ps r [])) ∧
      (ps.length = 6 → exec (.setDeadband p tag ps) s = .next (s.answered (s.acceptFrame p) p 0x2A tag ps r []))) ∧
  (∀ (s : State) (p : Port) (tag : Byte) (ps : List Byte) (i : PointIdx) (low high : Int) (hyst : Nat),
    s.hears p = true → ps.length = 14 → s.handleOk (argHandle ps 0) = true → i = (argHandle ps 0).idx →
    s.hasGroup p .manage (s.point i).group = true → low = argInt (s.point i).signed ps 2 →
    high = argInt (s.point i).signed ps 6 → hyst = arg32 ps 10 →
    (¬(inRange (s.point i).width (s.point i).signed low = true ∧
        inRange (s.point i).width (s.point i).signed high = true ∧
        (hyst : Int) ≤ rangeHigh (s.point i).width (s.point i).signed ∧ low < high ∧ 2 * (hyst : Int) < high - low) →
      exec (.setBand p tag ps) s = .next (s.answered (s.acceptFrame p) p 0x28 tag ps .badParameter [])) ∧
    (inRange (s.point i).width (s.point i).signed low = true →
      inRange (s.point i).width (s.point i).signed high = true →
      (hyst : Int) ≤ rangeHigh (s.point i).width (s.point i).signed → low < high → 2 * (hyst : Int) < high - low →
      ((s.point i).value = none →
        exec (.setBand p tag ps) s =
          .next (s.answered
            ((s.acceptFrame p).modPoint i fun t => { t with band := some ⟨low, high, hyst, .unset⟩ })
            p 0x28 tag ps .ok [0])) ∧
      ∀ v, (s.point i).value = some v →
        (low ≤ v → v ≤ high →
          exec (.setBand p tag ps) s =
            .next (s.answered
              ((s.acceptFrame p).modPoint i fun t => { t with band := some ⟨low, high, hyst, .inside⟩ })
              p 0x28 tag ps .ok [2])) ∧
        (v < low →
          exec (.setBand p tag ps) s =
            .next (s.answered
              (((s.acceptFrame p).modPoint i fun t =>
                { t with band := some ⟨low, high, hyst, .below⟩ }).raisePoint i .limit ((s.point i).subscribers 1))
              p 0x28 tag ps .ok [1])) ∧
        (high < v →
          exec (.setBand p tag ps) s =
            .next (s.answered
              (((s.acceptFrame p).modPoint i fun t =>
                { t with band := some ⟨low, high, hyst, .above⟩ }).raisePoint i .limit ((s.point i).subscribers 1))
              p 0x28 tag ps .ok [3])))) ∧
  (∀ (s : State) (p : Port) (tag : Byte) (ps : List Byte) (i : PointIdx), s.hears p = true →
    s.handleOk (argHandle ps 0) = true → i = (argHandle ps 0).idx → s.hasGroup p .manage (s.point i).group = true →
    (ps.length = 2 →
      exec (.clearBand p tag ps) s =
        .next (s.answered ((s.acceptFrame p).modPoint i fun t => { t with band := none }) p 0x29 tag ps .ok [])) ∧
    (ps.length = 6 →
      (256 ^ (s.point i).width.bytes - 1 < arg32 ps 2 →
        exec (.setDeadband p tag ps) s = .next (s.answered (s.acceptFrame p) p 0x2A tag ps .badParameter [])) ∧
      (1 ≤ arg32 ps 2 → arg32 ps 2 ≤ 256 ^ (s.point i).width.bytes - 1 →
        exec (.setDeadband p tag ps) s =
          .next (s.answered
            ((s.acceptFrame p).modPoint i fun t => { t with deadband := some ⟨arg32 ps 2, t.value⟩ })
            p 0x2A tag ps .ok [])) ∧
      (arg32 ps 2 = 0 →
        exec (.setDeadband p tag ps) s =
          .next (s.answered ((s.acceptFrame p).modPoint i fun t => { t with deadband := none }) p 0x2A tag ps .ok []))))

/-- A value update classifies the new value from the state the band holds, by Table 3-1 (R43), and raises LIMIT
for every change of state but UNSET to INSIDE (R44).
A value update raises CHANGE for a first value; without a deadband for every other value; with one of width
d when its reference r is unset or |v − r| is at least d. A deadband's reference then becomes the new value, and
otherwise keeps its own (R49, R50). A value update is both in turn, the change first (R41). -/
def Obligations.LimitEvaluator : Prop :=
  (∀ (s : State) (i : PointIdx) (b : Band) (v : Int) (after : BandState), (s.point i).band = some b →
    (after = (match b.state with
      | .unset => if v > b.high then .above else if v < b.low then .below else .inside
      | .inside => if v > b.high then .above else if v < b.low then .below else .inside
      | .above => if v < b.low then .below else if v > b.high - b.hysteresis then .above else .inside
      | .below => if v > b.high then .above else if v < b.low + b.hysteresis then .below else .inside)) →
    (after = b.state ∨ (b.state = .unset ∧ after = .inside) →
      s.judgeBand i v = s.modPoint i fun t => { t with band := some { b with state := after } }) ∧
    (after ≠ b.state → ¬(b.state = .unset ∧ after = .inside) →
      s.judgeBand i v =
        (s.modPoint i fun t => { t with band := some { b with state := after } }).raisePoint i .limit
          ((s.point i).subscribers 1))) ∧
  (∀ (s : State) (i : PointIdx) (old : Option Int) (v : Int) (changes : Prop),
    (changes ↔ old = none ∨ (s.point i).deadband = none ∧ old ≠ some v ∨
      ∃ d, (s.point i).deadband = some d ∧
        (d.reference = none ∨ ∃ r, d.reference = some r ∧ d.width ≤ (v - r).natAbs)) →
    (changes → s.judgeChange i old v =
      (s.modPoint i fun t =>
        { t with deadband := t.deadband.map fun d => { d with reference := some v } }).raisePoint i .change
          ((s.point i).subscribers 0)) ∧
    (¬changes → s.judgeChange i old v = s)) ∧
  ∀ (s : State) (i : PointIdx) (old : Option Int) (v : Int),
    s.evaluate i old v = (s.judgeChange i old v).judgeBand i v

/-- WRITE_POINT places its value in the slot under the calling port, tells the writer of a replaced port value
SUPERSEDED, and offers an urgent value to the demand queue by the five cases of R57 (R55, R56). That the arbiter
decides within the command on an entry that joins, and that the reply's write state is the one after its decision, is
the model's deduction from R57 and R97 (notes/assumptions/13). -/
def Obligations.WritePoint : Prop :=
  ∀ (s : State) (p : Port) (tag : Byte) (ps : List Byte) (e : Env) (i : PointIdx) (g : Seg) (v : Int) (urgent : Bool)
    (placed : State) (code : Nat),
    s.hears p = true → ps.length = 7 → arg ps 6 = (if urgent then 1 else 0) → s.handleOk (argHandle ps 0) = true →
    i = (argHandle ps 0).idx → g = (s.point i).seg → s.hasGroup p .write (s.point i).group = true →
    v = argInt (s.point i).signed ps 2 →
    placed = (match (s.point i).slot with
      | some old =>
        ((s.acceptFrame p).modPoint i fun t => { t with slot := some ⟨v, .port p, urgent⟩ }).raisePoint i
          (.write .superseded old.writer) (writerPorts old.writer)
      | none => (s.acceptFrame p).modPoint i fun t => { t with slot := some ⟨v, .port p, urgent⟩ }) →
    code = (if urgent = false then 0
      else if (s.feed g).state ≠ .on then 4
      else match (s.sched g).queue.find? fun d => decide (d.point = i) with
        | some d => if d.granted then 5 else 2
        | none => if 8 ≤ (s.sched g).queue.length then 3 else 1) →
    ((s.point i).kind = .input →
      exec (.writePoint p tag ps e) s = .next (s.answered (s.acceptFrame p) p 0x30 tag ps .wrongKind [])) ∧
    ((s.point i).kind = .output → inRange (s.point i).width (s.point i).signed v = false →
      exec (.writePoint p tag ps e) s = .next (s.answered (s.acceptFrame p) p 0x30 tag ps .badParameter [])) ∧
    ((s.point i).kind = .output → inRange (s.point i).width (s.point i).signed v = true →
      ∃ t, exec (.writePoint p tag ps e) s =
          .next (s.answered t p 0x30 tag ps .ok
            [byteOf code,
              byteOf ((if (t.point i).slot.isSome then 1 else 0) + (if (t.point i).inFlight.isSome then 2 else 0)),
              match (s.point i).slot with
              | some old => byteOf old.writer.code
              | none => 0xFF]) ∧
        (code ≠ 1 → t = placed) ∧
        (code = 1 →
          t = (placed.modSched g fun c => { c with queue := c.queue ++ [⟨i, noPorts, false⟩] }).arbitrate g e))

/-- CANCEL_WRITE empties the slot, tells a port writer CANCELLED, drops an ungranted entry without ports and
answers what was pending (R59). SET_SAFE_VALUE sets or clears the safe value and nothing else (R69). Both are
refused for their parameters, the handle, the right and the point's kind in that order. -/
def Obligations.CancelAndSafeValue : Prop :=
  (∀ (s : State) (p : Port) (tag : Byte) (ps : List Byte), Takes s p ps →
    (ps.length ≠ 2 →
      exec (.cancelWrite p tag ps) s = .next (s.answered (s.acceptFrame p) p 0x32 tag ps .badParameter [])) ∧
    (ps.length ≠ 7 ∨ 1 < arg ps 2 →
      exec (.setSafeValue p tag ps) s = .next (s.answered (s.acceptFrame p) p 0x31 tag ps .badParameter [])) ∧
    ∀ r right,
      (s.handleOk (argHandle ps 0) = false ∧ r = .staleHandle ∨
        s.handleOk (argHandle ps 0) = true ∧
          s.hasGroup p right (s.point (argHandle ps 0).idx).group = false ∧ r = .noRight) →
      (ps.length = 2 → right = .write →
        exec (.cancelWrite p tag ps) s = .next (s.answered (s.acceptFrame p) p 0x32 tag ps r [])) ∧
      (ps.length = 7 → arg ps 2 ≤ 1 → right = .manage →
        exec (.setSafeValue p tag ps) s = .next (s.answered (s.acceptFrame p) p 0x31 tag ps r []))) ∧
  ∀ (s : State) (p : Port) (tag : Byte) (ps : List Byte) (i : PointIdx), s.hears p = true →
    s.handleOk (argHandle ps 0) = true → i = (argHandle ps 0).idx →
    (ps.length = 2 → s.hasGroup p .write (s.point i).group = true →
      ((s.point i).kind = .input →
        exec (.cancelWrite p tag ps) s = .next (s.answered (s.acceptFrame p) p 0x32 tag ps .wrongKind [])) ∧
      ((s.point i).kind = .output → (s.point i).slot = none →
        exec (.cancelWrite p tag ps) s = .next (s.answered (s.acceptFrame p) p 0x32 tag ps .nothingPending [])) ∧
      ∀ f, (s.point i).kind = .output → (s.point i).slot = some f →
        exec (.cancelWrite p tag ps) s =
          .next (s.answered
            ((((s.acceptFrame p).modPoint i fun t => { t with slot := none }).raisePoint i
                (.write .cancelled f.writer) (writerPorts f.writer)).modSched (s.point i).seg fun c =>
              { c with
                queue := c.queue.filter fun d =>
                  !(decide (d.point = i) && !d.granted && !d.ports.a && !d.ports.b) })
            p 0x32 tag ps .ok (byteOf f.writer.code :: le4 f.value))) ∧
    (ps.length = 7 → s.hasGroup p .manage (s.point i).group = true → arg ps 2 ≤ 1 →
      ((s.point i).kind = .input →
        exec (.setSafeValue p tag ps) s = .next (s.answered (s.acceptFrame p) p 0x31 tag ps .wrongKind [])) ∧
      ((s.point i).kind = .output → arg ps 2 = 1 →
        inRange (s.point i).width (s.point i).signed (argInt (s.point i).signed ps 3) = false →
        exec (.setSafeValue p tag ps) s = .next (s.answered (s.acceptFrame p) p 0x31 tag ps .badParameter [])) ∧
      ((s.point i).kind = .output → arg ps 2 = 1 →
        inRange (s.point i).width (s.point i).signed (argInt (s.point i).signed ps 3) = true →
        exec (.setSafeValue p tag ps) s =
          .next (s.answered
            ((s.acceptFrame p).modPoint i fun t => { t with safe := some (argInt (s.point i).signed ps 3) })
            p 0x31 tag ps .ok [])) ∧
      ((s.point i).kind = .output → arg ps 2 = 0 →
        exec (.setSafeValue p tag ps) s =
          .next (s.answered ((s.acceptFrame p).modPoint i fun t => { t with safe := none }) p 0x31 tag ps .ok [])))

/-- The supervision timer expires where its count of ticks equals the period (R1, R169): the port is LAPSED, its timer
stopped and its period kept, with PEER_LAPSED for the other (R170). The safe value of every LIVE OUTPUT point it owns,
and of no other point, is in the slot with writer SAFE, urgent, with SUPERSEDED for the port writer of a replaced value,
and joins the demand queue of a powered segment, in ascending index order while there is room, where the point has no
entry (R57, R70). The arbiters decide where an entry has joined (R97), and a grant may take a value at once; that they
do so after every placement and PEER_LAPSED, segment by segment in order, is the model's choice (notes/assumptions/24).
At any other count, and without a running timer, the event finds nothing (notes/assumptions/2). -/
def Obligations.SupervisionLapse : Prop :=
  ∀ (s : State) (p : Port) (e : Env) (owned : PointIdx → Bool) (joined : Seg → List PointIdx), s.inReset = false →
    (∀ j, owned j = true ↔ (s.point j).life = .live ∧ (s.point j).kind = .output ∧ (s.point j).owner = p ∧
      (s.point j).safe ≠ none) →
    (∀ g, joined g =
      if (s.feed g).state = .on then
        ((List.finRange 256).filter fun j =>
          owned j && decide ((s.point j).seg = g ∧ ∀ d ∈ (s.sched g).queue, d.point ≠ j)).take
            (8 - (s.sched g).queue.length)
      else []) →
    ((s.port p).supTimer ≠ some (s.port p).supPeriod → exec (.supervisionLapse p e) s = .next s) ∧
    ((s.port p).supTimer = some (s.port p).supPeriod →
      ∃ u t, exec (.supervisionLapse p e) s = .next t ∧
        t = [Seg.s0, .s1, .s2, .s3].foldl (fun t g => if joined g = [] then t else t.arbitrate g e) u ∧
        (∀ j v, owned j = true → (s.point j).safe = some v →
          u.point j = { s.point j with slot := some ⟨v, .safe, true⟩ }) ∧
        (∀ j, owned j = false → u.point j = s.point j) ∧
        (∀ q j, u.noteOf q j =
          if owned j = true ∧ ∃ f, (s.point j).slot = some f ∧ f.writer = .port q then
            { s.noteOf q j with write := some (.superseded, .port q) }
          else s.noteOf q j) ∧
        (∀ g, u.seg g =
          { s.seg g with
            sched :=
              { s.sched g with
                queue := (s.sched g).queue ++ (joined g).map fun j => ⟨j, ⟨false, false⟩, false⟩ } }) ∧
        (∀ q g, u.segNoteOf q g = s.segNoteOf q g) ∧ u.trigs = s.trigs ∧ u.supply = s.supply ∧
        u.temperature = s.temperature ∧ u.pending = s.pending ∧ u.inReset = s.inReset ∧
        (t.port p).lapsed = true ∧ (t.port p).supTimer = none ∧ (t.port p).supPeriod = (s.port p).supPeriod ∧
        (t.port p).bare = { (s.port p).bare with lapsed := true, supTimer := none } ∧
        (∀ j v, owned j = true → (s.point j).safe = some v →
          (t.point j).slot = some ⟨v, .safe, true⟩ ∨ (t.point j).inFlight = some ⟨v, .safe, true⟩) ∧
        t.devNoteOf p.other =
          (if (s.port p.other).devMask.getLsbD 2 = true then s.devNoteOf p.other ||| 0b00100 else s.devNoteOf p.other) ∧
        t.devNoteOf p = s.devNoteOf p ∧ (t.port p.other).bare = (s.port p.other).bare ∧ ∀ g, t.feed g = s.feed g)

/-! ### Configuration -/

/-- CONFIGURE_SCAN, CONFIGURE_LINK and CONFIGURE_FEED replace all their settings at once, with the counts that
their rules name set to 0, and are refused BUSY_STATE outside the states that allow them (R80, R116, R143);
CONFIGURE_TALLY replaces one counter and answers its count (R131); CONFIGURE_TRIGGER_INPUT replaces an input's
settings, clears its held state and answers its level (R101). The settings are read from the parameter bytes as the
tables before R80, R116 and R143 lay them out. -/
def Obligations.ConfigurationCommands : Prop :=
  (∀ (ps : List Byte) (f : ScanCfg),
    scanCfgOf ps = some f ↔
      arg ps 1 ≤ 1 ∧ 1 ≤ arg ps 5 ∧ arg ps 5 ≤ 15 ∧ arg ps 6 ≤ 1 ∧ 1 ≤ arg ps 7 ∧ arg ps 7 ≤ 4 ∧
      f = ⟨if arg ps 1 = 0 then .freeRun else .triggered, arg ps 2 + 256 * arg ps 3, arg ps 4, arg ps 5,
        if arg ps 6 = 0 then .skip else .cut, arg ps 7⟩) ∧
  (∀ (ps : List Byte) (f : LinkCfg),
    linkCfgOf ps = some f ↔
      arg ps 1 ≤ 3 ∧ 1 ≤ arg ps 2 ∧ arg ps 3 ≤ 3 ∧ arg ps 4 ≤ 7 ∧ arg ps 5 ≤ 3 ∧ 1 ≤ arg ps 6 ∧ arg ps 6 ≤ 15 ∧
      f = ⟨match arg ps 1 with
          | 0 => .k62
          | 1 => .k125
          | 2 => .k250
          | _ => .k500,
        arg ps 2, arg ps 3, arg ps 4,
        match arg ps 5 with
          | 0 => .ms50
          | 1 => .ms100
          | 2 => .ms200
          | _ => .ms500,
        arg ps 6⟩) ∧
  (∀ (ps : List Byte) (f : FeedCfg),
    feedCfgOf ps = some f ↔
      arg ps 1 ≤ 3 ∧ arg ps 2 ≤ 3 ∧ arg ps 3 ≤ 1 ∧ arg ps 4 ≤ 1 ∧ arg ps 5 ≤ 3 ∧ f.limit.code = arg ps 1 ∧
      f.limit.milliamps = 250 * (arg ps 1 + 1) ∧ f.blanking.code = arg ps 2 ∧
      f.blanking.millis = (match arg ps 2 with
        | 0 => 5
        | 1 => 15
        | 2 => 50
        | _ => 150) ∧
      f.doubleStart = decide (arg ps 3 = 1) ∧ f.fastShort = decide (arg ps 4 = 1) ∧
      f.retry = (match arg ps 5 with
        | 0 => .latch
        | 1 => .ms500
        | 2 => .ms2000
        | _ => .ms10000) ∧
      f.settle = arg ps 6) ∧
  ∀ (s : State) (p : Port) (tag : Byte) (ps : List Byte) (g : Seg), s.hears p = true → segOf (arg ps 0) = some g →
    (∀ f, s.hasDevice p .scan = true → ps.length = 8 → scanCfgOf ps = some f →
      ((s.sched g).scan ≠ .stopped →
        exec (.configureScan p tag ps) s = .next (s.answered (s.acceptFrame p) p 0x40 tag ps .busyState [])) ∧
      ((s.sched g).scan = .stopped →
        exec (.configureScan p tag ps) s =
          .next (s.answered
            ((s.acceptFrame p).modSched g fun c =>
              { c with cfg := f, cyclesEnded := 0, overruns := 0, backToBack := 0 })
            p 0x40 tag ps .ok []))) ∧
    (∀ f, s.hasDevice p .scan = true → ps.length = 7 → linkCfgOf ps = some f →
      ((s.sched g).scan ≠ .stopped ∨ (∃ sub x, (s.link g).state = .busy sub x) →
        exec (.configureLink p tag ps) s = .next (s.answered (s.acceptFrame p) p 0x48 tag ps .busyState [])) ∧
      ((s.sched g).scan = .stopped → (∀ sub x, (s.link g).state ≠ .busy sub x) →
        exec (.configureLink p tag ps) s =
          .next (s.answered ((s.acceptFrame p).modLink g fun l => { l with cfg := f }) p 0x48 tag ps .ok []))) ∧
    (∀ f, s.hasDevice p .feed = true → ps.length = 7 → feedCfgOf ps = some f →
      ((s.feed g).state ≠ .off → (s.feed g).state ≠ .latched →
        exec (.configureFeed p tag ps) s = .next (s.answered (s.acceptFrame p) p 0x58 tag ps .busyState [])) ∧
      ((s.feed g).state = .off ∨ (s.feed g).state = .latched →
        exec (.configureFeed p tag ps) s =
          .next (s.answered ((s.acceptFrame p).modFeed g fun d => { d with cfg := f, trips := 0 }) p 0x58 tag ps .ok
            [byteOf (s.feed g).trips]))) ∧
    (∀ ev, s.hasDevice p .scan = true → ps.length = 4 → tallyEventOf (arg ps 2) = some ev → arg ps 3 ≤ 30 →
      (arg ps 1 = 0 →
        exec (.configureTally p tag ps) s =
          .next (s.answered ((s.acceptFrame p).modSeg g fun v => { v with tally0 := ⟨ev, arg ps 3, 0⟩ }) p 0x52 tag ps
            .ok (le2 (s.seg g).tally0.count.toNat))) ∧
      (arg ps 1 = 1 →
        exec (.configureTally p tag ps) s =
          .next (s.answered ((s.acceptFrame p).modSeg g fun v => { v with tally1 := ⟨ev, arg ps 3, 0⟩ }) p 0x52 tag ps
            .ok (le2 (s.seg g).tally1.count.toNat)))) ∧
    (∀ i v, s.hasDevice p .scan = true → ps.length = 4 → trgOf (arg ps 0) = some i → arg ps 2 ≤ 1 → arg ps 3 ≤ 1 →
      (arg ps 1 = 0xFF ∧ v = none ∨ ∃ k, groupOf (arg ps 1) = some k ∧ v = some k) →
      exec (.configureTriggerInput p tag ps) s =
        .next (s.answered
          { s.acceptFrame p with
            trigs := s.trigs.set i
              { s.trigs.get i with
                value := v
                falling := decide (arg ps 2 = 1)
                levelModel := decide (arg ps 3 = 1)
                held := false } }
          p 0x45 tag ps .ok [if (s.trigs.get i).level then 1 else 0]))

/-! ### Scans -/

/-- START_SCAN by the scan state (R86): from STOPPED the counts are cleared and the scan is HALTED without
power or line, or is set going with the arbiter's decision; in FINISHING the finish is withdrawn; else nothing.
STOP_SCAN and FINISH_SCAN by the scan state (R87, R88): a stopped scan has its cursor at END, its timer
stopped and its flags clear; the cycle is not counted and nothing is raised. What a stop in a cycle with an
exchange in flight does to the flags is read from R84 and R91 (notes/assumptions/22).
A scan set going (R86, R94): in FREE_RUN mode a cycle starts and the period timer runs for P, or not at all for
P = 0; in TRIGGERED mode it waits, or starts a cycle at once under a held LEVEL trigger that matches (R99, R102). -/
def Obligations.ScanCommands : Prop :=
  (∀ (s : State) (g : Seg),
    ((s.sched g).cfg.mode = .freeRun →
      s.setGoing g =
        (s.modSched g fun c =>
          { c with
            scan := .waiting
            periodTimer := if c.cfg.period = 0 then none else some (c.cfg.period * 100) }).startCycle g) ∧
    ((s.sched g).cfg.mode = .triggered →
      (s.heldFor g = false → s.setGoing g = s.modSched g fun c => { c with scan := .waiting }) ∧
      (s.heldFor g = true → s.setGoing g = (s.modSched g fun c => { c with scan := .waiting }).startCycle g)) ∧
    (s.heldFor g = true ↔
      (s.sched g).cfg.mode = .triggered ∧
      ∃ i v, (s.trigs.get i).held = true ∧ (s.trigs.get i).value = some v ∧
        (v.val = 0 ∨ v.val = (s.sched g).cfg.trigger))) ∧
  (∀ (s t : State) (p : Port) (tag : Byte) (ps : List Byte) (e : Env) (g : Seg), s.hears p = true → ps.length = 1 →
    segOf (arg ps 0) = some g → s.hasDevice p .scan = true →
    t = (match (s.sched g).scan with
      | .stopped =>
        if (s.feed g).state ≠ .on then
          (s.acceptFrame p).modSched g fun c =>
            { c with
              cyclesEnded := 0, overruns := 0, scan := .haltedPower, cursor := c.list.head?, periodTimer := none
              cut := false, deferred := false }
        else if (s.link g).state = .lineDown then
          (s.acceptFrame p).modSched g fun c =>
            { c with
              cyclesEnded := 0, overruns := 0, scan := .haltedLine, cursor := c.list.head?, periodTimer := none
              cut := false, deferred := false }
        else
          ((((s.acceptFrame p).modSched g fun c => { c with cyclesEnded := 0, overruns := 0 }).setGoing g).arbitrate
            g e)
      | .finishing => (s.acceptFrame p).modSched g fun c => { c with scan := .running }
      | _ => s.acceptFrame p) →
    exec (.startScan p tag ps e) s =
      .next (s.answered t p 0x41 tag ps .ok
        [byteOf (t.sched g).scan.code, byteOf (t.sched g).cyclesEnded, byteOf (t.sched g).overruns])) ∧
  (∀ (s t u : State) (p : Port) (tag : Byte) (ps : List Byte) (g : Seg) (stopped : Scheduler → Scheduler),
    s.hears p = true → ps.length = 1 → segOf (arg ps 0) = some g → s.hasDevice p .scan = true →
    stopped = (fun c =>
      { c with scan := .stopped, cursor := none, periodTimer := none, cut := false, deferred := false }) →
    t = (match (s.sched g).scan with
      | .stopped => s.acceptFrame p
      | .stopping => s.acceptFrame p
      | .waiting => (s.acceptFrame p).modSched g stopped
      | .haltedPower => (s.acceptFrame p).modSched g stopped
      | .haltedLine => (s.acceptFrame p).modSched g stopped
      | _ =>
        if (s.link g).exchange.isSome then
          (s.acceptFrame p).modSched g fun c => { c with scan := .stopping, periodTimer := none, cut := false }
        else (s.acceptFrame p).modSched g stopped) →
    u = (match (s.sched g).scan with
      | .running => (s.acceptFrame p).modSched g fun c => { c with scan := .finishing, cut := false }
      | .waiting => (s.acceptFrame p).modSched g stopped
      | .haltedPower => (s.acceptFrame p).modSched g stopped
      | .haltedLine => (s.acceptFrame p).modSched g stopped
      | _ => s.acceptFrame p) →
    exec (.stopScan p tag ps) s =
      .next (s.answered t p 0x42 tag ps .ok
        [byteOf (t.sched g).scan.code, byteOf (t.sched g).cyclesEnded, byteOf (t.sched g).overruns]) ∧
    exec (.finishScan p tag ps) s =
      .next (s.answered u p 0x43 tag ps .ok
        [byteOf (u.sched g).scan.code, byteOf (u.sched g).cyclesEnded, byteOf (u.sched g).overruns]))

/-- FIRE_TRIGGER makes one trigger event at all four segments and answers their codes (R99, R100): 0 for a
segment that does not match, 1 for a start in WAITING, 2 for an overrun, 3 for no effect. In the order of the
segments (notes/assumptions/24) one of code 1 starts a cycle and its arbiter decides, one of code 2 has an overrun,
and one of code 0 or 3 keeps its Scheduler and link.
An edge of a trigger input sets its filtered level and, under LEVEL, its held state; an active edge of an
input with a value is one trigger event with that value, after the held state is set (R101, R102,
notes/assumptions/12). An edge to the level it has finds nothing (notes/assumptions/2). -/
def Obligations.Triggers : Prop :=
  (∀ (s : State) (p : Port) (tag : Byte) (ps : List Byte) (e : Env) (v : Nat) (code : Seg → Nat), s.hears p = true →
    s.hasDevice p .scan = true → ps.length = 1 → v = arg ps 0 → v ≤ 15 →
    (∀ g, code g =
      if (s.sched g).cfg.mode = .triggered ∧ (v = 0 ∨ v = (s.sched g).cfg.trigger) then
        (match (s.sched g).scan with
         | .waiting => 1
         | .running => 2
         | .finishing => 2
         | _ => 3)
      else 0) →
    ∃ t, exec (.fireTrigger p tag ps e) s =
        .next (s.answered t p 0x44 tag ps .ok
          [byteOf (code .s0), byteOf (code .s1), byteOf (code .s2), byteOf (code .s3)]) ∧
      t = [Seg.s0, .s1, .s2, .s3].foldl
        (fun u g =>
          if code g = 1 then (u.startCycle g).arbitrate g e else if code g = 2 then u.overrun g e else u)
        (s.acceptFrame p) ∧
      (∀ g, code g = 1 → (s.sched g).list ≠ [] → (s.link g).state ≠ .ready →
        t.sched g =
          { s.sched g with
            scan := .running, cursor := (s.sched g).list.head?, cycleMark := false, deferred := false }) ∧
      t.trigs = s.trigs ∧ (∀ g, t.feed g = s.feed g) ∧
      (∀ g, code g = 0 ∨ code g = 3 → t.sched g = s.sched g ∧ t.link g = s.link g) ∧
      ∀ g, code g = 2 → (t.sched g).overruns = min ((s.sched g).overruns + 1) 255) ∧
  (∀ (s u : State) (i : Trg) (level : Bool) (e : Env), s.inReset = false →
    u = { s with
      trigs := s.trigs.set i
        { s.trigs.get i with
          level := level
          held := decide (level ≠ (s.trigs.get i).falling) && (s.trigs.get i).levelModel } } →
    ((s.trigs.get i).level = level → exec (.triggerInputEdge i level e) s = .next s) ∧
    ((s.trigs.get i).level ≠ level →
      (level = (s.trigs.get i).falling ∨ (s.trigs.get i).value = none →
        exec (.triggerInputEdge i level e) s = .next u) ∧
      ∀ v, level ≠ (s.trigs.get i).falling → (s.trigs.get i).value = some v →
        exec (.triggerInputEdge i level e) s = .next (u.trigger v e).1)) ∧
  ∀ (s : State) (v : Fin 16) (e : Env) (code : Seg → Nat),
    (∀ g, code g =
      if (s.sched g).cfg.mode = .triggered ∧ (v.val = 0 ∨ v.val = (s.sched g).cfg.trigger) then
        (match (s.sched g).scan with
         | .waiting => 1
         | .running => 2
         | .finishing => 2
         | _ => 3)
      else 0) →
    (s.trigger v e).1 = [Seg.s0, .s1, .s2, .s3].foldl
      (fun u g =>
        if code g = 1 then (u.startCycle g).arbitrate g e else if code g = 2 then u.overrun g e else u) s

/-- A period boundary starts a cycle in WAITING, is an overrun in RUNNING and FINISHING, and does nothing else
(R84). A deferred start is cleared, and starts the cycle in WAITING in FREE_RUN mode or under a held trigger
(R81, notes/assumptions/20). Without the timer or the flag the event finds nothing (notes/assumptions/2).
An overrun is counted, raised and tallied; under SKIP and in FINISHING the cycle goes on; under CUT in RUNNING
the cut is set pending while an exchange is in flight, and applied at once otherwise (R89 to R91). A cut that is
applied ends the cycle in progress, counted, and stops the scan with SCAN_ENDED where the count equals a non-zero C,
or starts a new cycle with the period timer kept (R91). -/
def Obligations.DueStarts : Prop :=
  (∀ (s : State) (g : Seg) (e : Env), s.inReset = false →
    ((s.sched g).periodTimer = none → exec (.periodBoundary g e) s = .next s) ∧
    ((s.sched g).periodTimer ≠ none →
      ((s.sched g).scan = .waiting → exec (.periodBoundary g e) s = .next ((s.startCycle g).arbitrate g e)) ∧
      ((s.sched g).scan = .running ∨ (s.sched g).scan = .finishing →
        exec (.periodBoundary g e) s = .next (s.overrun g e)) ∧
      ((s.sched g).scan ≠ .waiting → (s.sched g).scan ≠ .running → (s.sched g).scan ≠ .finishing →
        exec (.periodBoundary g e) s = .next s)) ∧
    ((s.sched g).deferred = false → exec (.deferredStart g e) s = .next s) ∧
    ((s.sched g).deferred = true →
      ((s.sched g).scan = .waiting → ((s.sched g).cfg.mode = .freeRun ∨ s.heldFor g = true) →
        exec (.deferredStart g e) s =
          .next (((s.modSched g fun c => { c with deferred := false }).startCycle g).arbitrate g e)) ∧
      (¬((s.sched g).scan = .waiting ∧ ((s.sched g).cfg.mode = .freeRun ∨ s.heldFor g = true)) →
        exec (.deferredStart g e) s = .next (s.modSched g fun c => { c with deferred := false })))) ∧
  (∀ (s u : State) (g : Seg) (e : Env),
    u = ((s.modSched g fun c => { c with overruns := min (c.overruns + 1) 255 }).raiseSeg g .overrun).tally g
      [.overruns] none →
    ((s.sched g).cfg.policy = .skip ∨ (s.sched g).scan ≠ .running → s.overrun g e = u) ∧
    ((s.sched g).cfg.policy = .cut → (s.sched g).scan = .running →
      ((s.link g).exchange.isSome = true → s.overrun g e = u.modSched g fun c => { c with cut := true }) ∧
      ((s.link g).exchange = none → s.overrun g e = (u.applyCut g).arbitrate g e))) ∧
  (∀ (s : State) (g : Seg) (n : Nat), (s.sched g).scan = .running ∨ (s.sched g).scan = .finishing →
    n = min ((s.sched g).cyclesEnded + 1) 255 →
    ((s.sched g).cfg.cycles ≠ 0 ∧ n = (s.sched g).cfg.cycles →
      s.applyCut g =
        (s.modSched g fun c =>
          { c with
            cyclesEnded := n, scan := .stopped, cursor := none, periodTimer := none, cut := false
            deferred := false }).raiseSeg g .scanEnded) ∧
    (¬((s.sched g).cfg.cycles ≠ 0 ∧ n = (s.sched g).cfg.cycles) →
      s.applyCut g = (s.modSched g fun c => { c with cut := false, cyclesEnded := n }).startCycle g))

/-- A cycle start makes the scan RUNNING with the cursor at the head, the exchange mark and the deferred start
clear and the probe marks of the segment cleared (R81, R126); on an empty list the cursor is END and the cycle
completes in the same event (R82). A completion counts the cycle, saturating, and
stops the scan with SCAN_ENDED when the count reaches a non-zero C or the scan was FINISHING; else it leads to
WAITING, or to a new cycle at once where one is due and the ended cycle granted an exchange, or deferred (R83). -/
def Obligations.CycleStartsAndCompletions : Prop :=
  (∀ (s : State) (g : Seg), (s.sched g).list ≠ [] →
    s.startCycle g =
      ((s.modSched g fun c =>
        { c with scan := .running, cursor := c.list.head?, cycleMark := false, deferred := false }).mapNodes g
        fun n => { n with probe := false })) ∧
  (∀ (s : State) (g : Seg), (s.sched g).list = [] →
    s.startCycle g =
      ((s.modSched g fun c =>
        { c with scan := .running, cursor := none, cycleMark := false, deferred := false }).mapNodes g
        fun n => { n with probe := false }).complete g) ∧
  ∀ (s : State) (g : Seg) (n : Nat) (c : Scheduler), c = s.sched g → n = min (c.cyclesEnded + 1) 255 →
    ((c.cfg.cycles ≠ 0 ∧ n = c.cfg.cycles) ∨ c.scan = .finishing →
      s.complete g =
        ((s.modSched g fun c =>
          { c with
            cyclesEnded := n, scan := .stopped, cursor := none, periodTimer := none, cut := false
            deferred := false }).raiseSeg g .scanEnded)) ∧
    (¬(c.cfg.cycles ≠ 0 ∧ n = c.cfg.cycles) → c.scan ≠ .finishing →
      (c.cfg.mode = .freeRun ∧ c.cfg.period = 0 ∨ s.heldFor g = true →
        (c.cycleMark = true →
          s.complete g =
            (s.modSched g fun c => { c with cyclesEnded := n, scan := .waiting, deferred := false }).startCycle g) ∧
        (c.cycleMark = false →
          s.complete g = s.modSched g fun c => { c with cyclesEnded := n, scan := .waiting, deferred := true })) ∧
      (¬(c.cfg.mode = .freeRun ∧ c.cfg.period = 0 ∨ s.heldFor g = true) →
        s.complete g = s.modSched g fun c => { c with cyclesEnded := n, scan := .waiting, deferred := false }))

/-- The arbiter decides only while the link is READY (R97). With a demand entry and the back-to-back count
below the share it grants the head, marking it and counting (R98 Case A); with no entry and no cycle to walk it
grants nothing (Case D); with an entry and no cycle to walk it grants the head (Case C). A granted exchange makes
the link BUSY in SENDING with its first attempt begun, and a WRITE moves the pending value in flight (R54, R78,
R107, R108). The request's characters are those of Table 6-4a, least significant byte first, with the link's check over
them (R54, R105). -/
def Obligations.ArbiterChoice : Prop :=
  (∀ (node : NodeIdx) (object : Fin 1024) (w : Width) (v : Int),
    requestFrame node object w .read none =
      [0xD5, byteOf (node.val + 1), 1] ++ le2 object.val ++
        [byteOf w.bytes, linkCheck ([byteOf (node.val + 1), 1] ++ le2 object.val ++ [byteOf w.bytes])] ∧
    requestFrame node object w .write (some v) =
      [0xD5, byteOf (node.val + 1), 2] ++ le2 object.val ++ [byteOf w.bytes] ++ (le4 v).take w.bytes ++
        [linkCheck ([byteOf (node.val + 1), 2] ++ le2 object.val ++ [byteOf w.bytes] ++ (le4 v).take w.bytes)]) ∧
  (∀ (v : Int) (n : Nat),
    le4 v = [BitVec.ofInt 8 v, BitVec.ofInt 8 (v / 256), BitVec.ofInt 8 (v / 65536), BitVec.ofInt 8 (v / 16777216)] ∧
    le2 n = [BitVec.ofNat 8 n, BitVec.ofNat 8 (n / 256)]) ∧
  ∀ (s : State) (g : Seg) (e : Env),
    ((s.link g).state ≠ .ready → s.arbitrate g e = s) ∧
    ((s.link g).state = .ready →
      ((s.sched g).queue = [] → ((s.sched g).scan.inCycle = false ∨ (s.sched g).cursor = none) →
        s.arbitrate g e = s) ∧
      ∀ d ds, (s.sched g).queue = d :: ds →
        ((s.sched g).backToBack < (s.sched g).cfg.share ∨ (s.sched g).scan.inCycle = false ∨
          (s.sched g).cursor = none) →
        ∃ x, ((s.arbitrate g e).link g).state = .busy .sending x ∧ x.target = d.point ∧ x.kind = .demand ∧
          x.attempts = 1 ∧ x.node = (s.point d.point).node ∧ x.object = (s.point d.point).object ∧
          x.width = (s.point d.point).width ∧
          x.request = requestFrame x.node x.object x.width x.func x.data ∧
          ((s.arbitrate g e).sched g).queue = { d with granted := true } :: ds ∧
          ((s.arbitrate g e).sched g).backToBack = min ((s.sched g).backToBack + 1) 4 ∧
          ((s.point d.point).kind = .output → ∀ f, (s.point d.point).slot = some f →
            x.func = .write ∧ x.data = some f.value ∧ ((s.arbitrate g e).point d.point).inFlight = some f ∧
            ((s.arbitrate g e).point d.point).slot = none) ∧
          ((s.point d.point).kind = .input ∨ (s.point d.point).slot = none → x.func = .read ∧ x.data = none) ∧
          ∀ j, j ≠ d.point → (s.arbitrate g e).point j = s.point j)

/-- The walk (R77, R98 Case B, R126). A visit counts a phase above 0 down and reloads one of 0 with the divider
less 1; it needs no exchange then, nor at a LOST node whose probe mark is set, nor at an OUTPUT point with nothing
pending and no verify. The walk passes over such points and grants a scan exchange to the first that needs one: a
READ, or a WRITE of the pending value, with the cursor behind it, the cycle exchange mark and its node's probe mark set
and the back-to-back count 0. Past the last point the cycle completes, and the decision goes on from there. -/
def Obligations.ScanWalk : Prop :=
  (∀ (s : State) (g : Seg) (e : Env) (c : Scheduler) (before passed rest : List PointIdx) (i : PointIdx) (f : Func),
    c = s.sched g → (s.link g).state = .ready → c.scan.inCycle = true →
    (c.queue = [] ∨ c.cfg.share ≤ c.backToBack) → c.list.Nodup → c.list = before ++ passed ++ i :: rest →
    c.cursor = (passed ++ [i]).head? → (∀ j ∈ passed, s.visitNeeds g j none) → s.visitNeeds g i (some f) →
    ∃ t x, s.arbitrate g e = t ∧ (t.link g).state = .busy .sending x ∧
      x = ⟨i, (s.point i).node, (s.point i).object, (s.point i).width, f,
        if f = .write then (s.point i).slot.map Slot.value else none, .scan,
        requestFrame (s.point i).node (s.point i).object (s.point i).width f
          (if f = .write then (s.point i).slot.map Slot.value else none), 1, none⟩ ∧
      (t.link g).idleTimer = (if e.idle.get g then none else some 2000) ∧
      t.sched g = { c with cursor := rest.head?, cycleMark := true, backToBack := 0 } ∧
      (∀ j ∈ passed, t.point j = (s.point j).visited) ∧
      (f = .read → t.point i = (s.point i).visited) ∧
      (f = .write → t.point i = { (s.point i).visited with inFlight := (s.point i).slot, slot := none }) ∧
      (∀ j, j ∉ passed → j ≠ i → t.point j = s.point j) ∧
      t.node g (s.point i).node = { s.node g (s.point i).node with probe := true } ∧
      ∀ n, n ≠ (s.point i).node → t.node g n = s.node g n) ∧
  ∀ (s : State) (g : Seg) (e : Env) (c : Scheduler) (before passed : List PointIdx),
    c = s.sched g → (s.link g).state = .ready → c.scan.inCycle = true →
    (c.queue = [] ∨ c.cfg.share ≤ c.backToBack) → c.list.Nodup → c.list = before ++ passed → passed ≠ [] →
    c.cursor = passed.head? → (∀ j ∈ passed, s.visitNeeds g j none) →
    ∃ u : State, s.arbitrate g e = (u.complete g).arbitrate g e ∧
      u = { s.modSched g fun c => { c with cursor := none } with points := u.points } ∧
      (∀ j ∈ passed, u.point j = (s.point j).visited) ∧ ∀ j, j ∉ passed → u.point j = s.point j

/-! ### Links and nodes -/

/-- RECOVER_LINE in LINE_DOWN clears the fault count and starts a recovery with LINE, and elsewhere does
nothing (R115). RELEASE_NODE makes a LOST node UNKNOWN with NODE, and leaves any other (R124). READ_NODES answers
the 30 records and changes nothing (R128). READ_TALLY answers both counters and clears them on request (R132). -/
def Obligations.LinkAndNodeCommands : Prop :=
  ∀ (s : State) (p : Port) (tag : Byte) (ps : List Byte) (g : Seg), s.hears p = true → segOf (arg ps 0) = some g →
    (s.hasDevice p .scan = true → ps.length = 1 →
      ((s.link g).state = .lineDown →
        exec (.recoverLine p tag ps) s =
          .next (s.answered
            (((s.acceptFrame p).modLink g fun l =>
              { l with
                state := .recovering, faults := 0, windowTimer := none, backoffTimer := none, idleTimer := none
                gapTimer := none, recoveryTimer := some (l.cfg.recovery.millis * 1000) }).raiseSeg g .line)
            p 0x49 tag ps .ok [4, 0])) ∧
      ((s.link g).state ≠ .lineDown →
        exec (.recoverLine p tag ps) s =
          .next (s.answered (s.acceptFrame p) p 0x49 tag ps .ok
            [byteOf (s.link g).state.code, byteOf (s.link g).faults]))) ∧
    (∀ n, s.hasDevice p .scan = true → ps.length = 2 → nodeOf (arg ps 1) = some n →
      ((s.node g n).state = .lost →
        exec (.releaseNode p tag ps) s =
          .next (s.answered
            (((s.acceptFrame p).modNode g n fun r => { r with state := .unknown, failures := 0 }).raiseSeg g (.node n))
            p 0x51 tag ps .ok [1, byteOf (s.node g n).refs])) ∧
      ((s.node g n).state ≠ .lost →
        exec (.releaseNode p tag ps) s =
          .next (s.answered (s.acceptFrame p) p 0x51 tag ps .ok
            [byteOf (s.node g n).state.code, byteOf (s.node g n).refs]))) ∧
    (ps.length = 1 →
      exec (.readNodes p tag ps) s =
        .next (s.answered (s.acceptFrame p) p 0x50 tag ps .ok
          ([byteOf g.code, byteOf (s.link g).cfg.lostLimit] ++
            (s.seg g).nodes.toList.flatMap fun n =>
              [byteOf (n.state.code + if n.probe then 128 else 0), byteOf n.refs, byteOf n.failures]))) ∧
    (ps.length = 2 → arg ps 1 ≤ 1 →
      exec (.readTally p tag ps) s =
        .next (s.answered
          (if arg ps 1 = 1 then
            (s.acceptFrame p).modSeg g fun v =>
              { v with tally0 := { v.tally0 with count := 0 }, tally1 := { v.tally1 with count := 0 } }
           else s.acceptFrame p)
          p 0x53 tag ps .ok
          ([byteOf (s.seg g).tally0.event.code, byteOf (s.seg g).tally0.filter] ++ le2 (s.seg g).tally0.count.toNat ++
            [byteOf (s.seg g).tally1.event.code, byteOf (s.seg g).tally1.filter] ++
            le2 (s.seg g).tally1.count.toNat)))

/-- The course of an attempt (R108 to R110): REQUEST_SENT leads from SENDING, once the drivers are on, to
AWAITING with the window running; RESPONSE_START_BIT to RECEIVING; BACKOFF_EXPIRY to a new attempt;
IDLE_WAIT_LINE_IDLE ends the idle wait and so lets the transmission begin (notes/assumptions/30).
A response is valid, and gives the result its status names, exactly where every character has even parity and its
stop bit, none but the first follows a pause, and the characters are the marker, the node, the status, the length, as
many data characters as an accepted READ asks for and none otherwise, and the check of R105 (R106). -/
def Obligations.AttemptCourse : Prop :=
  (∀ (x : Exchange) (frame : List RxChar) (r : AttemptResult), r ≠ .checkError →
    (judgeResponse x frame = r ↔
      ∃ (status : Nat) (data : List Byte),
        (status, r) ∈ [(0, AttemptResult.accepted), (1, .busy), (2, .noObject), (3, .badLength), (4, .readOnly)] ∧
        (∀ c ∈ frame, c.stop = true ∧
          c.parity = decide (((List.range 8).filter fun k => c.data.getLsbD k).length % 2 = 1)) ∧
        (∀ c ∈ frame.drop 1, c.paused = false) ∧
        frame.map RxChar.data =
          0x5D :: byteOf (x.node.val + 1) :: byteOf status :: byteOf data.length :: data ++
            [linkCheck (byteOf (x.node.val + 1) :: byteOf status :: byteOf data.length :: data)] ∧
        data.length = if status = 0 ∧ x.func = .read then x.width.bytes else 0)) ∧
  ∀ (s : State) (g : Seg) (x : Exchange) (e : Env), s.inReset = false →
    ((s.link g).state = .busy .sending x → (s.link g).idleTimer = none →
      exec (.requestSent g) s =
        .next (s.modLink g fun l =>
          { l with state := .busy .awaiting x, windowTimer := some (l.cfg.window * 100) })) ∧
    ((s.link g).state = .busy .awaiting x →
      exec (.responseStartBit g) s =
        .next (s.modLink g fun l => { l with state := .busy .receiving x, windowTimer := none })) ∧
    ((s.link g).state = .busy .backoff x →
      exec (.backoffExpiry g e) s =
        .next (s.modLink g fun l =>
          { l with
            state := .busy .sending { x with attempts := x.attempts + 1 }
            windowTimer := none, backoffTimer := none, gapTimer := none, recoveryTimer := none
            idleTimer := if e.idle.get g then none else some 2000 })) ∧
    ((s.link g).state = .busy .sending x →
      exec (.idleWaitLineIdle g) s = .next (s.modLink g fun l => { l with idleTimer := none }))

/-- The end of an attempt by the window, a tenth character or the end of the response (R109 to R112): with
attempts left, NO_RESPONSE and CHECK_ERROR begin a new attempt and BUSY a backoff; otherwise, and for every other
result, the exchange ends and the link rests in GAP, its fault count cleared by an answer that is no BUSY. Where the
line is idle for the new attempt is an operand, or read from the event (notes/assumptions/8). -/
def Obligations.AttemptEnds : Prop :=
  ∀ (s : State) (g : Seg) (x : Exchange) (e : Env) (frame : List RxChar) (i : Instr) (r : AttemptResult)
    (idle more : Bool), s.inReset = false → more = decide (x.attempts < (s.link g).cfg.retries + 1) →
    ((i = .responseWindowExpiry g e ∧ (s.link g).state = .busy .awaiting x ∧ r = .noResponse ∧ idle = e.idle.get g) ∨
      (i = .tenthCharacter g e ∧ (s.link g).state = .busy .receiving x ∧ r = .checkError ∧ idle = false) ∨
      (i = .responseFrameEnd g frame e ∧ (s.link g).state = .busy .receiving x ∧ r = judgeResponse x frame ∧
        idle = true)) →
    ∃ t, exec i s = .next t ∧
      ((r = .noResponse ∨ r = .checkError) → more = true →
        (t.link g).state = .busy .sending { x with attempts := x.attempts + 1, last := some r } ∧
        (t.link g).idleTimer = (if idle then none else some 2000) ∧ t.points = s.points ∧
        t.sched g = s.sched g) ∧
      (r = .busy → more = true →
        (t.link g).state = .busy .backoff { x with last := some r } ∧ (t.link g).backoffTimer = some 1000 ∧
        t.points = s.points ∧ t.sched g = s.sched g) ∧
      (¬((r = .noResponse ∨ r = .checkError ∨ r = .busy) ∧ more = true) →
        (t.link g).state = .gap ∧ (t.link g).gapTimer = some (s.link g).cfg.bitRate.gapMicros ∧
        (t.link g).faults =
          if r = .noResponse ∨ r = .checkError ∨ r = .busy then (s.link g).faults else 0) ∧
      (t.link g).cfg = (s.link g).cfg ∧ (∀ h, t.feed h = s.feed h) ∧
      ∀ h, h ≠ g → t.sched h = s.sched h ∧ t.link h = s.link h

/-- A line fault, by the idle wait's expiry or the transmitter's current limit (R113, R114): the exchange in flight is
over, the fault count rises to at most 7, and the link is RECOVERING with its timer running while the count is below
the limit, else LINE_DOWN. Either way LINE is raised for both ports, each through its mask. At LINE_DOWN a WAITING,
RUNNING or FINISHING scan is HALTED(LINE), its cursor at the head, its timer stopped and its flags clear, a STOPPING one
is STOPPED, one that is STOPPED or HALTED is unchanged, and the demand queue is kept but for the granted entry (R93).
Before that the exchange's end may complete or cut the cycle, which is then counted and may stop the scan (R79); a cut
that finds the scan WAITING is the model's reading (notes/assumptions/25). -/
def Obligations.LineFaults : Prop :=
  ∀ (s : State) (g : Seg) (i : Instr) (n m : Nat) (c : Scheduler) (ends stops : Prop), s.inReset = false →
    n = min ((s.link g).faults + 1) 7 → c = s.sched g →
    (ends ↔ ∃ x, (s.link g).exchange = some x ∧
      (c.cut = true ∧ (c.scan.inCycle = true ∨ c.scan = .waiting) ∨
        c.cut = false ∧ c.scan.inCycle = true ∧ c.cursor = none ∧ x.kind = .scan)) →
    m = (if c.scan.inCycle then min (c.cyclesEnded + 1) 255 else c.cyclesEnded) →
    (stops ↔ c.cfg.cycles ≠ 0 ∧ m = c.cfg.cycles ∨ c.scan = .finishing ∧ c.cut = false) →
    ((i = .idleWaitExpiry g ∧ (s.link g).idleTimer ≠ none ∧
        ((s.link g).state = .recovering ∨ ∃ x, (s.link g).state = .busy .sending x)) ∨
      (i = .transmitterCurrentLimit g ∧ (s.link g).driving = true)) →
    ∃ t, exec i s = .next t ∧ (t.link g).faults = n ∧ (t.link g).idleTimer = none ∧ (t.link g).windowTimer = none ∧
      (∀ p, (t.segNoteOf p g).line = ((s.segNoteOf p g).line || (s.port p).segMask.getLsbD 3)) ∧
      (n < (s.link g).cfg.faultLimit →
        (t.link g).state = .recovering ∧
        (t.link g).recoveryTimer = some ((s.link g).cfg.recovery.millis * 1000) ∧
        ((s.link g).exchange = none → t.sched g = c)) ∧
      ((s.link g).cfg.faultLimit ≤ n →
        (t.link g).state = .lineDown ∧ (t.link g).recoveryTimer = none ∧ (t.sched g).scan.inCycle = false ∧
        (t.sched g).scan ≠ .waiting ∧ (t.sched g).scan ≠ .stopping ∧
        (¬ends → c.scan = .waiting ∨ c.scan = .running ∨ c.scan = .finishing →
          t.sched g =
            { c with
              scan := .haltedLine, cursor := c.list.head?, periodTimer := none, cut := false, deferred := false
              queue := (t.sched g).queue }) ∧
        (ends → c.list ≠ [] → ¬stops →
          t.sched g =
            { c with
              scan := .haltedLine, cursor := c.list.head?, periodTimer := none, cut := false, deferred := false
              cyclesEnded := m, cycleMark := (t.sched g).cycleMark, queue := (t.sched g).queue }) ∧
        (ends → c.list ≠ [] → stops →
          t.sched g =
            { c with
              scan := .stopped, cursor := none, periodTimer := none, cut := false, deferred := false
              cyclesEnded := m, queue := (t.sched g).queue }) ∧
        (c.scan = .stopping →
          t.sched g =
            { c with
              scan := .stopped, cursor := none, periodTimer := none, cut := false, deferred := false
              queue := (t.sched g).queue }) ∧
        (c.scan = .stopped ∨ c.scan = .haltedPower ∨ c.scan = .haltedLine → c.cut = false →
          t.sched g = { c with queue := (t.sched g).queue })) ∧
      (∀ d ∈ c.queue, d.granted = false → d ∈ (t.sched g).queue) ∧
      ((s.link g).exchange = none → (t.sched g).queue = c.queue) ∧
      (∀ h, t.feed h = s.feed h) ∧ ∀ h, h ≠ g → t.sched h = s.sched h ∧ t.link h = s.link h

/-- The link becomes READY at the end of its gap, at the end of a recovery that finds the line idle, and when
the line becomes idle within a recovery's wait (R112, R115); a HALTED scan is then left and the arbiter decides
(R94, R97), from either cause, by setting the scan going. A recovery that finds the line busy waits for it. Whether the
line is idle is an operand, or read from the event (notes/assumptions/8). -/
def Obligations.LinkBecomesReady : Prop :=
  (∀ (s ready : State) (g : Seg) (e : Env), s.inReset = false →
    ready = (s.modLink g fun l =>
      { l with state := .ready, gapTimer := none, idleTimer := none, recoveryTimer := none }) →
    ((s.link g).state = .gap →
      exec (.gapEnd g e) s = .next ((ready.leaveHalted g).arbitrate g e)) ∧
    ((s.link g).state = .recovering → (s.link g).recoveryTimer ≠ none → e.idle.get g = true →
      exec (.recoveryExpiry g e) s = .next ((ready.leaveHalted g).arbitrate g e)) ∧
    ((s.link g).state = .recovering → (s.link g).recoveryTimer ≠ none → e.idle.get g = false →
      exec (.recoveryExpiry g e) s =
        .next (s.modLink g fun l => { l with recoveryTimer := none, idleTimer := some 2000 })) ∧
    ((s.link g).state = .recovering → (s.link g).idleTimer ≠ none →
      exec (.recoveryLineIdle g) s =
        .next ((ready.leaveHalted g).arbitrate g ⟨⟨true, true, true, true⟩, []⟩))) ∧
  ∀ (s : State) (g : Seg),
    ((s.sched g).scan ≠ .haltedPower → (s.sched g).scan ≠ .haltedLine → s.leaveHalted g = s) ∧
    ((s.sched g).scan = .haltedPower ∨ (s.sched g).scan = .haltedLine →
      s.leaveHalted g = s.setGoing g ∧
      ((s.sched g).cfg.mode = .freeRun → (s.sched g).list ≠ [] →
        (s.leaveHalted g).sched g =
          { s.sched g with
            scan := .running, cursor := (s.sched g).list.head?, cycleMark := false, deferred := false
            periodTimer := if (s.sched g).cfg.period = 0 then none else some ((s.sched g).cfg.period * 100) }) ∧
      ((s.sched g).cfg.mode = .triggered → s.heldFor g = false →
        s.leaveHalted g = s.modSched g fun c => { c with scan := .waiting }))

/-- A valid answer to a READ of a LIVE point gives its value (R26 to R28): an INPUT point, or an OUTPUT point
without a value, takes it with age 0 and quality GOOD; an OUTPUT point with a value keeps it, takes the integer as
observed, and is GOOD with age 0 where they agree, else DISAGREE with the value offered again by REASSERT (R65); such
a read-back reaches neither band nor deadband and raises no CHANGE and no LIMIT (R41). The integer is that of the data
characters of Table 6-4b, least significant byte first, in two's complement for a signed point (R25). -/
def Obligations.ReadOutcomes : Prop :=
  (∀ (frame : List RxChar) (node status check : Byte) (data : List Byte),
    frame.map RxChar.data = 0x5D :: node :: status :: byteOf data.length :: data ++ [check] →
    responseData frame = data) ∧
  (∀ b0 b1 b2 b3 : Byte,
    intOfBytes false [b0] = b0.toNat ∧
    intOfBytes false [b0, b1] = (b0.toNat : Int) + 256 * b1.toNat ∧
    intOfBytes false [b0, b1, b2, b3] =
      (b0.toNat : Int) + 256 * b1.toNat + 65536 * b2.toNat + 16777216 * b3.toNat ∧
    intOfBytes true [b0] = (b0.toNat : Int) - (if b0.getLsbD 7 = true then 256 else 0) ∧
    intOfBytes true [b0, b1] = (b0.toNat : Int) + 256 * b1.toNat - (if b1.getLsbD 7 = true then 65536 else 0) ∧
    intOfBytes true [b0, b1, b2, b3] =
      (b0.toNat : Int) + 256 * b1.toNat + 65536 * b2.toNat + 16777216 * b3.toNat -
        (if b3.getLsbD 7 = true then 4294967296 else 0)) ∧
  ∀ (s : State) (g : Seg) (x : Exchange) (frame : List RxChar) (e : Env) (v : Int), s.inReset = false →
    (s.link g).state = .busy .receiving x → x.func = .read → judgeResponse x frame = .accepted →
    (s.point x.target).life = .live → v = intOfBytes (s.point x.target).signed (responseData frame) →
    ∃ t, exec (.responseFrameEnd g frame e) s = .next t ∧
      ((s.point x.target).kind = .input →
        (t.point x.target).value = some v ∧ (t.point x.target).age = 0 ∧ (t.point x.target).quality = .good) ∧
      ((s.point x.target).kind = .output → (s.point x.target).value = none →
        (t.point x.target).value = some v ∧ (t.point x.target).observed = some v ∧ (t.point x.target).age = 0 ∧
        (t.point x.target).quality = .good) ∧
      ∀ d, (s.point x.target).kind = .output → (s.point x.target).value = some d →
        (t.point x.target).value = some d ∧ (t.point x.target).observed = some v ∧
        (v = d → (t.point x.target).age = 0 ∧ (t.point x.target).quality = .good ∧
          (t.point x.target).slot = (s.point x.target).slot) ∧
        (v ≠ d → (t.point x.target).age = (s.point x.target).age ∧ (t.point x.target).quality = .disagree ∧
          (t.point x.target).slot =
            if (s.point x.target).slot = none then some ⟨d, .reassert, false⟩ else (s.point x.target).slot) ∧
        (t.point x.target).band = (s.point x.target).band ∧
        (t.point x.target).deadband = (s.point x.target).deadband ∧
        ∀ p, (t.noteOf p x.target).changes = (s.noteOf p x.target).changes ∧
          (t.noteOf p x.target).limits = (s.noteOf p x.target).limits

/-- The end of an exchange at a LIVE point, by whichever event (R29 to R32, R61 to R63). A WRITE's OK makes the
value in flight the value, with DELIVERED; its REFUSED drops it, with REFUSED; every other outcome returns it to an
empty slot, or drops it for a newer value with SUPERSEDED, counts the failure, and tells DELAYED at the first of a run.
A READ that is not OK keeps the value, observed value and age. The quality becomes REFUSED at a refusal and NODE_LOST
where the outcome brings the node to LOST, there for the LIVE points of the node together; QUALITY goes to its
subscribers where it changed (R36), WRITE results to the writer and, if final, to WRITE subscribers (R60). -/
def Obligations.OutcomesAtLivePoints : Prop :=
  ∀ (s : State) (g : Seg) (x : Exchange) (o : ExchangeOutcome) (i : Instr) (k : PointIdx), s.inReset = false →
    s.endsExchange i g x o → k = x.target → (s.point k).life = .live →
    ∃ t, exec i s = .next t ∧ (t.point k).life = .live ∧
      (∀ f, x.func = .write → (s.point k).inFlight = some f →
        (t.point k).inFlight = none ∧ (t.point k).observed = (s.point k).observed ∧
        (o = .ok →
          (t.point k).value = some f.value ∧ (t.point k).age = 0 ∧ (t.point k).quality = .good ∧
          (t.point k).failed = 0 ∧ (t.point k).slot = (s.point k).slot) ∧
        (o ≠ .ok → (t.point k).value = (s.point k).value ∧ (t.point k).age = (s.point k).age) ∧
        (o = .refused → (t.point k).failed = 0 ∧ (t.point k).slot = (s.point k).slot) ∧
        (o = .ok ∨ o = .refused →
          ∀ p, (t.noteOf p k).write =
            if f.writer = .port p ∨ ((s.point k).subs.get p).getLsbD 3 = true then
              some (if o = .ok then .delivered else .refused, f.writer)
            else (s.noteOf p k).write) ∧
        (o ≠ .ok → o ≠ .refused →
          (t.point k).failed = min ((s.point k).failed + 1) 255 ∧
          (t.point k).slot = some ((s.point k).slot.getD f) ∧
          ∀ p, (t.noteOf p k).write =
            if (s.point k).failed = 0 ∧ ((s.point k).slot.getD f).writer = .port p then
              some (.delayed, ((s.point k).slot.getD f).writer)
            else if (s.point k).slot ≠ none ∧ f.writer = .port p then some (.superseded, f.writer)
            else (s.noteOf p k).write)) ∧
      (x.func = .read → o ≠ .ok →
        (t.point k).value = (s.point k).value ∧ (t.point k).observed = (s.point k).observed ∧
        (t.point k).age = (s.point k).age ∧ (t.point k).slot = (s.point k).slot) ∧
      (o = .refused → (t.point k).quality = .refused) ∧
      (o ≠ .ok → o ≠ .refused → ¬s.bringsLost g x.node o → (t.point k).quality = (s.point k).quality) ∧
      (∀ j, (s.point j).life = .live → (s.point j).seg = g → (s.point j).node = x.node →
        s.bringsLost g x.node o → (s.point j).quality ≠ .unpowered → (t.point j).quality = .nodeLost) ∧
      (∀ p j, (s.point j).life = .live →
        (t.noteOf p j).quality =
          ((s.noteOf p j).quality ||
            (decide ((t.point j).quality ≠ (s.point j).quality) && ((s.point j).subs.get p).getLsbD 2))) ∧
      (¬s.bringsLost g x.node o → ∀ j, j ≠ k → t.point j = s.point j)

/-- A value update: an accepted READ of an INPUT point or of an OUTPUT point without a value, or a delivered WRITE
(R41). The update's band state follows Table 3-1 and its deadband reference R50; the note of the point in each port's
list gains CHANGE and LIMIT where they are due and subscribed, QUALITY where the quality was another, DELIVERED for the
writer and WRITE subscribers, and DEMAND COMPLETED for demanders of a demand exchange, and nothing else; no other
point's note changes (R26, R28, R29, R36, R40, R43, R44, R49, R50, R60). -/
def Obligations.ValueUpdates : Prop :=
  ∀ (s : State) (g : Seg) (x : Exchange) (frame : List RxChar) (e : Env) (k : PointIdx) (v : Int)
    (writer : Option Writer) (changes : Bool) (after : Option BandState) (due : Bool),
    s.inReset = false → (s.link g).state = .busy .receiving x → judgeResponse x frame = .accepted → k = x.target →
    (s.point k).life = .live →
    (x.func = .read ∧ ((s.point k).kind = .input ∨ (s.point k).value = none) ∧
        v = intOfBytes (s.point k).signed (responseData frame) ∧ writer = none ∨
      ∃ f, x.func = .write ∧ (s.point k).inFlight = some f ∧ v = f.value ∧ writer = some f.writer) →
    (changes = true ↔ (s.point k).value = none ∨ (s.point k).deadband = none ∧ (s.point k).value ≠ some v ∨
      ∃ d, (s.point k).deadband = some d ∧
        (d.reference = none ∨ ∃ r, d.reference = some r ∧ d.width ≤ (v - r).natAbs)) →
    after = ((s.point k).band.map fun b => match b.state with
      | .unset => if v > b.high then .above else if v < b.low then .below else .inside
      | .inside => if v > b.high then .above else if v < b.low then .below else .inside
      | .above => if v < b.low then .below else if v > b.high - b.hysteresis then .above else .inside
      | .below => if v > b.high then .above else if v < b.low + b.hysteresis then .below else .inside) →
    (due = true ↔ ∃ b a, (s.point k).band = some b ∧ after = some a ∧ a ≠ b.state ∧
      ¬(b.state = .unset ∧ a = .inside)) →
    ∃ t, exec (.responseFrameEnd g frame e) s = .next t ∧ (t.point k).value = some v ∧ (t.point k).age = 0 ∧
      (t.point k).quality = .good ∧
      (t.point k).band = ((s.point k).band.map fun b => { b with state := after.getD b.state }) ∧
      (t.point k).deadband =
        (if changes then (s.point k).deadband.map fun d => { d with reference := some v }
        else (s.point k).deadband) ∧
      (∀ p, t.noteOf p k =
        ⟨if changes && ((s.point k).subs.get p).getLsbD 0 then min ((s.noteOf p k).changes + 1) 15
            else (s.noteOf p k).changes,
          if due && ((s.point k).subs.get p).getLsbD 1 then min ((s.noteOf p k).limits + 1) 15
            else (s.noteOf p k).limits,
          (s.noteOf p k).quality ||
            (decide ((s.point k).quality ≠ .good) && ((s.point k).subs.get p).getLsbD 2),
          match writer with
          | none => (s.noteOf p k).write
          | some w =>
            if w = .port p ∨ ((s.point k).subs.get p).getLsbD 3 = true then some (.delivered, w)
            else (s.noteOf p k).write,
          if x.kind = .demand ∧ (s.point k).demanders.get p = true then some .completed
            else (s.noteOf p k).demand,
          (s.noteOf p k).retired⟩) ∧
      ∀ p j, j ≠ k → t.noteOf p j = s.noteOf p j

/-- The end of an exchange at the rest of its segment. A RETIRING target keeps its value, quality and age and enters
CLOSED, with RETIRED for its subscribers, demanders and retire notice set and the result of a write for its writer in
that set, or FREE under the next generation where no list names it (R15 to R17). A demand exchange tells a LIVE
target's demanders COMPLETED, or FAILED, and empties their set; its granted entry leaves the queue (R40, R79). An
urgent value that a demand exchange leaves in the slot, or that a scan WRITE returns to it, is offered to the queue
again (R58, R63). The node's count falls by 1 with the closure of a RETIRING target, after the judgement, and the last
point leaves the record IDLE (R120). A STOPPING scan is STOPPED; a pending cut is applied, and a scan exchange that
ends with the cursor at END completes its cycle: either counts the cycle (R79, R83, R91). -/
def Obligations.ExchangeEnds : Prop :=
  ∀ (s : State) (g : Seg) (x : Exchange) (o : ExchangeOutcome) (i : Instr) (k : PointIdx) (told : Port → Prop)
    (kept : List DemandEntry) (urgent offer : Prop),
    s.inReset = false → s.endsExchange i g x o → k = x.target →
    (∀ p, told p ↔ (s.point k).subs.get p ≠ 0 ∨ (s.point k).demanders.get p = true ∨
      (s.point k).retireSet.get p = true) →
    kept = (if x.kind = .demand then (s.sched g).queue.filter fun d => !(decide (d.point = k) && d.granted)
      else (s.sched g).queue) →
    (urgent ↔ ∃ f, f.urgent = true ∧
      ((s.point k).slot = some f ∧ x.kind = .demand ∨
        (s.point k).slot = none ∧ x.func = .write ∧ (s.point k).inFlight = some f ∧ o ≠ .ok ∧ o ≠ .refused)) →
    (offer ↔ urgent ∧ (s.point k).life = .live ∧ (s.feed g).state = .on ∧ (∀ d ∈ kept, d.point ≠ k) ∧ kept.length < 8) →
    ∃ t, exec i s = .next t ∧
      ((s.point k).life = .retiring →
        (∀ p, told p →
          (t.noteOf p k).retired = true ∧
          ∀ f, (s.point k).inFlight = some f → f.writer = .port p → (s.point k).retireSet.get p = true →
            (t.noteOf p k).write =
              some (if o = .ok then .delivered else if o = .refused then .refused else .cancelled, f.writer)) ∧
        ((∃ p, told p ∨ s.named p k = true) →
          t.point k =
            { s.point k with
              life := .closed, divider := 0, phase := 0, staleLimit := 0, verify := false, deadband := none
              slot := none, inFlight := none, safe := none, subs := ⟨0, 0⟩, demanders := ⟨false, false⟩
              retireSet := ⟨false, false⟩ }) ∧
        ((∀ p, ¬told p ∧ s.named p k = false) → t.point k = Point.cleared ((s.point k).generation + 1))) ∧
      ((s.point k).life = .live → x.kind = .demand →
        (t.point k).demanders = ⟨false, false⟩ ∧
        ∀ p, (t.noteOf p k).demand =
          if (s.point k).demanders.get p = true then some (if o = .ok ∨ o = .refused then .completed else .failed)
          else (s.noteOf p k).demand) ∧
      ((s.point k).life = .live → x.kind = .scan → (t.point k).demanders = (s.point k).demanders) ∧
      (offer → (t.sched g).queue = kept ++ [⟨k, ⟨false, false⟩, false⟩]) ∧
      (¬offer → (t.sched g).queue = kept) ∧
      (x.kind = .demand → ∀ d ∈ (t.sched g).queue, ¬(d.point = k ∧ d.granted = true)) ∧
      (SegmentLaw s →
        (t.node g x.node).refs =
          (if (s.point k).life = .retiring then (s.node g x.node).refs - 1 else (s.node g x.node).refs) ∧
        ((s.point k).life = .retiring → (s.node g x.node).refs ≤ 1 → t.node g x.node = ⟨.idle, 0, 0, false⟩)) ∧
      ((s.sched g).scan = .stopping → (t.sched g).scan = .stopped) ∧
      ((s.sched g).scan.inCycle = true → (s.sched g).list ≠ [] →
        ((s.sched g).cut = true ∨ (s.sched g).cursor = none ∧ x.kind = .scan) →
        (t.sched g).cyclesEnded = min ((s.sched g).cyclesEnded + 1) 255 ∧ (t.sched g).cut = false)

/-- The judgement of a node record by an outcome (R121): OK, REFUSED and DEFERRED show it ONLINE with no
failures; FAILED counts up to 15, keeps a LOST node LOST, and makes any other LOST at the lost limit and SUSPECT
below it; LINE_FAULT and ABANDONED keep it. An IDLE record is not judged (notes/assumptions/26). The end of an exchange
judges its node so, under the configured lost limit, then lowers the count where the target was RETIRING (R120), and
leaves the other records but for the probe marks that a new cycle clears; the address joins NODE in each list whose port
takes NODE exactly where the judgement changed the state (R125).
The tally counters (R130): a report adds 1 to each counter whose event is among its events and, where it judges a node,
whose filter is 0 or the address; TALLY is raised where the count goes from 65535 to 0. The end of an attempt reports
the attempt and, if it is the last, the outcome, and a line fault itself and the exchange it ends (Table 7-4). -/
def Obligations.NodeTracker : Prop :=
  (∀ (n : NodeRec) (limit : Nat), n.state ≠ .idle →
    (∀ o, o = .ok ∨ o = .refused ∨ o = .deferred → n.judge o limit = { n with state := .online, failures := 0 }) ∧
    (n.state = .lost → n.judge .failed limit = { n with failures := min (n.failures + 1) 15 }) ∧
    (n.state ≠ .lost → limit ≤ min (n.failures + 1) 15 →
      n.judge .failed limit = { n with state := .lost, failures := min (n.failures + 1) 15 }) ∧
    (n.state ≠ .lost → min (n.failures + 1) 15 < limit →
      n.judge .failed limit = { n with state := .suspect, failures := min (n.failures + 1) 15 }) ∧
    ∀ o, o = .lineFault ∨ o = .abandoned → n.judge o limit = n) ∧
  (∀ (n : NodeRec) (limit : Nat) (o : ExchangeOutcome), n.state = .idle → n.judge o limit = n) ∧
  (∀ (s : State) (g : Seg) (x : Exchange) (o : ExchangeOutcome) (i : Instr) (n m : NodeRec), s.inReset = false →
    SegmentLaw s → s.endsExchange i g x o → n = (s.node g x.node).judge o (s.link g).cfg.lostLimit →
    m = (if (s.point x.target).life = .retiring then
        (if n.refs ≤ 1 then ⟨.idle, 0, 0, false⟩ else { n with refs := n.refs - 1 })
      else n) →
    ∃ t, exec i s = .next t ∧ { t.node g x.node with probe := m.probe } = m ∧
      (∀ k, k ≠ x.node → { t.node g k with probe := (s.node g k).probe } = s.node g k) ∧
      ((s.sched g).cut = false → ((s.sched g).scan.inCycle = false ∨ (s.sched g).cursor ≠ none ∨ x.kind = .demand) →
        t.node g x.node = m ∧ ∀ k, k ≠ x.node → t.node g k = s.node g k) ∧
      ∀ p, (t.segNoteOf p g).nodes =
        if n.state ≠ (s.node g x.node).state ∧ (s.port p).segMask.getLsbD 4 = true then
          (s.segNoteOf p g).nodes ||| BitVec.twoPow 30 x.node.val
        else (s.segNoteOf p g).nodes) ∧
  (∀ (s u : State) (g : Seg) (evs : List TallyEvent) (node : Option NodeIdx) (hit : Tally → Bool),
    (∀ c, hit c = true ↔ c.event ∈ evs ∧ ∀ n, node = some n → c.filter = 0 ∨ c.filter = n.val + 1) →
    u = (s.modSeg g fun v =>
      { v with
        tally0 := if hit v.tally0 then { v.tally0 with count := v.tally0.count + 1 } else v.tally0
        tally1 := if hit v.tally1 then { v.tally1 with count := v.tally1.count + 1 } else v.tally1 }) →
    ∀ w0 w1, w0 = (hit (s.seg g).tally0 && decide ((s.seg g).tally0.count = 65535)) →
      w1 = (hit (s.seg g).tally1 && decide ((s.seg g).tally1.count = 65535)) →
      (w0 = false → w1 = false → s.tally g evs node = u) ∧
      (w0 = true → w1 = false → s.tally g evs node = u.raiseSeg g (.tally false)) ∧
      (w0 = false → w1 = true → s.tally g evs node = u.raiseSeg g (.tally true)) ∧
      (w0 = true → w1 = true → s.tally g evs node = (u.raiseSeg g (.tally false)).raiseSeg g (.tally true))) ∧
  (∀ (s : State) (g : Seg) (x : Exchange) (e : Env) (frame : List RxChar) (i : Instr) (r : AttemptResult)
    (last : Bool) (hit : Tally → Bool), s.inReset = false →
    ((i = .responseWindowExpiry g e ∧ (s.link g).state = .busy .awaiting x ∧ r = .noResponse) ∨
      (i = .tenthCharacter g e ∧ (s.link g).state = .busy .receiving x ∧ r = .checkError) ∨
      (i = .responseFrameEnd g frame e ∧ (s.link g).state = .busy .receiving x ∧ r = judgeResponse x frame)) →
    (last = true ↔ ¬((r = .noResponse ∨ r = .checkError ∨ r = .busy) ∧ x.attempts < (s.link g).cfg.retries + 1)) →
    (∀ c, hit c = true ↔ (c.filter = 0 ∨ c.filter = x.node.val + 1) ∧
      (c.event = .retries ∧ 1 < x.attempts ∨ c.event = .noResponse ∧ r = .noResponse ∨
        c.event = .checkErrors ∧ r = .checkError ∨ c.event = .busyReplies ∧ r = .busy ∨
        c.event = .exchangesOk ∧ r = .accepted ∨
        c.event = .refusals ∧ (r = .noObject ∨ r = .badLength ∨ r = .readOnly) ∨
        c.event = .demandExchanges ∧ x.kind = .demand ∧ last = true ∨
        c.event = .writesDelivered ∧ r = .accepted ∧ x.func = .write)) →
    ∃ t, exec i s = .next t ∧
      (t.seg g).tally0 =
        (if hit (s.seg g).tally0 then { (s.seg g).tally0 with count := (s.seg g).tally0.count + 1 }
        else (s.seg g).tally0) ∧
      (t.seg g).tally1 =
        (if hit (s.seg g).tally1 then { (s.seg g).tally1 with count := (s.seg g).tally1.count + 1 }
        else (s.seg g).tally1) ∧
      ∀ p, (t.segNoteOf p g).wrap0 =
        ((s.segNoteOf p g).wrap0 ||
          (hit (s.seg g).tally0 && decide ((s.seg g).tally0.count = 65535) && (s.port p).segMask.getLsbD 5)) ∧
        (t.segNoteOf p g).wrap1 =
        ((s.segNoteOf p g).wrap1 ||
          (hit (s.seg g).tally1 && decide ((s.seg g).tally1.count = 65535) && (s.port p).segMask.getLsbD 5))) ∧
  ∀ (s : State) (g : Seg) (i : Instr) (hit : Tally → Bool), s.inReset = false →
    ((i = .idleWaitExpiry g ∧ (s.link g).idleTimer ≠ none ∧
        ((s.link g).state = .recovering ∨ ∃ x, (s.link g).state = .busy .sending x)) ∨
      (i = .transmitterCurrentLimit g ∧ (s.link g).driving = true)) →
    (∀ c, hit c = true ↔ c.event = .lineFaults ∨
      c.event = .demandExchanges ∧ ∃ x, (s.link g).exchange = some x ∧ x.kind = .demand ∧
        (c.filter = 0 ∨ c.filter = x.node.val + 1)) →
    ∃ t, exec i s = .next t ∧
      (t.seg g).tally0 =
        (if hit (s.seg g).tally0 then { (s.seg g).tally0 with count := (s.seg g).tally0.count + 1 }
        else (s.seg g).tally0) ∧
      (t.seg g).tally1 =
        (if hit (s.seg g).tally1 then { (s.seg g).tally1 with count := (s.seg g).tally1.count + 1 }
        else (s.seg g).tally1)

/-! ### Feeds and the monitor -/

/-- READ_FEEDS answers the monitor levels and all four feeds as they stand and changes nothing; parameters are
refused (R144).
FEED_ON by the feed state (R137): an OFF or LATCHED feed starts with its enable flag set, or is FORCED_OFF with
FEED while the monitor holds feeds off; a TRIPPED feed starts with its retry timer stopped; any other is left.
FEED_OFF takes the feed to OFF with its flag clear and its timers stopped and keeps its trips and settings; it raises
no FEED and no device reason, and a feed that was not ON changes nothing else and raises nothing at all (R141, R142).
Where queues and exchanges name points of their own segment, as the invariant SegmentLaw says, it leaves the other
segments and their points whole. -/
def Obligations.FeedCommands : Prop :=
  (∀ (s : State) (p : Port) (tag : Byte) (ps : List Byte), Takes s p ps →
    (ps = [] →
      exec (.readFeeds p tag ps) s =
        .next (s.answered (s.acceptFrame p) p 0x5B tag ps .ok
          ([byteOf s.supply.code, byteOf s.temperature.code] ++
            [Seg.s0, .s1, .s2, .s3].flatMap fun g =>
              [byteOf (s.feed g).state.code, byteOf (s.feed g).trips,
                byteOf ((if (s.feed g).enable then 1 else 0) + if (s.feed g).clamping then 2 else 0),
                byteOf (s.feed g).cfg.limit.code, byteOf (s.feed g).cfg.blanking.code,
                byteOf ((if (s.feed g).cfg.doubleStart then 1 else 0) +
                  (if (s.feed g).cfg.fastShort then 2 else 0) + 4 * (s.feed g).cfg.retry.code),
                byteOf (s.feed g).cfg.settle]))) ∧
    (ps ≠ [] →
      exec (.readFeeds p tag ps) s = .next (s.answered (s.acceptFrame p) p 0x5B tag ps .badParameter []))) ∧
  (∀ (s t : State) (p : Port) (tag : Byte) (ps : List Byte) (g : Seg), s.hears p = true → ps.length = 1 →
    segOf (arg ps 0) = some g → s.hasDevice p .feed = true →
    t = (if (s.feed g).state = .off ∨ (s.feed g).state = .latched then
        (if s.supply = .under ∨ s.temperature = .shutdown then
          ((s.acceptFrame p).modFeed g fun f => { f with state := .forcedOff, enable := true }).raiseSeg g .feed
        else
          (s.acceptFrame p).modFeed g fun f =>
            { f with
              state := .starting, enable := true, startTimer := some (f.cfg.blanking.millis * 1000)
              settleTimer := none, retryTimer := none })
      else if (s.feed g).state = .tripped then
        (s.acceptFrame p).modFeed g fun f =>
          { f with
            state := .starting, startTimer := some (f.cfg.blanking.millis * 1000), settleTimer := none
            retryTimer := none }
      else s.acceptFrame p) →
    exec (.feedOn p tag ps) s =
      .next (s.answered t p 0x59 tag ps .ok [byteOf (t.feed g).state.code, byteOf (t.feed g).trips])) ∧
  (∀ (s : State) (p : Port) (tag : Byte) (ps : List Byte) (e : Env) (g : Seg), s.hears p = true → ps.length = 1 →
    segOf (arg ps 0) = some g → s.hasDevice p .feed = true →
    ∃ t, exec (.feedOff p tag ps e) s = .next (s.answered t p 0x5A tag ps .ok [0, byteOf (s.feed g).trips]) ∧
      t.feed g =
        { s.feed g with
          state := .off, enable := false, clamping := false, clampTimer := false, startTimer := none
          settleTimer := none, retryTimer := none } ∧
      ((s.feed g).state ≠ .on → t = (s.acceptFrame p).modFeed g fun _ => t.feed g) ∧
      (∀ h, h ≠ g → ∃ n, t.seg h = { s.seg h with nodes := n }) ∧
      (SegmentLaw s → (∀ h, h ≠ g → t.seg h = s.seg h) ∧ ∀ j, (s.point j).seg ≠ g → t.point j = s.point j) ∧
      (∀ q h, (t.segNoteOf q h).feed = (s.segNoteOf q h).feed) ∧
      (∀ q, t.devNoteOf q = (s.acceptFrame p).devNoteOf q ∧ (t.port q).bare = ((s.acceptFrame p).port q).bare) ∧
      t.trigs = s.trigs ∧ t.supply = s.supply ∧ t.temperature = s.temperature)

/-- Clamps, trips and timers of a feed. CLAMP_BEGIN with the switch closed starts the clamp timer and CLAMP_END stops
it (R134). FEED_TRIP at the trip time, given in ticks (notes/assumptions/17), ends the clamping, stops the clamp, start
and settle timers, counts the trip and makes the feed LATCHED with its flag clear, or TRIPPED with the retry timer
running, with FEED; from STARTING or SETTLING nothing else changes (R135, R142). The start timer leads to SETTLING or,
with a settle time of 0, on to ON; the settle timer to ON; the retry timer to STARTING (R138, R140). ON raises FEED and
brings the link to READY, the re-assert values, a demand entry for each of the first eight points with an urgent pending
value, in ascending index order, and the exit from HALTED (R66, R68, R94, R118, R139). The switch is closed in STARTING,
SETTLING and ON, outside a device reset; the limit in force is then the configured one, doubled in STARTING with double
start limit on (R134, R147). -/
def Obligations.FeedEvents : Prop :=
  (∀ (s : State) (g : Seg),
    s.gate g = true ↔
      s.inReset = false ∧
        ((s.feed g).state = .starting ∨ (s.feed g).state = .settling ∨ (s.feed g).state = .on)) ∧
  (∀ f : Feed,
    f.limitInForce =
      if f.state = .starting ∧ f.cfg.doubleStart = true then some (2 * f.cfg.limit.milliamps)
      else if f.state = .starting ∨ f.state = .settling ∨ f.state = .on then some f.cfg.limit.milliamps
      else none) ∧
  ∀ (s : State) (g : Seg) (e : Env) (ticks : Nat) (low : Bool), s.inReset = false →
    ((s.feed g).state.closed = true → (s.feed g).clamping = false →
      exec (.clampBegin g) s = .next (s.modFeed g fun f => { f with clamping := true, clampTimer := true })) ∧
    (exec (.clampEnd g) s = .next (s.modFeed g fun f => { f with clamping := false, clampTimer := false })) ∧
    ((s.feed g).state.closed = true → (s.feed g).clampTimer = true →
      (if (s.feed g).cfg.fastShort = true ∧ low = true then (s.feed g).cfg.blanking.millis * 10 / 5
        else (s.feed g).cfg.blanking.millis * 10) ≤ ticks →
      ∃ t, exec (.feedTrip g ticks low e) s = .next t ∧
        ((s.feed g).cfg.retry.millis = none →
          t.feed g =
            { s.feed g with
              state := .latched, enable := false, trips := min ((s.feed g).trips + 1) 255, clamping := false
              clampTimer := false, startTimer := none, settleTimer := none, retryTimer := none }) ∧
        (∀ ms, (s.feed g).cfg.retry.millis = some ms →
          t.feed g =
            { s.feed g with
              state := .tripped, trips := min ((s.feed g).trips + 1) 255, clamping := false, clampTimer := false
              startTimer := none, settleTimer := none, retryTimer := some (ms * 1000) }) ∧
        (∀ p, (t.segNoteOf p g).feed = ((s.segNoteOf p g).feed || (s.port p).segMask.getLsbD 0)) ∧
        ((s.feed g).state ≠ .on → t = (s.modFeed g fun _ => t.feed g).raiseSeg g .feed)) ∧
    ((s.feed g).state = .starting → (s.feed g).startTimer ≠ none → (s.feed g).cfg.settle ≠ 0 →
      exec (.startTimerExpiry g e) s =
        .next (s.modFeed g fun f =>
          { f with state := .settling, startTimer := none, settleTimer := some (f.cfg.settle * 1000) })) ∧
    ((s.feed g).state = .tripped → (s.feed g).retryTimer ≠ none →
      exec (.retryTimerExpiry g) s =
        .next (s.modFeed g fun f =>
          { f with
            state := .starting, startTimer := some (f.cfg.blanking.millis * 1000), settleTimer := none
            retryTimer := none })) ∧
    ∀ i : Instr,
      (i = .startTimerExpiry g e ∧ (s.feed g).state = .starting ∧ (s.feed g).startTimer ≠ none ∧
          (s.feed g).cfg.settle = 0) ∨
        (i = .settleTimerExpiry g e ∧ (s.feed g).state = .settling ∧ (s.feed g).settleTimer ≠ none) →
      ∃ t, exec i s = .next t ∧
        t.feed g = { s.feed g with state := .on, startTimer := none, settleTimer := none } ∧
        ((t.link g).state = .ready ∨ ∃ x, (t.link g).state = .busy .sending x) ∧ (t.link g).faults = 0 ∧
        (t.sched g).scan.halted = false ∧
        ((s.sched g).queue = [] →
          (t.sched g).queue.map DemandEntry.point =
            ((List.finRange 256).filter fun j =>
              decide ((s.point j).life = .live ∧ (s.point j).kind = .output ∧ (s.point j).seg = g) &&
                (s.point j).slot.any Slot.urgent).take 8 ∧
          ∀ d ∈ (t.sched g).queue, d.ports = ⟨false, false⟩) ∧
        (∀ p, (t.segNoteOf p g).feed = ((s.segNoteOf p g).feed || (s.port p).segMask.getLsbD 0)) ∧
        ∀ j v, (s.point j).life = .live → (s.point j).kind = .output → (s.point j).seg = g →
          (s.point j).value = some v → (s.point j).slot = none →
          (t.point j).slot = some ⟨v, .reassert, false⟩ ∨ (t.point j).inFlight = some ⟨v, .reassert, false⟩

/-- When a feed leaves ON, by FEED_OFF, by a trip or by the monitor, in whatever order the blocks take their parts
(notes/assumptions/9): every LIVE point of the segment is UNPOWERED with its value, observed value and age kept, and
QUALITY for its subscribers where it changed; the link is OFF with every timer stopped and no fault counted, with LINE
where it was LINE_DOWN and in no other state; the demand queue is empty, with DEMAND ABANDONED for the demanders of the
LIVE points it held; a WAITING, RUNNING, FINISHING or HALTED(LINE) scan is HALTED(POWER) with its cursor at the head,
its timer stopped, its flags clear and its cycle uncounted, a STOPPING one STOPPED, and a STOPPED one stays so; every
referenced node is UNKNOWN; the abandoned WRITE of a LIVE point returns to an empty slot or gives way to a newer value
with SUPERSEDED for its writer, DELAYED goes to the writer of the value that waits at the first failure of a run, and no
other point is told WRITE; a RETIRING target is CLOSED or FREE (R15, R33, R40, R63, R92, R117, R123, R141). The
Scheduler and the Point Table raise their reasons in ascending index order, the exchange in flight among them (R152):
what either appends of points to an empty list stands in that order. The outcome ABANDONED is tallied, and the count of
a RETIRING target's node falls by 1 (R120, R130). -/
def Obligations.FeedLoss : Prop :=
  ∀ (s t : State) (g : Seg) (i : Instr), s.inReset = false → (s.feed g).state = .on →
    ((∃ p tag ps e, i = .feedOff p tag ps e) ∨ (∃ ticks low e, i = .feedTrip g ticks low e) ∨
      (∃ mv e, i = .supplyLevelChange mv e) ∨ ∃ mc e, i = .temperatureLevelChange mc e) →
    exec i s = .next t → (t.feed g).state ≠ .on →
    (∀ j, (s.point j).life = .live → (s.point j).seg = g →
      (t.point j).life = .live ∧ (t.point j).quality = .unpowered ∧ (t.point j).value = (s.point j).value ∧
      (t.point j).observed = (s.point j).observed ∧ (t.point j).age = (s.point j).age) ∧
    t.link g =
      { s.link g with
        state := .off, faults := 0, windowTimer := none, backoffTimer := none, idleTimer := none, gapTimer := none
        recoveryTimer := none } ∧
    (∀ p, (t.segNoteOf p g).line =
      ((s.segNoteOf p g).line || (decide ((s.link g).state = .lineDown) && (s.port p).segMask.getLsbD 3))) ∧
    t.sched g =
      (match (s.sched g).scan with
       | .stopped => { s.sched g with queue := [], backToBack := 0 }
       | .haltedPower => { s.sched g with queue := [], backToBack := 0 }
       | .stopping =>
         { s.sched g with
           scan := .stopped, cursor := none, periodTimer := none, cut := false, deferred := false, queue := []
           backToBack := 0 }
       | _ =>
         { s.sched g with
           scan := .haltedPower, cursor := (s.sched g).list.head?, periodTimer := none, cut := false
           deferred := false, queue := [], backToBack := 0 }) ∧
    (∀ n, (t.node g n).refs ≠ 0 →
      (t.node g n).state = .unknown ∧ (t.node g n).failures = 0 ∧ (t.node g n).probe = false) ∧
    (∀ p j, (s.point j).life = .live → (s.point j).seg = g →
      (t.noteOf p j).quality =
        ((s.noteOf p j).quality ||
          (decide ((s.point j).quality ≠ .unpowered) && ((s.point j).subs.get p).getLsbD 2))) ∧
    (∀ d ∈ (s.sched g).queue, (s.point d.point).life = .live →
      (t.point d.point).demanders = ⟨false, false⟩ ∧
      ∀ p, (s.point d.point).demanders.get p = true → (t.noteOf p d.point).demand = some .abandoned) ∧
    (∀ x f, (s.link g).exchange = some x → x.func = .write → (s.point x.target).life = .live →
      (s.point x.target).inFlight = some f →
      (t.point x.target).inFlight = none ∧ (t.point x.target).slot = some ((s.point x.target).slot.getD f) ∧
      (t.point x.target).failed = min ((s.point x.target).failed + 1) 255 ∧
      ∀ p, (t.noteOf p x.target).write =
        if (s.point x.target).failed = 0 ∧ ((s.point x.target).slot.getD f).writer = .port p then
          some (.delayed, .port p)
        else if (s.point x.target).slot.isSome = true ∧ f.writer = .port p then some (.superseded, .port p)
        else (s.noteOf p x.target).write) ∧
    (SegmentLaw s → ∀ p j, (s.point j).life = .live → (s.point j).seg = g →
      (∀ x, (s.link g).exchange = some x → x.func = .write → x.target ≠ j) →
      (t.noteOf p j).write = (s.noteOf p j).write) ∧
    (∀ x, (s.link g).exchange = some x → (s.point x.target).life = .retiring →
      (t.point x.target).life = .closed ∨ (t.point x.target).life = .free) ∧
    (SegmentLaw s → ∀ n,
      (t.node g n).refs =
          (if (s.link g).exchange.any fun x => decide (x.node = n ∧ (s.point x.target).life = .retiring) then
            (s.node g n).refs - 1
          else (s.node g n).refs) ∧
        ((t.node g n).refs = 0 → (s.node g n).refs ≠ 0 → t.node g n = ⟨.idle, 0, 0, false⟩)) ∧
    (SegmentLaw s → ∀ hit : Tally → Bool,
      (∀ c, hit c = true ↔ c.event = .demandExchanges ∧ ∃ x, (s.link g).exchange = some x ∧ x.kind = .demand ∧
        (c.filter = 0 ∨ c.filter = x.node.val + 1)) →
      (t.seg g).tally0 =
        (if hit (s.seg g).tally0 then { (s.seg g).tally0 with count := (s.seg g).tally0.count + 1 }
        else (s.seg g).tally0) ∧
      (t.seg g).tally1 =
        (if hit (s.seg g).tally1 then { (s.seg g).tally1 with count := (s.seg g).tally1.count + 1 }
        else (s.seg g).tally1)) ∧
    ∀ p, (s.port p).attention = [] →
      ((s.schedLosesFeed g).port p).attention.map Entry.thing =
        ((List.finRange 256).filter fun j =>
          decide (∃ d ∈ (s.sched g).queue, d.point = j) && decide ((s.point j).life = .live) &&
            (s.point j).demanders.get p).map (fun j => .point j (s.point j).generation) ∧
      (((s.pointsLoseFeed g (s.link g).exchange).port p).attention.map Entry.thing).filter
          (fun y => decide (y ≠ .segment g)) =
        ((List.finRange 256).filter fun j =>
          decide ((s.point j).life = .live) &&
              (decide ((s.point j).seg = g) ||
                (s.link g).exchange.any fun x => decide (x.target = j)) &&
              decide ((s.point j).quality ≠ .unpowered) && ((s.point j).subs.get p).getLsbD 2 ||
            decide ((s.point j).life = .retiring) &&
              ((s.link g).exchange.any fun x => decide (x.target = j)) &&
              (decide ((s.point j).subs.get p ≠ 0) || (s.point j).demanders.get p ||
                (s.point j).retireSet.get p)).map (fun j => .point j (s.point j).generation)

/-- SUPPLY_LEVEL_CHANGE and TEMPERATURE_LEVEL_CHANGE move the level that is judged and no other (R145); where no
hold stood before and one does after, every feed with its flag set is FORCED_OFF, and where the hold ends every
FORCED_OFF feed enters STARTING (R146). SUPPLY or THERMAL is raised for both ports, and FEED for each feed forced
off (R142, R145). A judgement that keeps the level finds nothing (notes/assumptions/2).
The thresholds of the field supply and of the die temperature, level by level (Tables 8-4 and 8-5, R145), in mV and
thousandths of a degree (notes/assumptions/16). -/
def Obligations.MonitorLevels : Prop :=
  (∀ (s : State) (i : Instr) (e : Env) (mv : Nat) (mc : Int) (sl : SupplyLevel) (tl : TempLevel), s.inReset = false →
    (i = .supplyLevelChange mv e ∧ sl = s.supply.judge mv ∧ tl = s.temperature ∨
      i = .temperatureLevelChange mc e ∧ sl = s.supply ∧ tl = s.temperature.judge mc) →
    (sl = s.supply → tl = s.temperature → exec i s = .next s) ∧
    (sl ≠ s.supply ∨ tl ≠ s.temperature →
      ∃ t, exec i s = .next t ∧ t.supply = sl ∧ t.temperature = tl ∧
        (∀ g, t.feed g =
          if holds s.supply s.temperature = false ∧ holds sl tl = true ∧ (s.feed g).enable = true ∧
              (s.feed g).state ≠ .forcedOff then
            { s.feed g with
              state := .forcedOff, clamping := false, clampTimer := false, startTimer := none, settleTimer := none
              retryTimer := none }
          else if holds s.supply s.temperature = true ∧ holds sl tl = false ∧ (s.feed g).state = .forcedOff then
            { s.feed g with
              state := .starting, startTimer := some ((s.feed g).cfg.blanking.millis * 1000), settleTimer := none
              retryTimer := none }
          else s.feed g) ∧
        ∀ p,
          t.devNoteOf p =
            (if i = .supplyLevelChange mv e then
              (if (s.port p).devMask.getLsbD 0 = true then s.devNoteOf p ||| 0b00001 else s.devNoteOf p)
            else (if (s.port p).devMask.getLsbD 1 = true then s.devNoteOf p ||| 0b00010 else s.devNoteOf p)) ∧
          ∀ g, (t.segNoteOf p g).feed =
            ((s.segNoteOf p g).feed ||
              (decide (holds s.supply s.temperature = false ∧ holds sl tl = true ∧ (s.feed g).enable = true ∧
                (s.feed g).state ≠ .forcedOff) && (s.port p).segMask.getLsbD 0)))) ∧
  ((∀ mv : Nat,
    SupplyLevel.normal.judge mv = (if mv < 14000 then .under else if mv < 18000 then .low else .normal) ∧
    SupplyLevel.low.judge mv = (if mv < 14000 then .under else if mv < 19000 then .low else .normal) ∧
    SupplyLevel.under.judge mv = (if mv < 15000 then .under else if mv < 19000 then .low else .normal)) ∧
  ∀ mc : Int,
    TempLevel.normal.judge mc = (if mc ≤ 130000 then .normal else if mc ≤ 150000 then .warn else .shutdown) ∧
    TempLevel.warn.judge mc = (if mc ≤ 115000 then .normal else if mc ≤ 150000 then .warn else .shutdown) ∧
    TempLevel.shutdown.judge mc = (if mc ≤ 115000 then .normal else if mc ≤ 130000 then .warn else .shutdown))

/-! ### Notices and ticks -/

/-- SUBSCRIBE and UNSUBSCRIBE replace the calling port's mask on the point and answer the old one; they are refused
for their parameters, the handle and, of SUBSCRIBE alone, the right to READ (R149, R150);
SET_NOTICE_MASK replaces the port's masks and line enable and answers the old ones, and is refused for bits
outside its table (R157). -/
def Obligations.SubscriptionsAndMasks : Prop :=
  ∀ (s : State) (p : Port) (tag : Byte) (ps : List Byte), Takes s p ps →
    (ps.length ≠ 3 ∨ arg ps 2 = 0 ∨ 15 < arg ps 2 →
      exec (.subscribe p tag ps) s = .next (s.answered (s.acceptFrame p) p 0x60 tag ps .badParameter [])) ∧
    (ps.length ≠ 2 →
      exec (.unsubscribe p tag ps) s = .next (s.answered (s.acceptFrame p) p 0x61 tag ps .badParameter [])) ∧
    (s.handleOk (argHandle ps 0) = false →
      (ps.length = 3 → 1 ≤ arg ps 2 → arg ps 2 ≤ 15 →
        exec (.subscribe p tag ps) s = .next (s.answered (s.acceptFrame p) p 0x60 tag ps .staleHandle [])) ∧
      (ps.length = 2 →
        exec (.unsubscribe p tag ps) s = .next (s.answered (s.acceptFrame p) p 0x61 tag ps .staleHandle []))) ∧
    (∀ i, s.handleOk (argHandle ps 0) = true → i = (argHandle ps 0).idx →
      (ps.length = 3 → 1 ≤ arg ps 2 → arg ps 2 ≤ 15 → s.hasGroup p .read (s.point i).group = false →
        exec (.subscribe p tag ps) s = .next (s.answered (s.acceptFrame p) p 0x60 tag ps .noRight [])) ∧
      (ps.length = 3 → 1 ≤ arg ps 2 → arg ps 2 ≤ 15 → s.hasGroup p .read (s.point i).group = true →
        exec (.subscribe p tag ps) s =
          .next (s.answered
            ((s.acceptFrame p).modPoint i fun t => { t with subs := t.subs.set p (BitVec.ofNat 4 (arg ps 2)) })
            p 0x60 tag ps .ok [((s.point i).subs.get p).setWidth 8])) ∧
      (ps.length = 2 →
        exec (.unsubscribe p tag ps) s =
          .next (s.answered ((s.acceptFrame p).modPoint i fun t => { t with subs := t.subs.set p 0 })
            p 0x61 tag ps .ok [((s.point i).subs.get p).setWidth 8]))) ∧
    (ps.length ≠ 3 ∨ 63 < arg ps 0 ∨ 31 < arg ps 1 ∨ 1 < arg ps 2 →
      exec (.setNoticeMask p tag ps) s = .next (s.answered (s.acceptFrame p) p 0x63 tag ps .badParameter [])) ∧
    (ps.length = 3 → arg ps 0 ≤ 63 → arg ps 1 ≤ 31 → arg ps 2 ≤ 1 →
      exec (.setNoticeMask p tag ps) s =
        .next (s.answered
          ((s.acceptFrame p).modPort p fun u =>
            { u with
              segMask := BitVec.ofNat 6 (arg ps 0)
              devMask := BitVec.ofNat 5 (arg ps 1)
              lineEnable := decide (arg ps 2 = 1) })
          p 0x63 tag ps .ok
          [(s.port p).segMask.setWidth 8, (s.port p).devMask.setWidth 8, if (s.port p).lineEnable then 1 else 0]))

/-- TAKE_ATTENTION removes the head entry of the port's list and answers the bytes of Table 9-1: its kind, what
remains, its contents and the snapshot; a CLOSED point that no list names any more becomes FREE; an empty list is
NOTHING_PENDING (R17, R158, R159). -/
def Obligations.TakeAttention : Prop :=
  ∀ (s : State) (p : Port) (tag : Byte) (x : Entry) (rest : List Entry) (t : State), s.hears p = true →
    t = ((s.acceptFrame p).modPort p fun u => { u with attention := rest }) →
    ((s.port p).attention = [] →
      exec (.takeAttention p tag []) s = .next (s.answered (s.acceptFrame p) p 0x62 tag [] .nothingPending [])) ∧
    ((s.port p).attention = x :: rest →
      ∃ u data, exec (.takeAttention p tag []) s = .next (s.answered u p 0x62 tag [] .ok data) ∧
        (∀ i gen n r, x = .point i gen n → r = s.point i →
          data.length = 41 ∧
          data =
            0 :: le2 rest.length ++
              [byteOf i.val, gen,
                byteOf ((if n.changes ≠ 0 then 1 else 0) + (if n.limits ≠ 0 then 2 else 0) +
                  (if n.quality then 4 else 0) + (if n.write.isSome then 8 else 0) +
                  (if n.demand.isSome then 16 else 0) + (if n.retired then 32 else 0)),
                byteOf n.changes, byteOf n.limits] ++
              (match n.write with
               | none => [0xFF, 0xFF]
               | some (w, by_) => [byteOf w.code, byteOf by_.code]) ++
              [match n.demand with
               | none => (0xFF : Byte)
               | some o => byteOf o.code] ++
              [match r.life with
               | .live => (0 : Byte)
               | .retiring => 1
               | .closed => 2
               | .free => 3] ++
              [if r.kind = .output then 1 else 0, byteOf r.seg.code, byteOf (r.node.val + 1)] ++ le2 r.object.val ++
              [byteOf r.width.bytes, if r.signed then 1 else 0, byteOf r.group.val, if r.owner = .b then 1 else 0,
                byteOf r.quality.code] ++
              le2 r.age ++
              [byteOf ((if r.value.isSome then 1 else 0) + (if r.observed.isSome then 2 else 0) +
                (if r.band.isSome then 4 else 0) + (if r.slot.isSome then 8 else 0) +
                (if r.inFlight.isSome then 16 else 0))] ++
              le4 (r.value.getD 0) ++ le4 (r.observed.getD 0) ++
              [match r.band with
               | none => (0 : Byte)
               | some b => byteOf b.state.code] ++
              [byteOf ((if r.slot.isSome then 1 else 0) + (if r.inFlight.isSome then 2 else 0))] ++
              (match r.slot with
               | none => 0xFF :: le4 0
               | some f => byteOf f.writer.code :: le4 f.value) ++
              [byteOf r.failed] ∧
          u = (if r.life = .closed ∧ t.named .a i = false ∧ t.named .b i = false then
            t.setPoint i (Point.cleared (r.generation + 1)) else t)) ∧
        (∀ g n, x = .segment g n →
          data =
            1 :: le2 rest.length ++
              [byteOf g.code,
                byteOf ((if n.feed then 1 else 0) + (if n.scanEnded then 2 else 0) +
                  (if n.overruns ≠ 0 then 4 else 0) + (if n.line then 8 else 0) + (if n.nodes ≠ 0 then 16 else 0) +
                  (if n.wrap0 ∨ n.wrap1 then 32 else 0)),
                byteOf n.overruns, byteOf ((if n.wrap0 then 1 else 0) + (if n.wrap1 then 2 else 0))] ++
              le4 n.nodes.toNat ++
              [byteOf (s.feed g).state.code, byteOf (s.sched g).scan.code, byteOf (s.link g).state.code,
                byteOf (s.sched g).cyclesEnded, byteOf (s.sched g).overruns, byteOf (s.feed g).trips] ∧
          data.length = 17 ∧ u = t) ∧
        ∀ n, x = .device n →
          data =
            2 :: le2 rest.length ++
              [n.setWidth 8, byteOf s.supply.code, byteOf s.temperature.code,
                if (s.port p.other).lapsed then 1 else 0, byteOf (s.port p.other).supPeriod] ∧
          data.length = 8 ∧ u = t)

/-- A reason that arrives for a port is merged into the entry of its thing, which keeps its place, or into a new
entry at the tail; segment and device reasons arrive only through the port's masks; nothing else changes
(R152, R154 to R156). What each reason adds to an entry: CHANGE and LIMIT count up to 15, WRITE and DEMAND leave the
last result, OVERRUN counts up to 255, NODE adds the address and TALLY the counter to its set, the others stand in the
entry (R154, R156). The bits of the segment and the device mask are those of R157. -/
def Obligations.MergedReasons : Prop :=
  (∀ (s : State) (i : PointIdx) (r : PointReason) (dst : PortSet),
    (dst = ⟨false, false⟩ → s.raisePoint i r dst = s) ∧
    (dst = ⟨true, false⟩ → s.raisePoint i r dst = s.notePoint .a i r) ∧
    (dst = ⟨false, true⟩ → s.raisePoint i r dst = s.notePoint .b i r) ∧
    (dst = ⟨true, true⟩ → s.raisePoint i r dst = (s.notePoint .a i r).notePoint .b i r) ∧
    ∀ k, (s.point i).subscribers k = ⟨(s.point i).subs.a.getLsbD k, (s.point i).subs.b.getLsbD k⟩) ∧
  (∀ (s : State) (g : Seg) (r : SegReason), s.raiseSeg g r = (s.noteSeg .a g r).noteSeg .b g r) ∧
  ∀ (s : State) (p : Port),
    (∀ i r,
      ((∀ n, Entry.point i (s.point i).generation n ∉ (s.port p).attention) →
        s.notePoint p i r = s.modPort p fun u =>
          { u with
            attention := u.attention ++
              [.point i (s.point i).generation ((⟨0, 0, false, none, none, false⟩ : PointNote).add r)] }) ∧
      ∀ n l m, (s.port p).attention = l ++ Entry.point i (s.point i).generation n :: m →
        (∀ k, Entry.point i (s.point i).generation k ∉ l) →
        s.notePoint p i r = s.modPort p fun u =>
          { u with attention := l ++ Entry.point i (s.point i).generation (n.add r) :: m }) ∧
    (∀ g r, (s.port p).segMask.getLsbD r.bit = false → s.noteSeg p g r = s) ∧
    (∀ g r, (s.port p).segMask.getLsbD r.bit = true →
      ((∀ n, Entry.segment g n ∉ (s.port p).attention) →
        s.noteSeg p g r = s.modPort p fun u =>
          { u with
            attention := u.attention ++
              [.segment g ((⟨false, false, 0, false, 0, false, false⟩ : SegNote).add r)] }) ∧
      ∀ n l m, (s.port p).attention = l ++ Entry.segment g n :: m → (∀ k, Entry.segment g k ∉ l) →
        s.noteSeg p g r = s.modPort p fun u => { u with attention := l ++ Entry.segment g (n.add r) :: m }) ∧
    (∀ r, (s.port p).devMask.getLsbD r.bit = false → s.raiseDev p r = s) ∧
    (∀ r, (s.port p).devMask.getLsbD r.bit = true →
      ((∀ n, Entry.device n ∉ (s.port p).attention) →
        s.raiseDev p r = s.modPort p fun u =>
          { u with attention := u.attention ++ [.device (BitVec.twoPow 5 r.bit)] }) ∧
      ∀ n l m, (s.port p).attention = l ++ Entry.device n :: m → (∀ k, Entry.device k ∉ l) →
        s.raiseDev p r = s.modPort p fun u =>
          { u with attention := l ++ Entry.device (n ||| BitVec.twoPow 5 r.bit) :: m }) ∧
    (∀ n : PointNote,
      n.add .change = { n with changes := min (n.changes + 1) 15 } ∧
      n.add .limit = { n with limits := min (n.limits + 1) 15 } ∧
      n.add .quality = { n with quality := true } ∧ (∀ r w, n.add (.write r w) = { n with write := some (r, w) }) ∧
      (∀ o, n.add (.demand o) = { n with demand := some o }) ∧ n.add .retired = { n with retired := true }) ∧
    (∀ n : SegNote,
      n.add .feed = { n with feed := true } ∧ n.add .scanEnded = { n with scanEnded := true } ∧
      n.add .overrun = { n with overruns := min (n.overruns + 1) 255 } ∧ n.add .line = { n with line := true } ∧
      (∀ k, n.add (.node k) = { n with nodes := n.nodes ||| BitVec.twoPow 30 k.val }) ∧
      n.add (.tally false) = { n with wrap0 := true } ∧ n.add (.tally true) = { n with wrap1 := true }) ∧
    [SegReason.feed, .scanEnded, .overrun, .line, .node 0, .tally false].map SegReason.bit = [0, 1, 2, 3, 4, 5] ∧
    (∀ k, (SegReason.node k).bit = 4) ∧ (∀ w, (SegReason.tally w).bit = 5) ∧
    [DevReason.supply, .thermal, .peerLapsed, .peerResumed, .rightsChanged].map DevReason.bit = [0, 1, 2, 3, 4]

/-- AGE_TICK raises by 1, up to 65535, the age of every LIVE point that has a value and no other, and counts the
running supervision timers up to their periods (R35, R169; the counting is the model's, notes/assumptions/29).
STALE_EXPIRY makes a GOOD LIVE point whose age has reached its non-zero limit STALE, with QUALITY (R35, R36); where it
is not due it changes nothing, which is the model's deduction (notes/assumptions/2). -/
def Obligations.TicksAndStaleness : Prop :=
  ∀ s : State, s.inReset = false →
    (∃ t, exec .ageTick s = .next t ∧
      (∀ i, t.point i =
        if (s.point i).life = .live ∧ (s.point i).value ≠ none then
          { s.point i with age := min ((s.point i).age + 1) 65535 }
        else s.point i) ∧
      (∀ p, t.port p =
        { s.port p with supTimer := (s.port p).supTimer.map fun n => min (n + 1) (s.port p).supPeriod }) ∧
      t.segs = s.segs ∧ t.trigs = s.trigs ∧ t.supply = s.supply ∧ t.temperature = s.temperature ∧
      t.pending = s.pending ∧ t.inReset = s.inReset) ∧
    ∀ i,
      ((s.point i).life = .live ∧ (s.point i).quality = .good ∧ (s.point i).staleLimit ≠ 0 ∧
          (s.point i).staleLimit ≤ (s.point i).age →
        exec (.staleExpiry i) s =
          .next ((s.modPoint i fun t => { t with quality := .stale }).raisePoint i .quality
            ((s.point i).subscribers 2))) ∧
      (¬((s.point i).life = .live ∧ (s.point i).quality = .good ∧ (s.point i).staleLimit ≠ 0 ∧
          (s.point i).staleLimit ≤ (s.point i).age) →
        exec (.staleExpiry i) s = .next s)

/-! ### Independence and invariants -/

/-- An event of one segment leaves the feeds, Schedulers, links and tallies of the other segments, the trigger
inputs, the monitor and all of the ports but their attention lists as they were. Where lists, queues and exchanges name
points of their own segment, as the invariants ScanListsSound and SegmentLaw say, it leaves the other segments whole,
their node records among them, and every record of a point that is not of its segment. -/
def Obligations.SegmentIndependence : Prop :=
  ∀ (s t : State) (g : Seg) (e : Env) (frame : List RxChar) (ticks : Nat) (low : Bool) (i : Instr),
    i ∈ [.periodBoundary g e, .deferredStart g e, .requestSent g, .responseStartBit g, .responseWindowExpiry g e,
        .responseFrameEnd g frame e, .tenthCharacter g e, .backoffExpiry g e, .idleWaitLineIdle g,
        .idleWaitExpiry g, .transmitterCurrentLimit g, .gapEnd g e, .recoveryExpiry g e, .recoveryLineIdle g,
        .clampBegin g, .clampEnd g, .feedTrip g ticks low e, .startTimerExpiry g e, .settleTimerExpiry g e,
        .retryTimerExpiry g] →
    exec i s = .next t →
    (∀ h, h ≠ g →
      t.feed h = s.feed h ∧ t.sched h = s.sched h ∧ t.link h = s.link h ∧ (t.seg h).tally0 = (s.seg h).tally0 ∧
      (t.seg h).tally1 = (s.seg h).tally1) ∧
    t.trigs = s.trigs ∧ t.supply = s.supply ∧ t.temperature = s.temperature ∧ t.pending = s.pending ∧
    t.inReset = s.inReset ∧ (∀ p, (t.port p).bare = (s.port p).bare) ∧
    (ScanListsSound s → SegmentLaw s →
      (∀ h, h ≠ g → t.seg h = s.seg h) ∧ ∀ j, (s.point j).seg ≠ g → t.point j = s.point j)

/-- At least one port holds the device right RIGHTS, whatever commands and events come (R166, R167). -/
def Obligations.RightsKept : Prop := ∀ s t : State, RightsHeld s → step s = .next t → RightsHeld t

/-- Each attention list holds at most one entry for each use of a point, each segment and the device (R152). -/
def Obligations.ListsKeptMerged : Prop := ∀ s t : State, ListsMerged s → step s = .next t → ListsMerged t

/-- The demand queues hold at most 8 entries (R95), and the Scheduler's counts stay in their ranges (R73). Each node
record counts the LIVE and RETIRING points of its address and is IDLE exactly when there is none, so an exchange's
outcome finds its node counted (R120). -/
def Obligations.QueuesAndCountsKept : Prop :=
  (∀ s t : State, QueuesFit s → step s = .next t → QueuesFit t) ∧
  (∀ s t : State, SchedCounts s → step s = .next t → SchedCounts t) ∧
  (∀ s t : State, ScanListsSound s → NodeCounts s → step s = .next t → NodeCounts t) ∧
  ∀ (s : State) (g : Seg) (x : Exchange), SegmentLaw s → NodeCounts s → (s.link g).exchange = some x →
    1 ≤ (s.node g x.node).refs ∧ (s.node g x.node).state ≠ .idle

/-- While a segment's feed is not ON, its link is OFF, its demand queue is empty and its scan is STOPPED,
STOPPING or HALTED (R92, but for the qualities of its points). -/
def Obligations.UnpoweredStaysQuiet : Prop := ∀ s t : State, UnpoweredQuiet s → step s = .next t → UnpoweredQuiet t

/-- Each scan list holds the LIVE points of its segment, each exactly once, and no other, and its cursor stands on
one of them or at END, whatever comes (R74, R75). -/
def Obligations.ScanListsKept : Prop := ∀ s t : State, ScanListsSound s → step s = .next t → ScanListsSound t

/-- The law of R92 and what it rests on: the demand queues name distinct LIVE points of their segments (R95), the
exchange in flight serves a LIVE or RETIRING point of its segment and is addressed to its node (R14, R107), and while
a feed is not ON the link is OFF, the queue empty, the scan STOPPED, STOPPING or HALTED, and every LIVE point of the
segment UNPOWERED. -/
def Obligations.SegmentLawKept : Prop :=
  ∀ s t : State, ScanListsSound s → SegmentLaw s → step s = .next t → SegmentLaw t

/-- The invariants hold after a device reset. -/
def Obligations.InvariantsAtReset : Prop :=
  RightsHeld State.reset ∧ ListsMerged State.reset ∧ QueuesFit State.reset ∧ SchedCounts State.reset ∧
    UnpoweredQuiet State.reset ∧ ScanListsSound State.reset ∧ SegmentLaw State.reset ∧ NodeCounts State.reset

end
end

