-- ==== Sys2Proof/Laws/State.lean ====
section
/-! SUPPORT. One lemma per field and update of State, so that no later proof unfolds a record update. -/

namespace Sys2Proof

/-! ### Reading after writing -/

@[simp] theorem PerPort.get_set_same {α : Type} (v : PerPort α) (p : Port) (x : α) : (v.set p x).get p = x := by
  cases p <;> rfl

theorem PerPort.get_set_ne {α : Type} (v : PerPort α) {p q : Port} (x : α) (h : q ≠ p) :
    (v.set p x).get q = v.get q := by
  cases p <;> cases q <;> first | rfl | exact absurd rfl h

theorem PerPort.get_set {α : Type} (v : PerPort α) (p q : Port) (x : α) :
    (v.set p x).get q = if q = p then x else v.get q := by
  cases p <;> cases q <;> rfl

@[simp] theorem PerSeg.get_set_same {α : Type} (v : PerSeg α) (g : Seg) (x : α) : (v.set g x).get g = x := by
  cases g <;> rfl

theorem PerSeg.get_set_ne {α : Type} (v : PerSeg α) {g h : Seg} (x : α) (n : h ≠ g) :
    (v.set g x).get h = v.get h := by
  cases g <;> cases h <;> first | rfl | exact absurd rfl n

theorem PerSeg.get_set {α : Type} (v : PerSeg α) (g h : Seg) (x : α) :
    (v.set g x).get h = if h = g then x else v.get h := by
  cases g <;> cases h <;> rfl

@[simp] theorem PerTrg.get_set_same {α : Type} (v : PerTrg α) (t : Trg) (x : α) : (v.set t x).get t = x := by
  cases t <;> rfl

theorem PerPort.ext_get {α : Type} {v w : PerPort α} (h : ∀ p, v.get p = w.get p) : v = w := by
  have ha := h .a
  have hb := h .b
  cases v
  cases w
  simp only [PerPort.get] at ha hb
  simp [ha, hb]

theorem PerSeg.ext_get {α : Type} {v w : PerSeg α} (h : ∀ g, v.get g = w.get g) : v = w := by
  have h0 := h .s0
  have h1 := h .s1
  have h2 := h .s2
  have h3 := h .s3
  cases v
  cases w
  simp only [PerSeg.get] at h0 h1 h2 h3
  simp [h0, h1, h2, h3]

@[simp] theorem Port.other_ne (p : Port) : p.other ≠ p := by cases p <;> decide

@[simp] theorem Port.ne_other (p : Port) : p ≠ p.other := by cases p <;> decide

namespace Machine

/-! #### State.setPoint -/

@[simp] theorem pending_setPoint (s : State) (i : PointIdx) (t : Point) : (s.setPoint i t).pending = s.pending := rfl
@[simp] theorem inReset_setPoint (s : State) (i : PointIdx) (t : Point) : (s.setPoint i t).inReset = s.inReset := rfl
@[simp] theorem segs_setPoint (s : State) (i : PointIdx) (t : Point) : (s.setPoint i t).segs = s.segs := rfl
@[simp] theorem ports_setPoint (s : State) (i : PointIdx) (t : Point) : (s.setPoint i t).ports = s.ports := rfl
@[simp] theorem trigs_setPoint (s : State) (i : PointIdx) (t : Point) : (s.setPoint i t).trigs = s.trigs := rfl
@[simp] theorem supply_setPoint (s : State) (i : PointIdx) (t : Point) : (s.setPoint i t).supply = s.supply := rfl
@[simp] theorem temperature_setPoint (s : State) (i : PointIdx) (t : Point) : (s.setPoint i t).temperature = s.temperature := rfl
@[simp] theorem port_setPoint (s : State) (i : PointIdx) (t : Point) (q : Port) : (s.setPoint i t).port q = s.port q := rfl
@[simp] theorem seg_setPoint (s : State) (i : PointIdx) (t : Point) (h : Seg) : (s.setPoint i t).seg h = s.seg h := rfl
@[simp] theorem sched_setPoint (s : State) (i : PointIdx) (t : Point) (h : Seg) : (s.setPoint i t).sched h = s.sched h := rfl
@[simp] theorem link_setPoint (s : State) (i : PointIdx) (t : Point) (h : Seg) : (s.setPoint i t).link h = s.link h := rfl
@[simp] theorem feed_setPoint (s : State) (i : PointIdx) (t : Point) (h : Seg) : (s.setPoint i t).feed h = s.feed h := rfl
@[simp] theorem node_setPoint (s : State) (i : PointIdx) (t : Point) (h : Seg) (m : NodeIdx) : (s.setPoint i t).node h m = s.node h m := rfl

/-! #### State.modPoint -/

@[simp] theorem pending_modPoint (s : State) (i : PointIdx) (f : Point → Point) : (s.modPoint i f).pending = s.pending := rfl
@[simp] theorem inReset_modPoint (s : State) (i : PointIdx) (f : Point → Point) : (s.modPoint i f).inReset = s.inReset := rfl
@[simp] theorem segs_modPoint (s : State) (i : PointIdx) (f : Point → Point) : (s.modPoint i f).segs = s.segs := rfl
@[simp] theorem ports_modPoint (s : State) (i : PointIdx) (f : Point → Point) : (s.modPoint i f).ports = s.ports := rfl
@[simp] theorem trigs_modPoint (s : State) (i : PointIdx) (f : Point → Point) : (s.modPoint i f).trigs = s.trigs := rfl
@[simp] theorem supply_modPoint (s : State) (i : PointIdx) (f : Point → Point) : (s.modPoint i f).supply = s.supply := rfl
@[simp] theorem temperature_modPoint (s : State) (i : PointIdx) (f : Point → Point) : (s.modPoint i f).temperature = s.temperature := rfl
@[simp] theorem port_modPoint (s : State) (i : PointIdx) (f : Point → Point) (q : Port) : (s.modPoint i f).port q = s.port q := rfl
@[simp] theorem seg_modPoint (s : State) (i : PointIdx) (f : Point → Point) (h : Seg) : (s.modPoint i f).seg h = s.seg h := rfl
@[simp] theorem sched_modPoint (s : State) (i : PointIdx) (f : Point → Point) (h : Seg) : (s.modPoint i f).sched h = s.sched h := rfl
@[simp] theorem link_modPoint (s : State) (i : PointIdx) (f : Point → Point) (h : Seg) : (s.modPoint i f).link h = s.link h := rfl
@[simp] theorem feed_modPoint (s : State) (i : PointIdx) (f : Point → Point) (h : Seg) : (s.modPoint i f).feed h = s.feed h := rfl
@[simp] theorem node_modPoint (s : State) (i : PointIdx) (f : Point → Point) (h : Seg) (m : NodeIdx) : (s.modPoint i f).node h m = s.node h m := rfl

/-! #### State.mapPoints -/

@[simp] theorem pending_mapPoints (s : State) (f : Point → Point) : (s.mapPoints f).pending = s.pending := rfl
@[simp] theorem inReset_mapPoints (s : State) (f : Point → Point) : (s.mapPoints f).inReset = s.inReset := rfl
@[simp] theorem segs_mapPoints (s : State) (f : Point → Point) : (s.mapPoints f).segs = s.segs := rfl
@[simp] theorem ports_mapPoints (s : State) (f : Point → Point) : (s.mapPoints f).ports = s.ports := rfl
@[simp] theorem trigs_mapPoints (s : State) (f : Point → Point) : (s.mapPoints f).trigs = s.trigs := rfl
@[simp] theorem supply_mapPoints (s : State) (f : Point → Point) : (s.mapPoints f).supply = s.supply := rfl
@[simp] theorem temperature_mapPoints (s : State) (f : Point → Point) : (s.mapPoints f).temperature = s.temperature := rfl
@[simp] theorem port_mapPoints (s : State) (f : Point → Point) (q : Port) : (s.mapPoints f).port q = s.port q := rfl
@[simp] theorem seg_mapPoints (s : State) (f : Point → Point) (h : Seg) : (s.mapPoints f).seg h = s.seg h := rfl
@[simp] theorem sched_mapPoints (s : State) (f : Point → Point) (h : Seg) : (s.mapPoints f).sched h = s.sched h := rfl
@[simp] theorem link_mapPoints (s : State) (f : Point → Point) (h : Seg) : (s.mapPoints f).link h = s.link h := rfl
@[simp] theorem feed_mapPoints (s : State) (f : Point → Point) (h : Seg) : (s.mapPoints f).feed h = s.feed h := rfl
@[simp] theorem node_mapPoints (s : State) (f : Point → Point) (h : Seg) (m : NodeIdx) : (s.mapPoints f).node h m = s.node h m := rfl

/-! #### State.modSeg -/

@[simp] theorem pending_modSeg (s : State) (g : Seg) (f : Segment → Segment) : (s.modSeg g f).pending = s.pending := rfl
@[simp] theorem inReset_modSeg (s : State) (g : Seg) (f : Segment → Segment) : (s.modSeg g f).inReset = s.inReset := rfl
@[simp] theorem points_modSeg (s : State) (g : Seg) (f : Segment → Segment) : (s.modSeg g f).points = s.points := rfl
@[simp] theorem ports_modSeg (s : State) (g : Seg) (f : Segment → Segment) : (s.modSeg g f).ports = s.ports := rfl
@[simp] theorem trigs_modSeg (s : State) (g : Seg) (f : Segment → Segment) : (s.modSeg g f).trigs = s.trigs := rfl
@[simp] theorem supply_modSeg (s : State) (g : Seg) (f : Segment → Segment) : (s.modSeg g f).supply = s.supply := rfl
@[simp] theorem temperature_modSeg (s : State) (g : Seg) (f : Segment → Segment) : (s.modSeg g f).temperature = s.temperature := rfl
@[simp] theorem point_modSeg (s : State) (g : Seg) (f : Segment → Segment) (j : PointIdx) : (s.modSeg g f).point j = s.point j := rfl
@[simp] theorem port_modSeg (s : State) (g : Seg) (f : Segment → Segment) (q : Port) : (s.modSeg g f).port q = s.port q := rfl

/-! #### State.modSched -/

@[simp] theorem pending_modSched (s : State) (g : Seg) (f : Scheduler → Scheduler) : (s.modSched g f).pending = s.pending := rfl
@[simp] theorem inReset_modSched (s : State) (g : Seg) (f : Scheduler → Scheduler) : (s.modSched g f).inReset = s.inReset := rfl
@[simp] theorem points_modSched (s : State) (g : Seg) (f : Scheduler → Scheduler) : (s.modSched g f).points = s.points := rfl
@[simp] theorem ports_modSched (s : State) (g : Seg) (f : Scheduler → Scheduler) : (s.modSched g f).ports = s.ports := rfl
@[simp] theorem trigs_modSched (s : State) (g : Seg) (f : Scheduler → Scheduler) : (s.modSched g f).trigs = s.trigs := rfl
@[simp] theorem supply_modSched (s : State) (g : Seg) (f : Scheduler → Scheduler) : (s.modSched g f).supply = s.supply := rfl
@[simp] theorem temperature_modSched (s : State) (g : Seg) (f : Scheduler → Scheduler) : (s.modSched g f).temperature = s.temperature := rfl
@[simp] theorem point_modSched (s : State) (g : Seg) (f : Scheduler → Scheduler) (j : PointIdx) : (s.modSched g f).point j = s.point j := rfl
@[simp] theorem port_modSched (s : State) (g : Seg) (f : Scheduler → Scheduler) (q : Port) : (s.modSched g f).port q = s.port q := rfl

/-! #### State.modLink -/

@[simp] theorem pending_modLink (s : State) (g : Seg) (f : Link → Link) : (s.modLink g f).pending = s.pending := rfl
@[simp] theorem inReset_modLink (s : State) (g : Seg) (f : Link → Link) : (s.modLink g f).inReset = s.inReset := rfl
@[simp] theorem points_modLink (s : State) (g : Seg) (f : Link → Link) : (s.modLink g f).points = s.points := rfl
@[simp] theorem ports_modLink (s : State) (g : Seg) (f : Link → Link) : (s.modLink g f).ports = s.ports := rfl
@[simp] theorem trigs_modLink (s : State) (g : Seg) (f : Link → Link) : (s.modLink g f).trigs = s.trigs := rfl
@[simp] theorem supply_modLink (s : State) (g : Seg) (f : Link → Link) : (s.modLink g f).supply = s.supply := rfl
@[simp] theorem temperature_modLink (s : State) (g : Seg) (f : Link → Link) : (s.modLink g f).temperature = s.temperature := rfl
@[simp] theorem point_modLink (s : State) (g : Seg) (f : Link → Link) (j : PointIdx) : (s.modLink g f).point j = s.point j := rfl
@[simp] theorem port_modLink (s : State) (g : Seg) (f : Link → Link) (q : Port) : (s.modLink g f).port q = s.port q := rfl

/-! #### State.modFeed -/

@[simp] theorem pending_modFeed (s : State) (g : Seg) (f : Feed → Feed) : (s.modFeed g f).pending = s.pending := rfl
@[simp] theorem inReset_modFeed (s : State) (g : Seg) (f : Feed → Feed) : (s.modFeed g f).inReset = s.inReset := rfl
@[simp] theorem points_modFeed (s : State) (g : Seg) (f : Feed → Feed) : (s.modFeed g f).points = s.points := rfl
@[simp] theorem ports_modFeed (s : State) (g : Seg) (f : Feed → Feed) : (s.modFeed g f).ports = s.ports := rfl
@[simp] theorem trigs_modFeed (s : State) (g : Seg) (f : Feed → Feed) : (s.modFeed g f).trigs = s.trigs := rfl
@[simp] theorem supply_modFeed (s : State) (g : Seg) (f : Feed → Feed) : (s.modFeed g f).supply = s.supply := rfl
@[simp] theorem temperature_modFeed (s : State) (g : Seg) (f : Feed → Feed) : (s.modFeed g f).temperature = s.temperature := rfl
@[simp] theorem point_modFeed (s : State) (g : Seg) (f : Feed → Feed) (j : PointIdx) : (s.modFeed g f).point j = s.point j := rfl
@[simp] theorem port_modFeed (s : State) (g : Seg) (f : Feed → Feed) (q : Port) : (s.modFeed g f).port q = s.port q := rfl

/-! #### State.modNode -/

@[simp] theorem pending_modNode (s : State) (g : Seg) (n : NodeIdx) (f : NodeRec → NodeRec) : (s.modNode g n f).pending = s.pending := rfl
@[simp] theorem inReset_modNode (s : State) (g : Seg) (n : NodeIdx) (f : NodeRec → NodeRec) : (s.modNode g n f).inReset = s.inReset := rfl
@[simp] theorem points_modNode (s : State) (g : Seg) (n : NodeIdx) (f : NodeRec → NodeRec) : (s.modNode g n f).points = s.points := rfl
@[simp] theorem ports_modNode (s : State) (g : Seg) (n : NodeIdx) (f : NodeRec → NodeRec) : (s.modNode g n f).ports = s.ports := rfl
@[simp] theorem trigs_modNode (s : State) (g : Seg) (n : NodeIdx) (f : NodeRec → NodeRec) : (s.modNode g n f).trigs = s.trigs := rfl
@[simp] theorem supply_modNode (s : State) (g : Seg) (n : NodeIdx) (f : NodeRec → NodeRec) : (s.modNode g n f).supply = s.supply := rfl
@[simp] theorem temperature_modNode (s : State) (g : Seg) (n : NodeIdx) (f : NodeRec → NodeRec) : (s.modNode g n f).temperature = s.temperature := rfl
@[simp] theorem point_modNode (s : State) (g : Seg) (n : NodeIdx) (f : NodeRec → NodeRec) (j : PointIdx) : (s.modNode g n f).point j = s.point j := rfl
@[simp] theorem port_modNode (s : State) (g : Seg) (n : NodeIdx) (f : NodeRec → NodeRec) (q : Port) : (s.modNode g n f).port q = s.port q := rfl

/-! #### State.mapNodes -/

@[simp] theorem pending_mapNodes (s : State) (g : Seg) (f : NodeRec → NodeRec) : (s.mapNodes g f).pending = s.pending := rfl
@[simp] theorem inReset_mapNodes (s : State) (g : Seg) (f : NodeRec → NodeRec) : (s.mapNodes g f).inReset = s.inReset := rfl
@[simp] theorem points_mapNodes (s : State) (g : Seg) (f : NodeRec → NodeRec) : (s.mapNodes g f).points = s.points := rfl
@[simp] theorem ports_mapNodes (s : State) (g : Seg) (f : NodeRec → NodeRec) : (s.mapNodes g f).ports = s.ports := rfl
@[simp] theorem trigs_mapNodes (s : State) (g : Seg) (f : NodeRec → NodeRec) : (s.mapNodes g f).trigs = s.trigs := rfl
@[simp] theorem supply_mapNodes (s : State) (g : Seg) (f : NodeRec → NodeRec) : (s.mapNodes g f).supply = s.supply := rfl
@[simp] theorem temperature_mapNodes (s : State) (g : Seg) (f : NodeRec → NodeRec) : (s.mapNodes g f).temperature = s.temperature := rfl
@[simp] theorem point_mapNodes (s : State) (g : Seg) (f : NodeRec → NodeRec) (j : PointIdx) : (s.mapNodes g f).point j = s.point j := rfl
@[simp] theorem port_mapNodes (s : State) (g : Seg) (f : NodeRec → NodeRec) (q : Port) : (s.mapNodes g f).port q = s.port q := rfl

/-! #### State.modPort -/

@[simp] theorem pending_modPort (s : State) (p : Port) (f : PortUnit → PortUnit) : (s.modPort p f).pending = s.pending := rfl
@[simp] theorem inReset_modPort (s : State) (p : Port) (f : PortUnit → PortUnit) : (s.modPort p f).inReset = s.inReset := rfl
@[simp] theorem points_modPort (s : State) (p : Port) (f : PortUnit → PortUnit) : (s.modPort p f).points = s.points := rfl
@[simp] theorem segs_modPort (s : State) (p : Port) (f : PortUnit → PortUnit) : (s.modPort p f).segs = s.segs := rfl
@[simp] theorem trigs_modPort (s : State) (p : Port) (f : PortUnit → PortUnit) : (s.modPort p f).trigs = s.trigs := rfl
@[simp] theorem supply_modPort (s : State) (p : Port) (f : PortUnit → PortUnit) : (s.modPort p f).supply = s.supply := rfl
@[simp] theorem temperature_modPort (s : State) (p : Port) (f : PortUnit → PortUnit) : (s.modPort p f).temperature = s.temperature := rfl
@[simp] theorem point_modPort (s : State) (p : Port) (f : PortUnit → PortUnit) (j : PointIdx) : (s.modPort p f).point j = s.point j := rfl
@[simp] theorem seg_modPort (s : State) (p : Port) (f : PortUnit → PortUnit) (h : Seg) : (s.modPort p f).seg h = s.seg h := rfl
@[simp] theorem sched_modPort (s : State) (p : Port) (f : PortUnit → PortUnit) (h : Seg) : (s.modPort p f).sched h = s.sched h := rfl
@[simp] theorem link_modPort (s : State) (p : Port) (f : PortUnit → PortUnit) (h : Seg) : (s.modPort p f).link h = s.link h := rfl
@[simp] theorem feed_modPort (s : State) (p : Port) (f : PortUnit → PortUnit) (h : Seg) : (s.modPort p f).feed h = s.feed h := rfl
@[simp] theorem node_modPort (s : State) (p : Port) (f : PortUnit → PortUnit) (h : Seg) (m : NodeIdx) : (s.modPort p f).node h m = s.node h m := rfl
@[simp] theorem link_modSched (s : State) (g : Seg) (f : Scheduler → Scheduler) (h : Seg) : (s.modSched g f).link h = s.link h := by
  cases g <;> cases h <;> rfl
@[simp] theorem feed_modSched (s : State) (g : Seg) (f : Scheduler → Scheduler) (h : Seg) : (s.modSched g f).feed h = s.feed h := by
  cases g <;> cases h <;> rfl
@[simp] theorem node_modSched (s : State) (g : Seg) (f : Scheduler → Scheduler) (h : Seg) (m : NodeIdx) : (s.modSched g f).node h m = s.node h m := by
  cases g <;> cases h <;> rfl
@[simp] theorem tally0_modSched (s : State) (g : Seg) (f : Scheduler → Scheduler) (h : Seg) : ((s.modSched g f).seg h).tally0 = (s.seg h).tally0 := by
  cases g <;> cases h <;> rfl
@[simp] theorem tally1_modSched (s : State) (g : Seg) (f : Scheduler → Scheduler) (h : Seg) : ((s.modSched g f).seg h).tally1 = (s.seg h).tally1 := by
  cases g <;> cases h <;> rfl
@[simp] theorem sched_modLink (s : State) (g : Seg) (f : Link → Link) (h : Seg) : (s.modLink g f).sched h = s.sched h := by
  cases g <;> cases h <;> rfl
@[simp] theorem feed_modLink (s : State) (g : Seg) (f : Link → Link) (h : Seg) : (s.modLink g f).feed h = s.feed h := by
  cases g <;> cases h <;> rfl
@[simp] theorem node_modLink (s : State) (g : Seg) (f : Link → Link) (h : Seg) (m : NodeIdx) : (s.modLink g f).node h m = s.node h m := by
  cases g <;> cases h <;> rfl
@[simp] theorem tally0_modLink (s : State) (g : Seg) (f : Link → Link) (h : Seg) : ((s.modLink g f).seg h).tally0 = (s.seg h).tally0 := by
  cases g <;> cases h <;> rfl
@[simp] theorem tally1_modLink (s : State) (g : Seg) (f : Link → Link) (h : Seg) : ((s.modLink g f).seg h).tally1 = (s.seg h).tally1 := by
  cases g <;> cases h <;> rfl
@[simp] theorem sched_modFeed (s : State) (g : Seg) (f : Feed → Feed) (h : Seg) : (s.modFeed g f).sched h = s.sched h := by
  cases g <;> cases h <;> rfl
@[simp] theorem link_modFeed (s : State) (g : Seg) (f : Feed → Feed) (h : Seg) : (s.modFeed g f).link h = s.link h := by
  cases g <;> cases h <;> rfl
@[simp] theorem node_modFeed (s : State) (g : Seg) (f : Feed → Feed) (h : Seg) (m : NodeIdx) : (s.modFeed g f).node h m = s.node h m := by
  cases g <;> cases h <;> rfl
@[simp] theorem tally0_modFeed (s : State) (g : Seg) (f : Feed → Feed) (h : Seg) : ((s.modFeed g f).seg h).tally0 = (s.seg h).tally0 := by
  cases g <;> cases h <;> rfl
@[simp] theorem tally1_modFeed (s : State) (g : Seg) (f : Feed → Feed) (h : Seg) : ((s.modFeed g f).seg h).tally1 = (s.seg h).tally1 := by
  cases g <;> cases h <;> rfl
@[simp] theorem sched_modNode (s : State) (g : Seg) (n : NodeIdx) (f : NodeRec → NodeRec) (h : Seg) : (s.modNode g n f).sched h = s.sched h := by
  cases g <;> cases h <;> rfl
@[simp] theorem link_modNode (s : State) (g : Seg) (n : NodeIdx) (f : NodeRec → NodeRec) (h : Seg) : (s.modNode g n f).link h = s.link h := by
  cases g <;> cases h <;> rfl
@[simp] theorem feed_modNode (s : State) (g : Seg) (n : NodeIdx) (f : NodeRec → NodeRec) (h : Seg) : (s.modNode g n f).feed h = s.feed h := by
  cases g <;> cases h <;> rfl
@[simp] theorem tally0_modNode (s : State) (g : Seg) (n : NodeIdx) (f : NodeRec → NodeRec) (h : Seg) : ((s.modNode g n f).seg h).tally0 = (s.seg h).tally0 := by
  cases g <;> cases h <;> rfl
@[simp] theorem tally1_modNode (s : State) (g : Seg) (n : NodeIdx) (f : NodeRec → NodeRec) (h : Seg) : ((s.modNode g n f).seg h).tally1 = (s.seg h).tally1 := by
  cases g <;> cases h <;> rfl
@[simp] theorem sched_mapNodes (s : State) (g : Seg) (f : NodeRec → NodeRec) (h : Seg) : (s.mapNodes g f).sched h = s.sched h := by
  cases g <;> cases h <;> rfl
@[simp] theorem link_mapNodes (s : State) (g : Seg) (f : NodeRec → NodeRec) (h : Seg) : (s.mapNodes g f).link h = s.link h := by
  cases g <;> cases h <;> rfl
@[simp] theorem feed_mapNodes (s : State) (g : Seg) (f : NodeRec → NodeRec) (h : Seg) : (s.mapNodes g f).feed h = s.feed h := by
  cases g <;> cases h <;> rfl
@[simp] theorem tally0_mapNodes (s : State) (g : Seg) (f : NodeRec → NodeRec) (h : Seg) : ((s.mapNodes g f).seg h).tally0 = (s.seg h).tally0 := by
  cases g <;> cases h <;> rfl
@[simp] theorem tally1_mapNodes (s : State) (g : Seg) (f : NodeRec → NodeRec) (h : Seg) : ((s.mapNodes g f).seg h).tally1 = (s.seg h).tally1 := by
  cases g <;> cases h <;> rfl

/-! ### What an update changes -/

@[simp] theorem point_setPoint_same (s : State) (i : PointIdx) (t : Point) : (s.setPoint i t).point i = t := by
  simp [State.point, State.setPoint]

theorem point_setPoint_ne (s : State) {i j : PointIdx} (t : Point) (h : j ≠ i) :
    (s.setPoint i t).point j = s.point j := by
  have hv : i.val ≠ j.val := fun e => h (Fin.ext e.symm)
  simp [State.point, State.setPoint, hv]

theorem point_setPoint (s : State) (i j : PointIdx) (t : Point) :
    (s.setPoint i t).point j = if j = i then t else s.point j := by
  by_cases h : j = i
  · subst h
    simp
  · simp [h, point_setPoint_ne s t h]

@[simp] theorem point_modPoint_same (s : State) (i : PointIdx) (f : Point → Point) :
    (s.modPoint i f).point i = f (s.point i) := by
  simp [State.modPoint]

theorem point_modPoint_ne (s : State) {i j : PointIdx} (f : Point → Point) (h : j ≠ i) :
    (s.modPoint i f).point j = s.point j := point_setPoint_ne s _ h

theorem point_modPoint (s : State) (i j : PointIdx) (f : Point → Point) :
    (s.modPoint i f).point j = if j = i then f (s.point i) else s.point j := point_setPoint s i j _

@[simp] theorem point_mapPoints (s : State) (f : Point → Point) (j : PointIdx) :
    (s.mapPoints f).point j = f (s.point j) := by
  simp [State.point, State.mapPoints]

@[simp] theorem seg_modSeg_same (s : State) (g : Seg) (f : Segment → Segment) : (s.modSeg g f).seg g = f (s.seg g) := by
  cases g <;> rfl

theorem seg_modSeg (s : State) (g h : Seg) (f : Segment → Segment) :
    (s.modSeg g f).seg h = if h = g then f (s.seg g) else s.seg h := by
  cases g <;> cases h <;> rfl

@[simp] theorem sched_modSched_same (s : State) (g : Seg) (f : Scheduler → Scheduler) :
    (s.modSched g f).sched g = f (s.sched g) := by
  cases g <;> rfl

theorem sched_modSched (s : State) (g h : Seg) (f : Scheduler → Scheduler) :
    (s.modSched g f).sched h = if h = g then f (s.sched g) else s.sched h := by
  cases g <;> cases h <;> rfl

@[simp] theorem link_modLink_same (s : State) (g : Seg) (f : Link → Link) : (s.modLink g f).link g = f (s.link g) := by
  cases g <;> rfl

theorem link_modLink (s : State) (g h : Seg) (f : Link → Link) :
    (s.modLink g f).link h = if h = g then f (s.link g) else s.link h := by
  cases g <;> cases h <;> rfl

@[simp] theorem feed_modFeed_same (s : State) (g : Seg) (f : Feed → Feed) : (s.modFeed g f).feed g = f (s.feed g) := by
  cases g <;> rfl

theorem feed_modFeed (s : State) (g h : Seg) (f : Feed → Feed) :
    (s.modFeed g f).feed h = if h = g then f (s.feed g) else s.feed h := by
  cases g <;> cases h <;> rfl

@[simp] theorem node_modNode_same (s : State) (g : Seg) (n : NodeIdx) (f : NodeRec → NodeRec) :
    (s.modNode g n f).node g n = f (s.node g n) := by
  cases g <;> simp [State.node, State.seg, State.modNode, State.modSeg, PerSeg.get, PerSeg.set]

@[simp] theorem node_mapNodes_same (s : State) (g : Seg) (f : NodeRec → NodeRec) (n : NodeIdx) :
    (s.mapNodes g f).node g n = f (s.node g n) := by
  cases g <;> simp [State.node, State.seg, State.mapNodes, State.modSeg, PerSeg.get, PerSeg.set]

@[simp] theorem port_modPort_same (s : State) (p : Port) (f : PortUnit → PortUnit) :
    (s.modPort p f).port p = f (s.port p) := by
  cases p <;> rfl

theorem port_modPort (s : State) (p q : Port) (f : PortUnit → PortUnit) :
    (s.modPort p f).port q = if q = p then f (s.port p) else s.port q := by
  cases p <;> cases q <;> rfl

@[simp] theorem ports_get (s : State) (p : Port) : s.ports.get p = s.port p := rfl

@[simp] theorem segs_get (s : State) (g : Seg) : s.segs.get g = s.seg g := rfl

/-- Two states that agree field by field are one. -/
theorem State.ext_fields {s t : State} (hq : t.pending = s.pending) (hr : t.inReset = s.inReset)
    (hp : ∀ i, t.point i = s.point i) (hg : ∀ g, t.seg g = s.seg g) (hu : ∀ p, t.port p = s.port p)
    (ht : t.trigs = s.trigs) (hs : t.supply = s.supply) (hm : t.temperature = s.temperature) : t = s := by
  have h1 : t.points = s.points := by
    apply Vector.ext
    intro k hk
    exact hp ⟨k, hk⟩
  have h2 : t.segs = s.segs := PerSeg.ext_get hg
  have h3 : t.ports = s.ports := PerPort.ext_get hu
  cases t
  cases s
  simp_all

end Machine

end Sys2Proof
end

