-- ==== Sys2Proof/Laws/Notices.lean ====
section
/-! SUPPORT. What raising a reason can do (R152 to R156), and the frame relation of every operation over one
segment: one lemma each, which later proofs cite in place of unfolding. -/

namespace Sys2Proof.Machine

/-! ### The relations -/

theorem NoticesOnly.refl (s : State) : NoticesOnly s s := ⟨rfl, rfl, rfl, rfl, rfl, fun _ => rfl, rfl, rfl⟩

theorem NoticesOnly.trans {s t u : State} (h : NoticesOnly s t) (k : NoticesOnly t u) : NoticesOnly s u :=
  ⟨k.pending.trans h.pending, k.inReset.trans h.inReset, k.trigs.trans h.trigs, k.supply.trans h.supply,
    k.temperature.trans h.temperature, fun p => (k.ports p).trans (h.ports p), k.segs.trans h.segs,
    k.points.trans h.points⟩

theorem Touches.refl (F L G : Seg → Prop) (s : State) : Touches F L G s s :=
  ⟨rfl, rfl, rfl, rfl, rfl, fun _ => rfl, fun _ _ => rfl, fun _ _ => rfl, fun _ _ => rfl, fun _ _ => rfl,
    fun _ _ => rfl⟩

theorem Touches.trans {F L G : Seg → Prop} {s t u : State} (h : Touches F L G s t) (k : Touches F L G t u) :
    Touches F L G s u :=
  ⟨k.pending.trans h.pending, k.inReset.trans h.inReset, k.trigs.trans h.trigs, k.supply.trans h.supply,
    k.temperature.trans h.temperature, fun p => (k.ports p).trans (h.ports p),
    fun q n => (k.feed q n).trans (h.feed q n), fun q n => (k.sched q n).trans (h.sched q n),
    fun q n => (k.link q n).trans (h.link q n), fun q n => (k.tally0 q n).trans (h.tally0 q n),
    fun q n => (k.tally1 q n).trans (h.tally1 q n)⟩

theorem Touches.mono {F L G H M K : Seg → Prop} {s t : State} (fh : ∀ q, F q → H q) (lm : ∀ q, L q → M q)
    (gk : ∀ q, G q → K q) (h : Touches F L G s t) : Touches H M K s t :=
  ⟨h.pending, h.inReset, h.trigs, h.supply, h.temperature, h.ports, fun q n => h.feed q fun g => n (fh q g),
    fun q n => h.sched q fun g => n (gk q g), fun q n => h.link q fun g => n (lm q g),
    fun q n => h.tally0 q fun g => n (gk q g), fun q n => h.tally1 q fun g => n (gk q g)⟩

theorem NoticesOnly.touches {s t : State} (h : NoticesOnly s t) (F L G : Seg → Prop) : Touches F L G s t :=
  have e : ∀ q, t.seg q = s.seg q := fun q => congrArg (·.get q) h.segs
  ⟨h.pending, h.inReset, h.trigs, h.supply, h.temperature, h.ports, fun q _ => congrArg Segment.feed (e q),
    fun q _ => congrArg Segment.sched (e q), fun q _ => congrArg Segment.link (e q),
    fun q _ => congrArg Segment.tally0 (e q), fun q _ => congrArg Segment.tally1 (e q)⟩

theorem NoticesOnly.point {s t : State} (h : NoticesOnly s t) (i : PointIdx) : t.point i = s.point i := by
  simp only [State.point, h.points]

theorem NoticesOnly.seg {s t : State} (h : NoticesOnly s t) (g : Seg) : t.seg g = s.seg g := by
  simp only [State.seg, h.segs]

theorem NoticesOnly.sched {s t : State} (h : NoticesOnly s t) (g : Seg) : t.sched g = s.sched g := by
  simp only [State.sched, h.seg]

theorem NoticesOnly.link {s t : State} (h : NoticesOnly s t) (g : Seg) : t.link g = s.link g := by
  simp only [State.link, h.seg]

theorem NoticesOnly.feed {s t : State} (h : NoticesOnly s t) (g : Seg) : t.feed g = s.feed g := by
  simp only [State.feed, h.seg]

theorem NoticesOnly.node {s t : State} (h : NoticesOnly s t) (g : Seg) (n : NodeIdx) : t.node g n = s.node g n := by
  simp only [State.node, h.seg]

/-! ### Raising reasons -/

theorem noticesOnly_list (s : State) (p : Port) (f : List Entry → List Entry) :
    NoticesOnly s (s.modPort p fun u => { u with attention := f u.attention }) := by
  refine ⟨rfl, rfl, rfl, rfl, rfl, fun q => ?_, rfl, rfl⟩
  rw [port_modPort]
  split
  · rename_i h
    subst h
    rfl
  · rfl

theorem notePoint_noticesOnly (s : State) (p : Port) (i : PointIdx) (r : PointReason) :
    NoticesOnly s (s.notePoint p i r) := noticesOnly_list s p _

theorem raisePoint_noticesOnly (s : State) (i : PointIdx) (r : PointReason) (dst : PortSet) :
    NoticesOnly s (s.raisePoint i r dst) := by
  unfold State.raisePoint
  dsimp only
  split <;> split
  · exact (notePoint_noticesOnly s .a i r).trans (notePoint_noticesOnly _ .b i r)
  · exact notePoint_noticesOnly s .b i r
  · exact notePoint_noticesOnly s .a i r
  · exact NoticesOnly.refl s

theorem noteSeg_noticesOnly (s : State) (p : Port) (g : Seg) (r : SegReason) : NoticesOnly s (s.noteSeg p g r) := by
  unfold State.noteSeg
  split
  · exact noticesOnly_list s p _
  · exact NoticesOnly.refl s

theorem raiseSeg_noticesOnly (s : State) (g : Seg) (r : SegReason) : NoticesOnly s (s.raiseSeg g r) :=
  (noteSeg_noticesOnly s .a g r).trans (noteSeg_noticesOnly _ .b g r)

theorem raiseDev_noticesOnly (s : State) (p : Port) (r : DevReason) : NoticesOnly s (s.raiseDev p r) := by
  unfold State.raiseDev
  split
  · exact noticesOnly_list s p _
  · exact NoticesOnly.refl s

theorem raiseWrite_noticesOnly (s : State) (i : PointIdx) (r : WriteResult) (w : Writer) :
    NoticesOnly s (s.raiseWrite i r w) := raisePoint_noticesOnly s i _ _

/-- A device reason reaches the list of its target port only. -/
theorem port_raiseDev_ne (s : State) {p q : Port} (r : DevReason) (h : q ≠ p) : (s.raiseDev p r).port q = s.port q := by
  unfold State.raiseDev
  split
  · rw [port_modPort, if_neg h]
  · rfl

/-! ### Single updates -/

theorem touches_of_segs {F L G : Seg → Prop} {s t : State} (e : t.segs = s.segs) (h1 : t.pending = s.pending)
    (h2 : t.inReset = s.inReset) (h3 : t.trigs = s.trigs) (h4 : t.supply = s.supply)
    (h5 : t.temperature = s.temperature) (h6 : t.ports = s.ports) : Touches F L G s t :=
  have k : ∀ q, t.seg q = s.seg q := fun q => congrArg (·.get q) e
  ⟨h1, h2, h3, h4, h5, fun p => congrArg (fun v => (PerPort.get v p).bare) h6, fun q _ => congrArg Segment.feed (k q),
    fun q _ => congrArg Segment.sched (k q), fun q _ => congrArg Segment.link (k q),
    fun q _ => congrArg Segment.tally0 (k q), fun q _ => congrArg Segment.tally1 (k q)⟩

section
variable {F L G : Seg → Prop} {g : Seg}

theorem touches_modPoint (s : State) (i : PointIdx) (f : Point → Point) : Touches F L G s (s.modPoint i f) :=
  touches_of_segs rfl rfl rfl rfl rfl rfl rfl

theorem touches_setPoint (s : State) (i : PointIdx) (t : Point) : Touches F L G s (s.setPoint i t) :=
  touches_of_segs rfl rfl rfl rfl rfl rfl rfl

theorem touches_mapPoints (s : State) (f : Point → Point) : Touches F L G s (s.mapPoints f) :=
  touches_of_segs rfl rfl rfl rfl rfl rfl rfl

theorem touches_modSched (hg : G g) (s : State) (f : Scheduler → Scheduler) : Touches F L G s (s.modSched g f) := by
  refine ⟨rfl, rfl, rfl, rfl, rfl, fun _ => rfl, fun q _ => by simp, fun q n => ?_, fun q _ => by simp,
    fun q _ => by simp, fun q _ => by simp⟩
  rw [sched_modSched]
  split
  · rename_i e
    exact absurd (e ▸ hg) n
  · rfl

theorem touches_modLink (hl : L g) (s : State) (f : Link → Link) : Touches F L G s (s.modLink g f) := by
  refine ⟨rfl, rfl, rfl, rfl, rfl, fun _ => rfl, fun q _ => by simp, fun q _ => by simp, fun q n => ?_,
    fun q _ => by simp, fun q _ => by simp⟩
  rw [link_modLink]
  split
  · rename_i e
    exact absurd (e ▸ hl) n
  · rfl

theorem touches_modFeed (hf : F g) (s : State) (f : Feed → Feed) : Touches F L G s (s.modFeed g f) := by
  refine ⟨rfl, rfl, rfl, rfl, rfl, fun _ => rfl, fun q n => ?_, fun q _ => by simp, fun q _ => by simp,
    fun q _ => by simp, fun q _ => by simp⟩
  rw [feed_modFeed]
  split
  · rename_i e
    exact absurd (e ▸ hf) n
  · rfl

theorem touches_modNode (g : Seg) (s : State) (n : NodeIdx) (f : NodeRec → NodeRec) :
    Touches F L G s (s.modNode g n f) :=
  ⟨rfl, rfl, rfl, rfl, rfl, fun _ => rfl, fun q _ => by simp, fun q _ => by simp, fun q _ => by simp,
    fun q _ => by simp, fun q _ => by simp⟩

theorem touches_mapNodes (g : Seg) (s : State) (f : NodeRec → NodeRec) : Touches F L G s (s.mapNodes g f) :=
  ⟨rfl, rfl, rfl, rfl, rfl, fun _ => rfl, fun q _ => by simp, fun q _ => by simp, fun q _ => by simp,
    fun q _ => by simp, fun q _ => by simp⟩

theorem touches_raisePoint (s : State) (i : PointIdx) (r : PointReason) (dst : PortSet) :
    Touches F L G s (s.raisePoint i r dst) := (raisePoint_noticesOnly s i r dst).touches F L G

theorem touches_raiseSeg (s : State) (h : Seg) (r : SegReason) : Touches F L G s (s.raiseSeg h r) :=
  (raiseSeg_noticesOnly s h r).touches F L G

theorem touches_raiseDev (s : State) (p : Port) (r : DevReason) : Touches F L G s (s.raiseDev p r) :=
  (raiseDev_noticesOnly s p r).touches F L G

theorem touches_raiseWrite (s : State) (i : PointIdx) (r : WriteResult) (w : Writer) :
    Touches F L G s (s.raiseWrite i r w) := (raiseWrite_noticesOnly s i r w).touches F L G

/-- A chain of changes for some points. -/
theorem touches_forPoints (f : PointIdx → State → State) (hf : ∀ i s, Touches F L G s (f i s)) (is : List PointIdx)
    (s : State) : Touches F L G s (s.forPoints is f) := by
  unfold State.forPoints
  induction is generalizing s with
  | nil => exact Touches.refl F L G s
  | cons i is ih => exact (hf i s).trans (ih (f i s))

/-- A chain of parts. -/
theorem touches_takeParts (run : Part → State → State) (hr : ∀ x s, Touches F L G s (run x s)) (parts : List Part)
    (s : State) : Touches F L G s (s.takeParts run parts) := by
  unfold State.takeParts
  induction parts generalizing s with
  | nil => exact Touches.refl F L G s
  | cons x xs ih => exact (hr x s).trans (ih (run x s))

/-! ### Operations of the Point Table and the Notice Unit -/

theorem touches_setQuality (s : State) (i : PointIdx) (q : Quality) : Touches F L G s (s.setQuality i q) := by
  unfold State.setQuality
  split
  · exact Touches.refl F L G s
  · exact (touches_modPoint s i _).trans (touches_raisePoint _ i _ _)

theorem touches_tally (hg : G g) (s : State) (evs : List TallyEvent) (node : Option NodeIdx) :
    Touches F L G s (s.tally g evs node) := by
  have h0 : Touches F L G s (s.modSeg g fun v =>
      { v with
        tally0 := if (s.seg g).tally0.counts evs node then v.tally0.step else v.tally0
        tally1 := if (s.seg g).tally1.counts evs node then v.tally1.step else v.tally1 }) := by
    refine ⟨rfl, rfl, rfl, rfl, rfl, fun _ => rfl, fun q n => ?_, fun q n => ?_, fun q n => ?_, fun q n => ?_,
      fun q n => ?_⟩
    all_goals
      simp only [State.feed, State.sched, State.link, seg_modSeg]
      split
    all_goals
      rename_i e
    all_goals first
      | rfl
      | (subst e; rfl)
      | exact absurd (e ▸ hg) n
  unfold State.tally
  dsimp only
  split <;> split
  · exact (h0.trans (touches_raiseSeg _ g _)).trans (touches_raiseSeg _ g _)
  · exact h0.trans (touches_raiseSeg _ g _)
  · exact h0.trans (touches_raiseSeg _ g _)
  · exact h0

theorem touches_closureTest (s : State) (i : PointIdx) : Touches F L G s (s.closureTest i) := by
  unfold State.closureTest
  split
  · exact touches_setPoint s i _
  · exact Touches.refl F L G s

/-- Entry into CLOSED changes no segment but in a node record (R16). -/
theorem touches_closePoint (s : State) (i : PointIdx) : Touches F L G s (s.closePoint i) := by
  unfold State.closePoint
  dsimp only
  exact (((touches_modNode _ s _ _).trans (touches_raisePoint _ i _ _)).trans (touches_modPoint _ i _)).trans
    (touches_closureTest _ i)

/-! ### The Limit Evaluator -/

theorem touches_judgeChange (s : State) (i : PointIdx) (old : Option Int) (v : Int) :
    Touches F L G s (s.judgeChange i old v) := by
  unfold State.judgeChange
  split
  · exact (touches_modPoint s i _).trans (touches_raisePoint _ i _ _)
  · exact Touches.refl F L G s

theorem touches_judgeBand (s : State) (i : PointIdx) (v : Int) : Touches F L G s (s.judgeBand i v) := by
  unfold State.judgeBand
  split
  · exact Touches.refl F L G s
  · dsimp only
    split
    · exact (touches_modPoint s i _).trans (touches_raisePoint _ i _ _)
    · exact touches_modPoint s i _

theorem touches_evaluate (s : State) (i : PointIdx) (old : Option Int) (v : Int) :
    Touches F L G s (s.evaluate i old v) := (touches_judgeChange s i old v).trans (touches_judgeBand _ i v)

end

end Sys2Proof.Machine
end

