-- ==== Sys2Proof/Laws/Commands.lean ====
section
/-! SUPPORT. What a transaction and an event can do: the accepted frame, the checks, the answer; once for all
commands and events. -/

namespace Sys2Proof.Machine

/-! ### The accepted frame (R163, R171) -/

@[simp] theorem points_raiseDev (s : State) (p : Port) (r : DevReason) : (s.raiseDev p r).points = s.points :=
  (raiseDev_noticesOnly s p r).points

@[simp] theorem segs_raiseDev (s : State) (p : Port) (r : DevReason) : (s.raiseDev p r).segs = s.segs :=
  (raiseDev_noticesOnly s p r).segs

/-- Accepting a frame changes ports only. -/
structure PortsOnly (s t : State) : Prop where
  pending : t.pending = s.pending
  inReset : t.inReset = s.inReset
  points : t.points = s.points
  segs : t.segs = s.segs
  trigs : t.trigs = s.trigs
  supply : t.supply = s.supply
  temperature : t.temperature = s.temperature

theorem resume_portsOnly (s : State) (p : Port) : PortsOnly s (s.resume p) := by
  unfold State.resume
  split
  · have h := raiseDev_noticesOnly
      (s.modPort p fun u => { u with lapsed := false, supTimer := if u.supPeriod = 0 then none else some 0 }) p.other
      .peerResumed
    exact ⟨h.pending, h.inReset, h.points, h.segs, h.trigs, h.supply, h.temperature⟩
  · exact ⟨rfl, rfl, rfl, rfl, rfl, rfl, rfl⟩

theorem acceptFrame_portsOnly (s : State) (p : Port) : PortsOnly s (s.acceptFrame p) := by
  have h := resume_portsOnly s p
  exact ⟨h.pending, h.inReset, h.points, h.segs, h.trigs, h.supply, h.temperature⟩

@[simp] theorem inReset_acceptFrame (s : State) (p : Port) : (s.acceptFrame p).inReset = s.inReset :=
  (acceptFrame_portsOnly s p).inReset

@[simp] theorem pending_acceptFrame (s : State) (p : Port) : (s.acceptFrame p).pending = s.pending :=
  (acceptFrame_portsOnly s p).pending

@[simp] theorem points_acceptFrame (s : State) (p : Port) : (s.acceptFrame p).points = s.points :=
  (acceptFrame_portsOnly s p).points

@[simp] theorem segs_acceptFrame (s : State) (p : Port) : (s.acceptFrame p).segs = s.segs :=
  (acceptFrame_portsOnly s p).segs

@[simp] theorem trigs_acceptFrame (s : State) (p : Port) : (s.acceptFrame p).trigs = s.trigs :=
  (acceptFrame_portsOnly s p).trigs

@[simp] theorem supply_acceptFrame (s : State) (p : Port) : (s.acceptFrame p).supply = s.supply :=
  (acceptFrame_portsOnly s p).supply

@[simp] theorem temperature_acceptFrame (s : State) (p : Port) : (s.acceptFrame p).temperature = s.temperature :=
  (acceptFrame_portsOnly s p).temperature

@[simp] theorem point_acceptFrame (s : State) (p : Port) (i : PointIdx) : (s.acceptFrame p).point i = s.point i := by
  simp only [State.point, points_acceptFrame]

@[simp] theorem seg_acceptFrame (s : State) (p : Port) (g : Seg) : (s.acceptFrame p).seg g = s.seg g := by
  simp only [State.seg, segs_acceptFrame]

@[simp] theorem sched_acceptFrame (s : State) (p : Port) (g : Seg) : (s.acceptFrame p).sched g = s.sched g := by
  simp only [State.sched, seg_acceptFrame]

@[simp] theorem link_acceptFrame (s : State) (p : Port) (g : Seg) : (s.acceptFrame p).link g = s.link g := by
  simp only [State.link, seg_acceptFrame]

@[simp] theorem feed_acceptFrame (s : State) (p : Port) (g : Seg) : (s.acceptFrame p).feed g = s.feed g := by
  simp only [State.feed, seg_acceptFrame]

@[simp] theorem node_acceptFrame (s : State) (p : Port) (g : Seg) (n : NodeIdx) :
    (s.acceptFrame p).node g n = s.node g n := by
  simp only [State.node, seg_acceptFrame]

@[simp] theorem powered_acceptFrame (s : State) (p : Port) (g : Seg) : (s.acceptFrame p).powered g = s.powered g := by
  simp only [State.powered, feed_acceptFrame]

@[simp] theorem handleOk_acceptFrame (s : State) (p : Port) (h : Handle) :
    (s.acceptFrame p).handleOk h = s.handleOk h := by
  simp only [State.handleOk, point_acceptFrame]

/-- The fields of a port that an accepted frame leaves alone. -/
structure PortKept (u v : PortUnit) : Prop where
  reply : v.reply = u.reply
  supPeriod : v.supPeriod = u.supPeriod
  segMask : v.segMask = u.segMask
  devMask : v.devMask = u.devMask
  lineEnable : v.lineEnable = u.lineEnable
  rights : v.rights = u.rights
  device : v.device = u.device
  miso : v.miso = u.miso
  select : v.select = u.select

theorem raiseDev_portKept (s : State) (p q : Port) (r : DevReason) :
    PortKept (s.port q) ((s.raiseDev p r).port q) := by
  have h := (raiseDev_noticesOnly s p r).ports q
  simp only [PortUnit.bare, PortUnit.mk.injEq] at h
  exact ⟨h.1, h.2.2.1, h.2.2.2.2.2.2.1, h.2.2.2.2.2.2.2.1, h.2.2.2.2.2.2.2.2.1, h.2.2.2.2.2.2.2.2.2.1,
    h.2.2.2.2.2.2.2.2.2.2.1, h.2.2.2.2.2.2.2.2.2.2.2.1, h.2.2.2.2.2.2.2.2.2.2.2.2⟩

theorem resume_portKept (s : State) (p q : Port) : PortKept (s.port q) ((s.resume p).port q) := by
  unfold State.resume
  split
  · have h := raiseDev_portKept
      (s.modPort p fun u => { u with lapsed := false, supTimer := if u.supPeriod = 0 then none else some 0 }) p.other q
      .peerResumed
    have k : PortKept (s.port q)
        ((s.modPort p fun u =>
          { u with lapsed := false, supTimer := if u.supPeriod = 0 then none else some 0 }).port q) := by
      rw [port_modPort]
      split
      · rename_i e
        subst e
        exact ⟨rfl, rfl, rfl, rfl, rfl, rfl, rfl, rfl, rfl⟩
      · exact ⟨rfl, rfl, rfl, rfl, rfl, rfl, rfl, rfl, rfl⟩
    exact ⟨h.reply.trans k.reply, h.supPeriod.trans k.supPeriod, h.segMask.trans k.segMask, h.devMask.trans k.devMask,
      h.lineEnable.trans k.lineEnable, h.rights.trans k.rights, h.device.trans k.device, h.miso.trans k.miso,
      h.select.trans k.select⟩
  · exact ⟨rfl, rfl, rfl, rfl, rfl, rfl, rfl, rfl, rfl⟩

theorem acceptFrame_portKept (s : State) (p q : Port) : PortKept (s.port q) ((s.acceptFrame p).port q) := by
  have h := resume_portKept s p q
  unfold State.acceptFrame
  rw [port_modPort]
  split
  · rename_i e
    subst e
    exact ⟨h.reply, h.supPeriod, h.segMask, h.devMask, h.lineEnable, h.rights, h.device, h.miso, h.select⟩
  · exact h

@[simp] theorem hasGroup_acceptFrame (s : State) (p q : Port) (r : GroupRight) (k : Fin 16) :
    (s.acceptFrame p).hasGroup q r k = s.hasGroup q r k := by
  simp only [State.hasGroup, (acceptFrame_portKept s p q).rights]

@[simp] theorem hasDevice_acceptFrame (s : State) (p q : Port) (r : DeviceRight) :
    (s.acceptFrame p).hasDevice q r = s.hasDevice q r := by
  simp only [State.hasDevice, (acceptFrame_portKept s p q).device]

@[simp] theorem lacksGroup_acceptFrame (s : State) (p q : Port) (r : Option GroupRight) (k : Fin 16) :
    (s.acceptFrame p).lacksGroup q r k = s.lacksGroup q r k := by
  cases r <;> simp [State.lacksGroup]

@[simp] theorem lacksDevice_acceptFrame (s : State) (p q : Port) (r : Option DeviceRight) :
    (s.acceptFrame p).lacksDevice q r = s.lacksDevice q r := by
  cases r <;> simp [State.lacksDevice]

/-! ### Transactions and events -/

theorem hears_iff (s : State) (p : Port) :
    s.hears p = true ↔ s.inReset = false ∧ (s.port p).select ≠ .ignored := by
  unfold State.hears
  rw [Bool.and_eq_true, Bool.not_eq_true', decide_eq_true_iff]
  rfl

@[simp] theorem hears_acceptFrame (s : State) (p q : Port) : (s.acceptFrame p).hears q = s.hears q := by
  rw [Bool.eq_iff_iff, hears_iff, hears_iff, inReset_acceptFrame, (acceptFrame_portKept s p q).select]

/-- The rising chip-select of a transaction that the device takes. -/
theorem transfer_hears {p : Port} {body : State → State} {s : State} (h : s.hears p = true) :
    transfer p body s = .next ((body s).selectRises p) := by
  simp [transfer, h]

/-- The rising chip-select of a transaction that the device ignores (R174). -/
theorem transfer_deaf {p : Port} {body : State → State} {s : State} (h : s.hears p = false) :
    transfer p body s = .next (s.selectRises p) := by
  simp [transfer, h]

/-- A valid frame is carried out and answered. -/
theorem command_takes {code : Byte} {p : Port} {tag : Byte} {ps : List Byte} {body : State → Answer} {s : State}
    (h : Takes s p ps) :
    command code p tag ps body s =
      .next (s.answered (body (s.acceptFrame p)).state p code tag ps (body (s.acceptFrame p)).result
        (body (s.acceptFrame p)).data) := by
  rw [command, if_neg (Nat.not_lt.mpr h.2), transfer_hears h.1]
  rfl

/-- A command's frame goes on, whatever the state. -/
theorem command_next (code : Byte) (p : Port) (tag : Byte) (ps : List Byte) (body : State → Answer) (s : State) :
    ∃ t, command code p tag ps body s = .next t := by
  unfold command
  split
  · exact ⟨_, rfl⟩
  · exact ⟨_, rfl⟩

theorem event_next (body : State → State) (s : State) : ∃ t, event body s = .next t := by
  unfold event
  split
  · exact ⟨_, rfl⟩
  · exact ⟨_, rfl⟩

theorem event_takes {body : State → State} {s : State} (h : s.inReset = false) : event body s = .next (body s) := by
  simp [event, h]

theorem event_inReset {body : State → State} {s : State} (h : s.inReset = true) : event body s = .next s := by
  simp [event, h]

/-- A frame in a transaction that the device ignores only ends it (R174). -/
theorem command_deaf {code : Byte} {p : Port} {tag : Byte} {ps : List Byte} {body : State → Answer} {s : State}
    (h : s.hears p = false) (k : ps.length ≤ Config.maxParams) :
    command code p tag ps body s = .next (s.selectRises p) := by
  rw [command, if_neg (Nat.not_lt.mpr k), transfer_deaf h]

/-! ### The checks of handle and segment commands (R165) -/

theorem onPoint_badParameter {s : State} {p : Port} {ps : List Byte} {len : Nat} {valid : Bool}
    {r : Option GroupRight} {body : PointIdx → Answer} (h : ps.length ≠ len ∨ valid = false) :
    onPoint s p ps len valid r body = refuse s .badParameter := by
  simp [onPoint, h]

theorem onPoint_staleHandle {s : State} {p : Port} {ps : List Byte} {r : Option GroupRight}
    {body : PointIdx → Answer} (h : s.handleOk (argHandle ps 0) = false) :
    onPoint s p ps ps.length true r body = refuse s .staleHandle := by
  simp [onPoint, h]

theorem onPoint_noRight {s : State} {p : Port} {ps : List Byte} {r : Option GroupRight}
    {body : PointIdx → Answer} (h : s.handleOk (argHandle ps 0) = true)
    (k : s.lacksGroup p r (s.point (argHandle ps 0).idx).group = true) :
    onPoint s p ps ps.length true r body = refuse s .noRight := by
  simp [onPoint, h, k]

theorem onPoint_passes {s : State} {p : Port} {ps : List Byte} {r : Option GroupRight}
    {body : PointIdx → Answer} (h : s.handleOk (argHandle ps 0) = true)
    (k : s.lacksGroup p r (s.point (argHandle ps 0).idx).group = false) :
    onPoint s p ps ps.length true r body = body (argHandle ps 0).idx := by
  simp [onPoint, h, k]

theorem onSeg_badParameter {s : State} {p : Port} {ps : List Byte} {len : Nat} {valid : Bool}
    {r : Option DeviceRight} {body : Seg → Answer}
    (h : ps.length ≠ len ∨ valid = false ∨ segOf (arg ps 0) = none) :
    onSeg s p ps len valid r body = refuse s .badParameter := by
  unfold onSeg
  split
  · rfl
  · rename_i n
    rcases h with h | h | h
    · exact absurd (Or.inl h) n
    · exact absurd (Or.inr h) n
    · simp [h]

theorem onSeg_noRight {s : State} {p : Port} {ps : List Byte} {r : Option DeviceRight} {g : Seg}
    {body : Seg → Answer} (h : segOf (arg ps 0) = some g) (k : s.lacksDevice p r = true) :
    onSeg s p ps ps.length true r body = refuse s .noRight := by
  simp [onSeg, h, k]

theorem onSeg_passes {s : State} {p : Port} {ps : List Byte} {r : Option DeviceRight} {g : Seg}
    {body : Seg → Answer} (h : segOf (arg ps 0) = some g) (k : s.lacksDevice p r = false) :
    onSeg s p ps ps.length true r body = body g := by
  simp [onSeg, h, k]

/-! ### Attention lists (R152) -/

/-- Merging adds at most the fresh entry's thing, once. -/
theorem nodup_mergeEntry {same : Entry → Bool} {add : Entry → Entry} {fresh : Entry} (l : List Entry)
    (hs : ∀ e, same e = true ↔ e.thing = fresh.thing) (ha : ∀ e, (add e).thing = e.thing)
    (h : (l.map Entry.thing).Nodup) : ((mergeEntry same add fresh l).map Entry.thing).Nodup := by
  have mem : ∀ l : List Entry, ∀ x, x ∈ (mergeEntry same add fresh l).map Entry.thing →
      x ∈ l.map Entry.thing ∨ x = fresh.thing := by
    intro l
    induction l with
    | nil =>
      intro x hx
      simp only [mergeEntry, List.map_cons, List.map_nil, List.mem_singleton] at hx
      exact Or.inr (hx.trans (ha fresh))
    | cons e es ih =>
      intro x hx
      unfold mergeEntry at hx
      split at hx
      · simp only [List.map_cons, ha] at hx
        exact Or.inl hx
      · simp only [List.map_cons, List.mem_cons] at hx
        rcases hx with hx | hx
        · exact Or.inl (by simp [hx])
        · rcases ih x hx with k | k
          · exact Or.inl (by simp [k])
          · exact Or.inr k
  induction l with
  | nil => simp [mergeEntry]
  | cons e es ih =>
    simp only [List.map_cons, List.nodup_cons] at h
    unfold mergeEntry
    split
    · simp only [List.map_cons, ha, List.nodup_cons]
      exact h
    · rename_i n
      simp only [List.map_cons, List.nodup_cons]
      refine ⟨fun m => ?_, ih h.2⟩
      rcases mem es _ m with k | k
      · exact h.1 k
      · exact n ((hs e).mpr k)

end Sys2Proof.Machine
end

