-- ==== Sys2Proof/Laws/Frames.lean ====
section
/-! SUPPORT. The frame of every shared operation of the Scheduler, the outcomes, the Link Engine and the Feed
Controller: which segments each can change. One lemma per operation. -/

namespace Sys2Proof.Machine

section
variable {F L G : Seg → Prop} {g : Seg}

/-! ### Cycles -/

theorem touches_endScan (hg : G g) (s : State) : Touches F L G s (s.endScan g) :=
  (touches_modSched hg s _).trans (touches_raiseSeg _ g _)

theorem touches_beginCycle (hg : G g) (s : State) : Touches F L G s (s.beginCycle g) :=
  (touches_modSched hg s _).trans (touches_mapNodes g _ _)

theorem touches_completeOnce (hg : G g) (s : State) : Touches F L G s (s.completeOnce g).1 := by
  unfold State.completeOnce
  dsimp only
  split
  · exact (touches_modSched hg s _).trans (touches_endScan hg _)
  · dsimp only
    exact Touches.trans (touches_modSched hg s _) (touches_modSched hg _ _)

theorem touches_startCycle (hg : G g) (s : State) : Touches F L G s (s.startCycle g) := by
  unfold State.startCycle
  dsimp only
  split
  · exact (touches_beginCycle hg s).trans (touches_completeOnce hg _)
  · exact touches_beginCycle hg s

theorem touches_complete (hg : G g) (s : State) : Touches F L G s (s.complete g) := by
  unfold State.complete
  dsimp only
  split
  · exact (touches_completeOnce hg s).trans (touches_startCycle hg _)
  · exact touches_completeOnce hg s

theorem touches_applyCut (hg : G g) (s : State) : Touches F L G s (s.applyCut g) := by
  unfold State.applyCut
  dsimp only
  generalize (if (s.sched g).scan.inCycle then (s.sched g).counted else (s.sched g).cyclesEnded) = n
  split
  · split
    · exact Touches.trans (touches_modSched hg s _) (touches_endScan hg _)
    · exact Touches.trans (touches_modSched hg s _) (touches_startCycle hg _)
  · exact touches_modSched hg s _

/-! ### Grants, visits, walks -/

theorem touches_beginAttempt (hl : L g) (s : State) (x : Exchange) (idle : Bool) :
    Touches F L G s (s.beginAttempt g x idle) := touches_modLink hl s _

theorem touches_grant (hl : L g) (s : State) (i : PointIdx) (f : Func) (k : GrantKind) (e : Env) :
    Touches F L G s (s.grant g i f k e) := by
  unfold State.grant
  cases f
  · exact touches_beginAttempt hl s _ _
  · exact (touches_modPoint s i _).trans (touches_beginAttempt hl _ _ _)

theorem touches_grantScan (hl : L g) (hg : G g) (s : State) (i : PointIdx) (f : Func) (e : Env) :
    Touches F L G s (s.grantScan g i f e) :=
  ((touches_modSched hg s _).trans (touches_modNode g _ _ _)).trans (touches_grant hl _ i f .scan e)

theorem touches_grantHead (hl : L g) (hg : G g) (s : State) (e : Env) : Touches F L G s (s.grantHead g e) := by
  unfold State.grantHead
  split
  · exact Touches.refl F L G s
  · exact (touches_modSched hg s _).trans (touches_grant hl _ _ _ .demand e)

theorem touches_visit (hg : G g) (s : State) (i : PointIdx) : Touches F L G s (s.visit g i).1 := by
  unfold State.visit
  dsimp only
  have h : ∀ f, Touches F L G s ((s.modSched g fun c => { c with cursor := successor c.list i }).modPoint i f) :=
    fun f => (touches_modSched hg s _).trans (touches_modPoint _ i f)
  split
  · dsimp only
    exact h _
  · split
    · dsimp only
      exact h _
    · dsimp only
      exact h _

theorem touches_visitAll (hl : L g) (hg : G g) (e : Env) (is : List PointIdx) (s : State) :
    Touches F L G s (State.visitAll g e is s).1 := by
  induction is generalizing s with
  | nil => exact Touches.refl F L G s
  | cons i is ih =>
    have hv := touches_visit (F := F) (L := L) hg s i
    unfold State.visitAll
    split
    · rename_i s1 f h
      rw [h] at hv
      exact hv.trans (touches_grantScan hl hg s1 i f e)
    · rename_i s1 h
      rw [h] at hv
      exact hv.trans (ih s1)

theorem touches_visitOn (hl : L g) (hg : G g) (s : State) (e : Env) : Touches F L G s (s.visitOn g e).1 :=
  touches_visitAll hl hg e _ s

theorem touches_walk (hl : L g) (hg : G g) (s : State) (e : Env) : Touches F L G s (s.walk g e).1 := by
  unfold State.walk
  dsimp only
  have h1 := touches_visitOn (F := F) (L := L) hl hg s e
  have h2 := h1.trans (touches_complete hg _)
  split
  · exact h1
  · split
    · split
      · exact h2.trans (touches_visitOn hl hg _ e)
      · exact (h2.trans (touches_visitOn hl hg _ e)).trans (touches_complete hg _)
    · exact h2

theorem touches_arbitrate (hl : L g) (hg : G g) (s : State) (e : Env) : Touches F L G s (s.arbitrate g e) := by
  unfold State.arbitrate
  dsimp only
  split
  · split
    · exact touches_grantHead hl hg s e
    · split
      · split
        · exact touches_walk hl hg s e
        · exact (touches_walk hl hg s e).trans (touches_grantHead hl hg _ e)
      · exact touches_grantHead hl hg s e
  · exact Touches.refl F L G s

/-! ### The demand queue, overruns, triggers, halts -/

theorem touches_joinQueue (hg : G g) (s : State) (i : PointIdx) (ports : PortSet) :
    Touches F L G s (s.joinQueue g i ports) := touches_modSched hg s _

theorem touches_offerUrgent (hg : G g) (s : State) (i : PointIdx) : Touches F L G s (s.offerUrgent g i) := by
  unfold State.offerUrgent
  split
  · exact touches_joinQueue hg s i _
  · exact Touches.refl F L G s

theorem touches_offerAgain (hg : G g) (s : State) (i : PointIdx) : Touches F L G s (s.offerAgain g i) := by
  unfold State.offerAgain
  split
  · exact touches_offerUrgent hg s i
  · exact Touches.refl F L G s

theorem touches_overrun (hl : L g) (hg : G g) (s : State) (e : Env) : Touches F L G s (s.overrun g e) := by
  unfold State.overrun
  dsimp only
  have h := ((touches_modSched (F := F) (L := L) hg s fun c =>
    { c with overruns := min (c.overruns + 1) Config.countMax }).trans (touches_raiseSeg _ g .overrun)).trans
    (touches_tally hg _ [.overruns] none)
  split
  · split
    · exact h.trans (touches_modSched hg _ _)
    · exact (h.trans (touches_applyCut hg _)).trans (touches_arbitrate hl hg _ e)
  · exact h

theorem touches_triggerAt (hl : L g) (hg : G g) (s : State) (v : Fin 16) (e : Env) : Touches F L G s (s.triggerAt g v e).1 := by
  unfold State.triggerAt
  split
  · split
    · exact (touches_startCycle hg s).trans (touches_arbitrate hl hg _ e)
    · exact touches_overrun hl hg s e
    · exact touches_overrun hl hg s e
    · exact Touches.refl F L G s
  · exact Touches.refl F L G s

theorem touches_trigger (hL : ∀ h, L h) (hG : ∀ h, G h) (s : State) (v : Fin 16) (e : Env) : Touches F L G s (s.trigger v e).1 :=
  (((touches_triggerAt (hL .s0) (hG .s0) s v e).trans (touches_triggerAt (hL .s1) (hG .s1) _ v e)).trans
    (touches_triggerAt (hL .s2) (hG .s2) _ v e)).trans (touches_triggerAt (hL .s3) (hG .s3) _ v e)

theorem touches_setGoing (hg : G g) (s : State) : Touches F L G s (s.setGoing g) := by
  unfold State.setGoing
  dsimp only
  split
  · exact ((touches_modSched hg s _).trans (touches_modSched hg _ _)).trans (touches_startCycle hg _)
  · split
    · exact (touches_modSched hg s _).trans (touches_startCycle hg _)
    · exact touches_modSched hg s _

theorem touches_leaveHalted (hg : G g) (s : State) : Touches F L G s (s.leaveHalted g) := by
  unfold State.leaveHalted
  split
  · exact touches_setGoing hg s
  · exact Touches.refl F L G s

theorem touches_linkReady (hl : L g) (hg : G g) (s : State) (e : Env) : Touches F L G s (s.linkReady g e) :=
  (touches_leaveHalted hg s).trans (touches_arbitrate hl hg _ e)

/-! ### Outcomes -/

theorem touches_readOk (s : State) (i : PointIdx) (v : Int) : Touches F L G s (s.readOk i v) := by
  unfold State.readOk
  dsimp only
  split
  · split
    · exact (touches_modPoint s i _).trans (touches_setQuality _ i _)
    · exact (touches_modPoint s i _).trans (touches_setQuality _ i _)
  · exact ((touches_modPoint s i _).trans (touches_setQuality _ i _)).trans (touches_evaluate _ i _ v)
  · exact ((touches_modPoint s i _).trans (touches_setQuality _ i _)).trans (touches_evaluate _ i _ v)

theorem touches_deliver (s : State) (i : PointIdx) : Touches F L G s (s.deliver i) := by
  unfold State.deliver
  dsimp only
  split
  · exact Touches.refl F L G s
  · exact (((touches_modPoint s i _).trans (touches_setQuality _ i _)).trans (touches_evaluate _ i _ _)).trans
      (touches_raiseWrite _ i _ _)

theorem touches_writeRefused (s : State) (i : PointIdx) : Touches F L G s (s.writeRefused i) := by
  unfold State.writeRefused
  split
  · exact Touches.refl F L G s
  · exact (touches_modPoint s i _).trans (touches_raiseWrite _ i _ _)

theorem touches_writeNotFinal (hg : G g) (s : State) (i : PointIdx) (k : GrantKind) :
    Touches F L G s (s.writeNotFinal g i k) := by
  unfold State.writeNotFinal
  dsimp only
  split
  · exact Touches.refl F L G s
  · rename_i f _
    have raise : ∀ (c : Prop) [Decidable c] (t : State) (r : WriteResult) (w : Writer),
        Touches F L G t (if c then t.raiseWrite i r w else t) := by
      intro c _ t r w
      split
      · exact touches_raiseWrite t i r w
      · exact Touches.refl F L G t
    split
    · exact (((touches_modPoint s i _).trans (raise ((s.point i).slot.isSome = true) _ _ _)).trans
        (raise ((s.point i).failed = 0) _ _ _)).trans (touches_offerAgain hg _ i)
    · exact ((touches_modPoint s i _).trans (raise ((s.point i).slot.isSome = true) _ _ _)).trans
        (raise ((s.point i).failed = 0) _ _ _)

theorem touches_outcomeLive (hg : G g) (s : State) (x : Exchange) (o : ExchangeOutcome) (received : Option Int) :
    Touches F L G s (s.outcomeLive g x o received) := by
  unfold State.outcomeLive
  split
  · split
    · exact touches_readOk s _ _
    · exact Touches.refl F L G s
  · exact touches_deliver s _
  · exact touches_setQuality s _ _
  · exact (touches_setQuality s _ _).trans (touches_writeRefused _ _)
  · exact Touches.refl F L G s
  · exact touches_writeNotFinal hg s _ _

theorem touches_outcomeRetiring (s : State) (i : PointIdx) (o : ExchangeOutcome) :
    Touches F L G s (s.outcomeRetiring i o) := by
  unfold State.outcomeRetiring
  dsimp only
  split
  · exact Touches.refl F L G s
  · exact (touches_modPoint s i _).trans (touches_raisePoint _ i _ _)

theorem touches_outcomePoint (hg : G g) (s : State) (x : Exchange) (o : ExchangeOutcome) (received : Option Int) :
    Touches F L G s (s.outcomePoint g x o received) := by
  unfold State.outcomePoint
  split
  · exact touches_outcomeLive hg s x o received
  · exact touches_outcomeRetiring s _ o
  · exact Touches.refl F L G s

theorem touches_nodeLost (s : State) (h : Seg) (n : NodeIdx) : Touches F L G s (s.nodeLost h n) :=
  touches_forPoints _ (fun i t => by
    split
    · exact touches_setQuality t i _
    · exact Touches.refl F L G t) _ s

theorem touches_judgeParts (n : NodeIdx) (changed lost : Bool) (part : Part) (s : State) :
    Touches F L G s (State.judgeParts g n changed lost part s) := by
  unfold State.judgeParts
  split
  · split
    · exact touches_raiseSeg s g _
    · exact Touches.refl F L G s
  · split
    · exact touches_nodeLost s g n
    · exact Touches.refl F L G s
  · exact Touches.refl F L G s

theorem touches_outcomeNode (hg : G g) (s : State) (x : Exchange) (o : ExchangeOutcome) (order : List Part) :
    Touches F L G s (s.outcomeNode g x o order) :=
  ((touches_modNode g s _ _).trans (touches_tally hg _ _ _)).trans
    (touches_takeParts _ (fun part t => touches_judgeParts _ _ _ part t) _ _)

theorem touches_outcomeClose (s : State) (i : PointIdx) : Touches F L G s (s.outcomeClose i) := by
  unfold State.outcomeClose
  split
  · exact touches_closePoint s i
  · exact Touches.refl F L G s

theorem touches_tellDemanders (s : State) (i : PointIdx) (o : DemandOutcome) : Touches F L G s (s.tellDemanders i o) := by
  unfold State.tellDemanders
  split
  · exact (touches_raisePoint s i _ _).trans (touches_modPoint _ i _)
  · exact Touches.refl F L G s

theorem touches_endDemand (hg : G g) (s : State) (i : PointIdx) (o : ExchangeOutcome) :
    Touches F L G s (s.endDemand g i o) :=
  ((touches_tellDemanders s i _).trans (touches_modSched hg _ _)).trans (touches_offerAgain hg _ i)

theorem touches_outcomeSched (hg : G g) (s : State) (x : Exchange) (o : ExchangeOutcome) :
    Touches F L G s (s.outcomeSched g x o) := by
  unfold State.outcomeSched
  dsimp only
  have h1 : Touches F L G s (if x.kind = .demand then s.endDemand g x.target o else s) := by
    split
    · exact touches_endDemand hg s _ o
    · exact Touches.refl F L G s
  generalize (if x.kind = .demand then s.endDemand g x.target o else s) = s1 at h1 ⊢
  have h2 : Touches F L G s (if (s1.sched g).scan = .stopping then s1.modSched g Scheduler.stop else s1) := by
    split
    · exact h1.trans (touches_modSched hg _ _)
    · exact h1
  generalize (if (s1.sched g).scan = .stopping then s1.modSched g Scheduler.stop else s1) = s2 at h2 ⊢
  split
  · exact h2
  · split
    · exact h2.trans (touches_applyCut hg _)
    · split
      · exact h2.trans (touches_complete hg _)
      · exact h2

theorem touches_applyOutcome (hg : G g) (s : State) (x : Exchange) (o : ExchangeOutcome) (received : Option Int)
    (order : List Part) : Touches F L G s (s.applyOutcome g x o received order) :=
  ((touches_outcomePoint hg s x o received).trans (touches_outcomeNode hg _ x o order)).trans (touches_outcomeClose _ _)

theorem touches_hand (hg : G g) (s : State) (x : Exchange) (o : ExchangeOutcome) (received : Option Int)
    (order : List Part) : Touches F L G s (s.hand g x o received order) :=
  (touches_applyOutcome hg s x o received order).trans (touches_outcomeSched hg _ x o)

/-! ### The Link Engine -/

theorem touches_settle (hl : L g) (hg : G g) (s : State) (x : Exchange) (o : ExchangeOutcome) (received : Option Int)
    (order : List Part) : Touches F L G s (s.settle g x o received order) :=
  (touches_hand hg s x o received order).trans (touches_modLink hl _ _)

theorem touches_endAttempt (hl : L g) (hg : G g) (s : State) (x : Exchange) (r : AttemptResult) (received : Option Int)
    (idle : Bool) (order : List Part) : Touches F L G s (s.endAttempt g x r received idle order) := by
  unfold State.endAttempt
  have h := touches_tally (F := F) (L := L) hg s (attemptEvents x r) (some x.node)
  cases r <;> dsimp only <;> first
    | exact h.trans (touches_settle hl hg _ _ _ _ order)
    | (split
       · first
         | exact h.trans (touches_beginAttempt hl _ _ idle)
         | exact h.trans (touches_modLink hl _ _)
       · exact h.trans (touches_settle hl hg _ _ _ _ order))

theorem touches_frameEnd (hl : L g) (hg : G g) (s : State) (x : Exchange) (frame : List RxChar) (order : List Part) :
    Touches F L G s (s.frameEnd g x frame order) := touches_endAttempt hl hg s x _ _ true order

theorem touches_lineFault (hl : L g) (hg : G g) (s : State) : Touches F L G s (s.lineFault g) := by
  unfold State.lineFault
  dsimp only
  have h1 : Touches F L G s
      (match (s.link g).exchange with
       | some x => s.hand g x .lineFault none []
       | none => s) := by
    split
    · exact touches_hand hg s _ _ none []
    · exact Touches.refl F L G s
  have h3 := ((h1.trans (touches_modLink hl _ fun l =>
    { l with faults := min ((s.link g).faults + 1) Config.faultsMax })).trans (touches_raiseSeg _ g .line)).trans
    (touches_tally hg _ [.lineFaults] none)
  split
  · exact h3.trans (touches_modLink hl _ _)
  · exact ((h3.trans (touches_modLink hl _ _)).trans (touches_raiseSeg _ g _)).trans (touches_modSched hg _ _)

theorem touches_enterReady (hl : L g) (hg : G g) (s : State) (e : Env) : Touches F L G s (s.enterReady g e) :=
  (touches_modLink hl s _).trans (touches_linkReady hl hg _ e)

/-! ### Feeds -/

theorem touches_feedEntersOn (hf : F g) (hl : L g) (hg : G g) (s : State) (e : Env) : Touches F L G s (s.feedEntersOn g e) :=
  (((((touches_modFeed hf s _).trans (touches_raiseSeg _ g _)).trans (touches_modLink hl _ _)).trans
    (touches_mapPoints _ _)).trans (touches_forPoints _ (fun i t => touches_offerAgain hg t i) _ _)).trans
    (touches_linkReady hl hg _ e)

theorem touches_feedSettles (hf : F g) (hl : L g) (hg : G g) (s : State) (e : Env) : Touches F L G s (s.feedSettles g e) := by
  unfold State.feedSettles
  split
  · exact touches_feedEntersOn hf hl hg s e
  · exact touches_modFeed hf s _

theorem touches_linkLosesFeed (hl : L g) (s : State) : Touches F L G s (s.linkLosesFeed g) := by
  unfold State.linkLosesFeed
  dsimp only
  split
  · exact (touches_raiseSeg s g _).trans (touches_modLink hl _ _)
  · exact touches_modLink hl s _

theorem touches_schedLosesFeed (hg : G g) (s : State) : Touches F L G s (s.schedLosesFeed g) := by
  unfold State.schedLosesFeed
  dsimp only
  exact Touches.trans (touches_forPoints _ (fun i t => touches_tellDemanders t i _) _ s) (touches_modSched hg _ _)

theorem touches_abandon (hg : G g) (s : State) (x : Option Exchange) (life : Life) :
    Touches F L G s (s.abandon g x life) := by
  unfold State.abandon
  split
  · split
    · exact touches_applyOutcome hg s _ _ none []
    · exact Touches.refl F L G s
  · exact Touches.refl F L G s

theorem touches_pointLosesFeed (hg : G g) (x : Option Exchange) (i : PointIdx) (s : State) :
    Touches F L G s (State.pointLosesFeed g x i s) := by
  unfold State.pointLosesFeed
  split
  · exact touches_setQuality s i _
  · exact touches_abandon hg s x _
  · exact Touches.refl F L G s

theorem touches_pointsLoseFeed (hg : G g) (s : State) (x : Option Exchange) :
    Touches F L G s (s.pointsLoseFeed g x) :=
  touches_forPoints _ (fun i t => touches_pointLosesFeed hg x i t) _ s

theorem touches_slotLosesFeed (hg : G g) (s : State) (x : Option Exchange) :
    Touches F L G s (s.slotLosesFeed g x) := touches_abandon hg s x _

theorem touches_nodesLoseFeed (g : Seg) (s : State) : Touches F L G s (s.nodesLoseFeed g) := touches_mapNodes g s _

/-- A feed part touches only segments whose feed leaves ON. -/
theorem touches_feedPart (leaves notice : Seg → Bool) (ended : Seg → Option Exchange) (change : Option DevReason)
    (hk : ∀ h, leaves h = true → L h) (hl : ∀ h, leaves h = true → G h) (part : Part) (s : State) :
    Touches F L G s (State.feedPart leaves notice ended change part s) := by
  unfold State.feedPart
  cases part <;> dsimp only <;> split <;> rename_i h <;> first
    | exact Touches.refl F L G s
    | exact touches_raiseSeg s _ _
    | exact touches_linkLosesFeed (hk _ h) s
    | exact touches_schedLosesFeed (hl _ h) s
    | exact touches_pointsLoseFeed (hl _ h) s _
    | exact touches_slotLosesFeed (hl _ h) s _
    | exact touches_nodesLoseFeed _ s
    | exact (touches_raiseDev s .a _).trans (touches_raiseDev _ .b _)

theorem touches_feedLeaves (hl : L g) (hg : G g) (s : State) (wasOn notice : Bool) (order : List Part) :
    Touches F L G s (s.feedLeaves g wasOn notice order) :=
  touches_takeParts _
    (fun part t => touches_feedPart _ _ _ none
      (fun h e => by
        simp only [Bool.and_eq_true, decide_eq_true_eq] at e
        exact e.1 ▸ hl)
      (fun h e => by
        simp only [Bool.and_eq_true, decide_eq_true_eq] at e
        exact e.1 ▸ hg) part t) _ s

theorem touches_feedTrips (hf : F g) (hl : L g) (hg : G g) (s : State) (order : List Part) :
    Touches F L G s (s.feedTrips g order) := (touches_modFeed hf s _).trans (touches_feedLeaves hl hg _ _ _ order)

theorem touches_feedSwitchedOff (hf : F g) (hl : L g) (hg : G g) (s : State) (order : List Part) :
    Touches F L G s (s.feedSwitchedOff g order) := (touches_modFeed hf s _).trans (touches_feedLeaves hl hg _ _ _ order)

end

end Sys2Proof.Machine
end

