-- ==== Sys2Proof/Laws/Notes.lean ====
section
/-! SUPPORT. What a port's attention list holds for a thing after a reason has arrived (R152 to R156): the notes of
Safety.lean under each raising operation, one lemma for the thing itself and one for every other. -/

namespace Sys2Proof.Machine

/-! ### Merging -/

/-- The entry that a merge leads to: the one found, or the fresh one, with the reason added. -/
theorem find_mergeEntry {same : Entry → Bool} {add : Entry → Entry} {fresh : Entry}
    (keep : ∀ e, same e = true → same (add e) = true) (hf : same fresh = true) (l : List Entry) :
    (mergeEntry same add fresh l).find? same = some (add ((l.find? same).getD fresh)) := by
  induction l with
  | nil => simp [mergeEntry, keep fresh hf]
  | cons e es ih =>
    rw [mergeEntry]
    cases h : same e with
    | true => simp [h, keep e h]
    | false => simp [h, ih]

/-- A merge is not seen by a search for another thing. -/
theorem find_mergeEntry_other {same other : Entry → Bool} {add : Entry → Entry} {fresh : Entry}
    (apart : ∀ e, same e = true → other e = false) (keep : ∀ e, same e = true → other (add e) = false)
    (hf : same fresh = true) (l : List Entry) : (mergeEntry same add fresh l).find? other = l.find? other := by
  induction l with
  | nil => simp [mergeEntry, keep fresh hf]
  | cons e es ih =>
    rw [mergeEntry]
    cases h : same e with
    | true => simp [keep e h, apart e h]
    | false => simp [List.find?_cons, ih]

/-- The list of one port, rewritten. -/
theorem attention_modPort (s : State) (p q : Port) (f : List Entry → List Entry) :
    ((s.modPort p fun u => { u with attention := f u.attention }).port q).attention =
      if q = p then f (s.port q).attention else (s.port q).attention := by
  rw [port_modPort]
  by_cases h : q = p
  · subst h
    simp
  · simp [h]

/-! ### The three notes -/

/-- The note in what a search for a point finds. -/
def foundNote : Option Entry → PointNote
  | some (.point _ _ n) => n
  | _ => .empty

theorem noteOf_of_find {s : State} {p : Port} {i : PointIdx} {e : Option Entry}
    (h : (s.port p).attention.find? (Entry.isPoint i (s.point i).generation) = e) : s.noteOf p i = foundNote e := by
  subst h
  rfl

theorem noteOf_congr {s t : State} {p : Port} {i : PointIdx} (hl : (t.port p).attention = (s.port p).attention)
    (hg : (t.point i).generation = (s.point i).generation) : t.noteOf p i = s.noteOf p i := by
  rw [State.noteOf, State.noteOf, hl, hg]

theorem segNoteOf_congr {s t : State} {p : Port} {g : Seg} (hl : (t.port p).attention = (s.port p).attention) :
    t.segNoteOf p g = s.segNoteOf p g := by
  rw [State.segNoteOf, State.segNoteOf, hl]

theorem devNoteOf_congr {s t : State} {p : Port} (hl : (t.port p).attention = (s.port p).attention) :
    t.devNoteOf p = s.devNoteOf p := by
  rw [State.devNoteOf, State.devNoteOf, hl]

theorem isPoint_eq {i : PointIdx} {gen : Byte} {e : Entry} (h : e.isPoint i gen = true) :
    ∃ n, e = .point i gen n := by
  cases e with
  | point j k n =>
    obtain ⟨rfl, rfl⟩ := of_decide_eq_true h
    exact ⟨n, rfl⟩
  | segment g n => cases h
  | device n => cases h

theorem isSegment_eq {g : Seg} {e : Entry} (h : e.isSegment g = true) : ∃ n, e = .segment g n := by
  cases e with
  | point j k n => cases h
  | segment k n =>
    obtain rfl := of_decide_eq_true h
    exact ⟨n, rfl⟩
  | device n => cases h

theorem isDevice_eq {e : Entry} (h : e.isDevice = true) : ∃ n, e = .device n := by
  cases e with
  | point j k n => cases h
  | segment k n => cases h
  | device n => exact ⟨n, rfl⟩

/-! ### A reason of a point -/

theorem noteOf_notePoint (s : State) (p : Port) (i : PointIdx) (r : PointReason) :
    (s.notePoint p i r).noteOf p i = (s.noteOf p i).add r := by
  have keep : ∀ e, Entry.isPoint i (s.point i).generation e = true →
      Entry.isPoint i (s.point i).generation (Entry.addPoint r e) = true := fun e h => by
    obtain ⟨n, rfl⟩ := isPoint_eq h
    exact h
  have hl := attention_modPort s p p
    (mergeEntry (Entry.isPoint i (s.point i).generation) (Entry.addPoint r) (.point i (s.point i).generation .empty))
  rw [if_pos rfl] at hl
  have hf := find_mergeEntry keep (fresh := .point i (s.point i).generation .empty) (by simp [Entry.isPoint])
    (s.port p).attention
  rw [noteOf_of_find (s := s.notePoint p i r) (p := p) (i := i) ((congrArg (List.find? _) hl).trans hf),
    noteOf_of_find (s := s) (p := p) (i := i) rfl]
  cases h : (s.port p).attention.find? (Entry.isPoint i (s.point i).generation) with
  | none => rfl
  | some e =>
    obtain ⟨n, rfl⟩ := isPoint_eq (List.find?_some h)
    rfl

theorem noteOf_notePoint_ne (s : State) {p q : Port} {i j : PointIdx} (r : PointReason) (h : q ≠ p ∨ j ≠ i) :
    (s.notePoint p i r).noteOf q j = s.noteOf q j := by
  have hl := attention_modPort s p q
    (mergeEntry (Entry.isPoint i (s.point i).generation) (Entry.addPoint r) (.point i (s.point i).generation .empty))
  by_cases hq : q = p
  · have hj : j ≠ i := h.resolve_left fun k => k hq
    have apart : ∀ e, Entry.isPoint i (s.point i).generation e = true →
        Entry.isPoint j (s.point j).generation e = false := fun e k => by
      obtain ⟨n, rfl⟩ := isPoint_eq k
      simp [Entry.isPoint, hj.symm]
    have keep : ∀ e, Entry.isPoint i (s.point i).generation e = true →
        Entry.isPoint j (s.point j).generation (Entry.addPoint r e) = false := fun e k => by
      obtain ⟨n, rfl⟩ := isPoint_eq k
      simp [Entry.isPoint, Entry.addPoint, hj.symm]
    rw [if_pos hq] at hl
    have hf := find_mergeEntry_other (other := Entry.isPoint j (s.point j).generation) apart keep
      (fresh := .point i (s.point i).generation .empty) (by simp [Entry.isPoint]) (s.port q).attention
    exact (noteOf_of_find (s := s.notePoint p i r) (p := q) (i := j) ((congrArg (List.find? _) hl).trans hf)).trans
      (noteOf_of_find (s := s) (p := q) (i := j) rfl).symm
  · rw [if_neg hq] at hl
    exact noteOf_congr hl rfl

theorem noteOf_raisePoint (s : State) (i j : PointIdx) (r : PointReason) (dst : PortSet) (p : Port) :
    (s.raisePoint i r dst).noteOf p j =
      if j = i ∧ dst.get p = true then (s.noteOf p j).add r else s.noteOf p j := by
  have ab : Port.a ≠ Port.b := nofun
  have ba : Port.b ≠ Port.a := nofun
  unfold State.raisePoint
  dsimp only
  by_cases hj : j = i
  · subst hj
    cases p <;> cases ha : dst.a <;> cases hb : dst.b <;>
      simp [PerPort.get, ha, hb, noteOf_notePoint, noteOf_notePoint_ne _ _ (Or.inl ab),
        noteOf_notePoint_ne _ _ (Or.inl ba)]
  · cases ha : dst.a <;> cases hb : dst.b <;> simp [hj, noteOf_notePoint_ne _ _ (Or.inr hj)]

theorem segNoteOf_notePoint (s : State) (p q : Port) (i : PointIdx) (g : Seg) (r : PointReason) :
    (s.notePoint p i r).segNoteOf q g = s.segNoteOf q g := by
  have hl := attention_modPort s p q
    (mergeEntry (Entry.isPoint i (s.point i).generation) (Entry.addPoint r) (.point i (s.point i).generation .empty))
  by_cases hq : q = p
  · rw [if_pos hq] at hl
    have hf := find_mergeEntry_other (same := Entry.isPoint i (s.point i).generation) (other := Entry.isSegment g)
      (add := Entry.addPoint r) (fresh := .point i (s.point i).generation .empty)
      (fun e k => by obtain ⟨n, rfl⟩ := isPoint_eq k; rfl) (fun e k => by obtain ⟨n, rfl⟩ := isPoint_eq k; rfl)
      (by simp [Entry.isPoint]) (s.port q).attention
    exact congrArg (fun e => match e with
      | some (Entry.segment _ n) => n
      | _ => SegNote.empty) ((congrArg (List.find? _) hl).trans hf)
  · rw [if_neg hq] at hl
    exact segNoteOf_congr hl

/-! ### A reason of a segment -/

theorem segNoteOf_noteSeg (s : State) (p : Port) (g : Seg) (r : SegReason) :
    (s.noteSeg p g r).segNoteOf p g =
      if (s.port p).segMask.getLsbD r.bit = true then (s.segNoteOf p g).add r else s.segNoteOf p g := by
  unfold State.noteSeg
  by_cases hm : (s.port p).segMask.getLsbD r.bit = true
  · rw [if_pos hm, if_pos hm]
    have keep : ∀ e, Entry.isSegment g e = true → Entry.isSegment g (Entry.addSegment r e) = true := fun e h => by
      obtain ⟨n, rfl⟩ := isSegment_eq h
      exact h
    have hl := attention_modPort s p p
      (mergeEntry (Entry.isSegment g) (Entry.addSegment r) (.segment g .empty))
    rw [if_pos rfl] at hl
    have hf := find_mergeEntry keep (fresh := .segment g .empty) (by simp [Entry.isSegment]) (s.port p).attention
    unfold State.segNoteOf
    rw [hl, hf]
    cases h : (s.port p).attention.find? (Entry.isSegment g) with
    | none => rfl
    | some e =>
      obtain ⟨n, rfl⟩ := isSegment_eq (List.find?_some h)
      rfl
  · rw [if_neg hm, if_neg hm]

theorem segNoteOf_noteSeg_ne (s : State) {p q : Port} {g h : Seg} (r : SegReason) (hn : q ≠ p ∨ h ≠ g) :
    (s.noteSeg p g r).segNoteOf q h = s.segNoteOf q h := by
  unfold State.noteSeg
  split
  · have hl := attention_modPort s p q (mergeEntry (Entry.isSegment g) (Entry.addSegment r) (.segment g .empty))
    by_cases hq : q = p
    · have hh : h ≠ g := hn.resolve_left fun k => k hq
      rw [if_pos hq] at hl
      have hf := find_mergeEntry_other (same := Entry.isSegment g) (other := Entry.isSegment h)
        (add := Entry.addSegment r) (fresh := .segment g .empty)
        (fun e k => by obtain ⟨n, rfl⟩ := isSegment_eq k; simp [Entry.isSegment, hh.symm])
        (fun e k => by obtain ⟨n, rfl⟩ := isSegment_eq k; simp [Entry.isSegment, Entry.addSegment, hh.symm])
        (by simp [Entry.isSegment]) (s.port q).attention
      unfold State.segNoteOf
      rw [hl, hf]
    · rw [if_neg hq] at hl
      exact segNoteOf_congr hl
  · rfl

theorem segMask_noteSeg (s : State) (p q : Port) (g : Seg) (r : SegReason) :
    ((s.noteSeg p g r).port q).segMask = (s.port q).segMask := by
  have h := congrArg PortUnit.segMask ((noteSeg_noticesOnly s p g r).ports q)
  exact h

theorem segNoteOf_raiseSeg (s : State) (g h : Seg) (r : SegReason) (p : Port) :
    (s.raiseSeg g r).segNoteOf p h =
      if h = g ∧ (s.port p).segMask.getLsbD r.bit = true then (s.segNoteOf p h).add r else s.segNoteOf p h := by
  have ab : Port.a ≠ Port.b := nofun
  have ba : Port.b ≠ Port.a := nofun
  unfold State.raiseSeg
  by_cases hh : h = g
  · subst hh
    cases p with
    | a => rw [segNoteOf_noteSeg_ne _ _ (Or.inl ab), segNoteOf_noteSeg]; simp
    | b =>
      rw [segNoteOf_noteSeg, segMask_noteSeg, segNoteOf_noteSeg_ne _ _ (Or.inl ba)]
      simp
  · rw [segNoteOf_noteSeg_ne _ _ (Or.inr hh), segNoteOf_noteSeg_ne _ _ (Or.inr hh)]
    simp [hh]

theorem noteOf_noteSeg (s : State) (p q : Port) (g : Seg) (j : PointIdx) (r : SegReason) :
    (s.noteSeg p g r).noteOf q j = s.noteOf q j := by
  unfold State.noteSeg
  split
  · have hl := attention_modPort s p q (mergeEntry (Entry.isSegment g) (Entry.addSegment r) (.segment g .empty))
    by_cases hq : q = p
    · rw [if_pos hq] at hl
      have hf := find_mergeEntry_other (same := Entry.isSegment g) (other := Entry.isPoint j (s.point j).generation)
        (add := Entry.addSegment r) (fresh := .segment g .empty)
        (fun e k => by obtain ⟨n, rfl⟩ := isSegment_eq k; rfl) (fun e k => by obtain ⟨n, rfl⟩ := isSegment_eq k; rfl)
        (by simp [Entry.isSegment]) (s.port q).attention
      exact (noteOf_of_find ((congrArg (List.find? _) hl).trans hf)).trans
        (noteOf_of_find (s := s) (p := q) (i := j) rfl).symm
    · rw [if_neg hq] at hl
      exact noteOf_congr hl rfl
  · rfl

theorem noteOf_raiseSeg (s : State) (g : Seg) (j : PointIdx) (r : SegReason) (p : Port) :
    (s.raiseSeg g r).noteOf p j = s.noteOf p j := by
  rw [State.raiseSeg, noteOf_noteSeg, noteOf_noteSeg]

/-! ### A reason of the device -/

theorem devNoteOf_raiseDev (s : State) (p : Port) (r : DevReason) :
    (s.raiseDev p r).devNoteOf p =
      if (s.port p).devMask.getLsbD r.bit = true then s.devNoteOf p ||| BitVec.twoPow 5 r.bit else s.devNoteOf p := by
  unfold State.raiseDev
  by_cases hm : (s.port p).devMask.getLsbD r.bit = true
  · rw [if_pos hm, if_pos hm]
    have keep : ∀ e, Entry.isDevice e = true → Entry.isDevice (Entry.addDevice r e) = true := fun e h => by
      obtain ⟨n, rfl⟩ := isDevice_eq h
      rfl
    have hl := attention_modPort s p p (mergeEntry Entry.isDevice (Entry.addDevice r) (.device 0))
    rw [if_pos rfl] at hl
    have hf := find_mergeEntry keep (fresh := .device 0) rfl (s.port p).attention
    unfold State.devNoteOf
    rw [hl, hf]
    cases h : (s.port p).attention.find? Entry.isDevice with
    | none => rfl
    | some e =>
      obtain ⟨n, rfl⟩ := isDevice_eq (List.find?_some h)
      rfl
  · rw [if_neg hm, if_neg hm]

theorem devNoteOf_raiseDev_ne (s : State) {p q : Port} (r : DevReason) (h : q ≠ p) :
    (s.raiseDev p r).devNoteOf q = s.devNoteOf q :=
  devNoteOf_congr (congrArg PortUnit.attention (port_raiseDev_ne s r h))

theorem noteOf_raiseDev (s : State) (p q : Port) (j : PointIdx) (r : DevReason) :
    (s.raiseDev p r).noteOf q j = s.noteOf q j := by
  unfold State.raiseDev
  split
  · have hl := attention_modPort s p q (mergeEntry Entry.isDevice (Entry.addDevice r) (.device 0))
    by_cases hq : q = p
    · rw [if_pos hq] at hl
      have hf := find_mergeEntry_other (same := Entry.isDevice) (other := Entry.isPoint j (s.point j).generation)
        (add := Entry.addDevice r) (fresh := .device 0)
        (fun e k => by obtain ⟨n, rfl⟩ := isDevice_eq k; rfl) (fun e k => by obtain ⟨n, rfl⟩ := isDevice_eq k; rfl)
        rfl (s.port q).attention
      exact (noteOf_of_find ((congrArg (List.find? _) hl).trans hf)).trans
        (noteOf_of_find (s := s) (p := q) (i := j) rfl).symm
    · rw [if_neg hq] at hl
      exact noteOf_congr hl rfl
  · rfl

/-! ### The quality of a point -/

/-- QUALITY reaches the subscribers of a point whose quality changes, and nothing else of any note (R36). -/
theorem noteOf_setQuality (s : State) (i j : PointIdx) (q : Quality) (p : Port) :
    (s.setQuality i q).noteOf p j =
      if j = i ∧ (s.point i).quality ≠ q ∧ ((s.point i).subscribers 2).get p = true then
        (s.noteOf p j).add .quality
      else s.noteOf p j := by
  unfold State.setQuality
  have hp : (s.modPoint i fun t => { t with quality := q }).noteOf p j = s.noteOf p j := by
    refine noteOf_congr rfl ?_
    by_cases hj : j = i
    · subst hj
      simp
    · rw [point_modPoint_ne s _ hj]
  by_cases h : (s.point i).quality = q
  · simp [h]
  · simp [h, noteOf_raisePoint, hp]

end Sys2Proof.Machine
end

