-- ==== Sys2Proof/Laws/PerInstr.lean ====
section
/-! SUPPORT. What holds of every command and event as a term, row by row: a well-formed command row travels as
the frame of its code, tag and parameters on its port, with at most 48 parameters (R163); a row travels as a
frame exactly when it has a port; and what a row says of the outside is well formed. -/

namespace Sys2Proof.Laws.RowFrame

open Sys2Proof.Machine

/-- The row's frame, port, parameters and order agree with its parts. -/
def Statement (i : Instr) : Prop :=
  i.wellFormed = true →
    (∀ p code tag ps, commandParts i = some (p, code, tag, ps) →
      frameOf i = some (commandFrame code tag ps) ∧ portOfInstr i = some p ∧ ps.length ≤ 48) ∧
    (frameOf i).isSome = (portOfInstr i).isSome ∧
    ∀ d : Env, d.wellFormed = true → (envOf d i).wellFormed = true

/-- A command row whose well-formedness says that its parameters fit, and its order where it has one. -/
theorem of_parts {i : Instr} {p : Port} {code tag : Byte} {ps : List Byte}
    (hc : commandParts i = some (p, code, tag, ps)) (hf : frameOf i = some (commandFrame code tag ps))
    (hp : portOfInstr i = some p) (hl : i.wellFormed = true → paramsFit ps = true)
    (he : i.wellFormed = true → ∀ d : Env, d.wellFormed = true → (envOf d i).wellFormed = true) : Statement i := by
  intro w
  refine ⟨fun p' c' t' ps' h => ?_, by rw [hf, hp]; rfl, he w⟩
  obtain ⟨rfl, rfl, rfl, rfl⟩ : p = p' ∧ code = c' ∧ tag = t' ∧ ps = ps' := by
    simpa using hc.symm.trans h
  exact ⟨hf, hp, of_decide_eq_true (hl w)⟩

/-- A row without command parts that says nothing of the outside to a frame. -/
theorem of_none {i : Instr} (hc : commandParts i = none) (hs : (frameOf i).isSome = (portOfInstr i).isSome)
    (he : ∀ d : Env, envOf d i = d) : Statement i := by
  intro _
  exact ⟨fun p c t ps h => (by rw [hc] at h; cases h), hs, fun d h => (he d).symm ▸ h⟩

theorem noop (p : Port) (tag : Byte) (ps : List Byte) : Statement (.noop p tag ps) :=
  of_parts rfl rfl rfl id (fun _ _ h => h)

theorem readIdentity (p : Port) (tag : Byte) (ps : List Byte) : Statement (.readIdentity p tag ps) :=
  of_parts rfl rfl rfl id (fun _ _ h => h)

theorem setSupervision (p : Port) (tag : Byte) (ps : List Byte) : Statement (.setSupervision p tag ps) :=
  of_parts rfl rfl rfl id (fun _ _ h => h)

theorem setRights (p : Port) (tag : Byte) (ps : List Byte) : Statement (.setRights p tag ps) :=
  of_parts rfl rfl rfl id (fun _ _ h => h)

theorem readRights (p : Port) (tag : Byte) (ps : List Byte) : Statement (.readRights p tag ps) :=
  of_parts rfl rfl rfl id (fun _ _ h => h)

theorem resetPort (p : Port) (tag : Byte) (ps : List Byte) : Statement (.resetPort p tag ps) :=
  of_parts rfl rfl rfl id (fun _ _ h => h)

theorem resetDevice (p : Port) (tag : Byte) (ps : List Byte) (x : Samples) : Statement (.resetDevice p tag ps x) :=
  of_parts rfl rfl rfl id (fun _ _ h => h)

theorem unknownCommand (p : Port) (code : Byte) (tag : Byte) (ps : List Byte) :
    Statement (.unknownCommand p code tag ps) :=
  of_parts rfl rfl rfl (fun w => ((Bool.and_eq_true _ _).mp w).1) (fun _ _ h => h)

theorem frameRejected (p : Port) (bytes : List Byte) : Statement (.frameRejected p bytes) :=
  of_none rfl rfl (fun _ => rfl)

theorem fetch (p : Port) (cs : ChipSelect) : Statement (.fetch p cs) :=
  of_none rfl (match cs with
    | .falls => rfl
    | .rises 0 => rfl
    | .rises (_ + 1) => rfl) fun _ => rfl

theorem definePoint (p : Port) (tag : Byte) (ps : List Byte) : Statement (.definePoint p tag ps) :=
  of_parts rfl rfl rfl id (fun _ _ h => h)

theorem retirePoint (p : Port) (tag : Byte) (ps : List Byte) (e : Env) : Statement (.retirePoint p tag ps e) :=
  of_parts rfl rfl rfl (fun w => ((Bool.and_eq_true _ _).mp w).1) (fun w _ _ => ((Bool.and_eq_true _ _).mp w).2)

theorem modifyPoint (p : Port) (tag : Byte) (ps : List Byte) (e : Env) : Statement (.modifyPoint p tag ps e) :=
  of_parts rfl rfl rfl (fun w => ((Bool.and_eq_true _ _).mp w).1) (fun w _ _ => ((Bool.and_eq_true _ _).mp w).2)

theorem listPoints (p : Port) (tag : Byte) (ps : List Byte) : Statement (.listPoints p tag ps) :=
  of_parts rfl rfl rfl id (fun _ _ h => h)

theorem readPoint (p : Port) (tag : Byte) (ps : List Byte) : Statement (.readPoint p tag ps) :=
  of_parts rfl rfl rfl id (fun _ _ h => h)

theorem readBlock (p : Port) (tag : Byte) (ps : List Byte) : Statement (.readBlock p tag ps) :=
  of_parts rfl rfl rfl id (fun _ _ h => h)

theorem demandRead (p : Port) (tag : Byte) (ps : List Byte) (e : Env) : Statement (.demandRead p tag ps e) :=
  of_parts rfl rfl rfl (fun w => ((Bool.and_eq_true _ _).mp w).1) (fun w _ _ => ((Bool.and_eq_true _ _).mp w).2)

theorem setBand (p : Port) (tag : Byte) (ps : List Byte) : Statement (.setBand p tag ps) :=
  of_parts rfl rfl rfl id (fun _ _ h => h)

theorem clearBand (p : Port) (tag : Byte) (ps : List Byte) : Statement (.clearBand p tag ps) :=
  of_parts rfl rfl rfl id (fun _ _ h => h)

theorem setDeadband (p : Port) (tag : Byte) (ps : List Byte) : Statement (.setDeadband p tag ps) :=
  of_parts rfl rfl rfl id (fun _ _ h => h)

theorem writePoint (p : Port) (tag : Byte) (ps : List Byte) (e : Env) : Statement (.writePoint p tag ps e) :=
  of_parts rfl rfl rfl (fun w => ((Bool.and_eq_true _ _).mp w).1) (fun w _ _ => ((Bool.and_eq_true _ _).mp w).2)

theorem cancelWrite (p : Port) (tag : Byte) (ps : List Byte) : Statement (.cancelWrite p tag ps) :=
  of_parts rfl rfl rfl id (fun _ _ h => h)

theorem setSafeValue (p : Port) (tag : Byte) (ps : List Byte) : Statement (.setSafeValue p tag ps) :=
  of_parts rfl rfl rfl id (fun _ _ h => h)

theorem configureScan (p : Port) (tag : Byte) (ps : List Byte) : Statement (.configureScan p tag ps) :=
  of_parts rfl rfl rfl id (fun _ _ h => h)

theorem startScan (p : Port) (tag : Byte) (ps : List Byte) (e : Env) : Statement (.startScan p tag ps e) :=
  of_parts rfl rfl rfl (fun w => ((Bool.and_eq_true _ _).mp w).1) (fun w _ _ => ((Bool.and_eq_true _ _).mp w).2)

theorem stopScan (p : Port) (tag : Byte) (ps : List Byte) : Statement (.stopScan p tag ps) :=
  of_parts rfl rfl rfl id (fun _ _ h => h)

theorem finishScan (p : Port) (tag : Byte) (ps : List Byte) : Statement (.finishScan p tag ps) :=
  of_parts rfl rfl rfl id (fun _ _ h => h)

theorem fireTrigger (p : Port) (tag : Byte) (ps : List Byte) (e : Env) : Statement (.fireTrigger p tag ps e) :=
  of_parts rfl rfl rfl (fun w => ((Bool.and_eq_true _ _).mp w).1) (fun w _ _ => ((Bool.and_eq_true _ _).mp w).2)

theorem configureTriggerInput (p : Port) (tag : Byte) (ps : List Byte) : Statement (.configureTriggerInput p tag ps) :=
  of_parts rfl rfl rfl id (fun _ _ h => h)

theorem configureLink (p : Port) (tag : Byte) (ps : List Byte) : Statement (.configureLink p tag ps) :=
  of_parts rfl rfl rfl id (fun _ _ h => h)

theorem recoverLine (p : Port) (tag : Byte) (ps : List Byte) : Statement (.recoverLine p tag ps) :=
  of_parts rfl rfl rfl id (fun _ _ h => h)

theorem readNodes (p : Port) (tag : Byte) (ps : List Byte) : Statement (.readNodes p tag ps) :=
  of_parts rfl rfl rfl id (fun _ _ h => h)

theorem releaseNode (p : Port) (tag : Byte) (ps : List Byte) : Statement (.releaseNode p tag ps) :=
  of_parts rfl rfl rfl id (fun _ _ h => h)

theorem configureTally (p : Port) (tag : Byte) (ps : List Byte) : Statement (.configureTally p tag ps) :=
  of_parts rfl rfl rfl id (fun _ _ h => h)

theorem readTally (p : Port) (tag : Byte) (ps : List Byte) : Statement (.readTally p tag ps) :=
  of_parts rfl rfl rfl id (fun _ _ h => h)

theorem configureFeed (p : Port) (tag : Byte) (ps : List Byte) : Statement (.configureFeed p tag ps) :=
  of_parts rfl rfl rfl id (fun _ _ h => h)

theorem feedOn (p : Port) (tag : Byte) (ps : List Byte) : Statement (.feedOn p tag ps) :=
  of_parts rfl rfl rfl id (fun _ _ h => h)

theorem feedOff (p : Port) (tag : Byte) (ps : List Byte) (e : Env) : Statement (.feedOff p tag ps e) :=
  of_parts rfl rfl rfl (fun w => ((Bool.and_eq_true _ _).mp w).1) (fun w _ _ => ((Bool.and_eq_true _ _).mp w).2)

theorem readFeeds (p : Port) (tag : Byte) (ps : List Byte) : Statement (.readFeeds p tag ps) :=
  of_parts rfl rfl rfl id (fun _ _ h => h)

theorem subscribe (p : Port) (tag : Byte) (ps : List Byte) : Statement (.subscribe p tag ps) :=
  of_parts rfl rfl rfl id (fun _ _ h => h)

theorem unsubscribe (p : Port) (tag : Byte) (ps : List Byte) : Statement (.unsubscribe p tag ps) :=
  of_parts rfl rfl rfl id (fun _ _ h => h)

theorem takeAttention (p : Port) (tag : Byte) (ps : List Byte) : Statement (.takeAttention p tag ps) :=
  of_parts rfl rfl rfl id (fun _ _ h => h)

theorem setNoticeMask (p : Port) (tag : Byte) (ps : List Byte) : Statement (.setNoticeMask p tag ps) :=
  of_parts rfl rfl rfl id (fun _ _ h => h)

theorem supervisionLapse (p : Port) (e : Env) : Statement (.supervisionLapse p e) :=
  of_none rfl rfl (fun _ => rfl)

theorem ageTick : Statement .ageTick :=
  of_none rfl rfl (fun _ => rfl)

theorem staleExpiry (i : Fin 256) : Statement (.staleExpiry i) :=
  of_none rfl rfl (fun _ => rfl)

theorem periodBoundary (g : Seg) (e : Env) : Statement (.periodBoundary g e) :=
  of_none rfl rfl (fun _ => rfl)

theorem deferredStart (g : Seg) (e : Env) : Statement (.deferredStart g e) :=
  of_none rfl rfl (fun _ => rfl)

theorem triggerInputEdge (t : Trg) (level : Bool) (e : Env) : Statement (.triggerInputEdge t level e) :=
  of_none rfl rfl (fun _ => rfl)

theorem requestSent (g : Seg) : Statement (.requestSent g) :=
  of_none rfl rfl (fun _ => rfl)

theorem responseStartBit (g : Seg) : Statement (.responseStartBit g) :=
  of_none rfl rfl (fun _ => rfl)

theorem responseWindowExpiry (g : Seg) (e : Env) : Statement (.responseWindowExpiry g e) :=
  of_none rfl rfl (fun _ => rfl)

theorem responseFrameEnd (g : Seg) (frame : List RxChar) (e : Env) : Statement (.responseFrameEnd g frame e) :=
  of_none rfl rfl (fun _ => rfl)

theorem tenthCharacter (g : Seg) (e : Env) : Statement (.tenthCharacter g e) :=
  of_none rfl rfl (fun _ => rfl)

theorem backoffExpiry (g : Seg) (e : Env) : Statement (.backoffExpiry g e) :=
  of_none rfl rfl (fun _ => rfl)

theorem idleWaitLineIdle (g : Seg) : Statement (.idleWaitLineIdle g) :=
  of_none rfl rfl (fun _ => rfl)

theorem idleWaitExpiry (g : Seg) : Statement (.idleWaitExpiry g) :=
  of_none rfl rfl (fun _ => rfl)

theorem transmitterCurrentLimit (g : Seg) : Statement (.transmitterCurrentLimit g) :=
  of_none rfl rfl (fun _ => rfl)

theorem gapEnd (g : Seg) (e : Env) : Statement (.gapEnd g e) :=
  of_none rfl rfl (fun _ => rfl)

theorem recoveryExpiry (g : Seg) (e : Env) : Statement (.recoveryExpiry g e) :=
  of_none rfl rfl (fun _ => rfl)

theorem recoveryLineIdle (g : Seg) : Statement (.recoveryLineIdle g) :=
  of_none rfl rfl (fun _ => rfl)

theorem clampBegin (g : Seg) : Statement (.clampBegin g) :=
  of_none rfl rfl (fun _ => rfl)

theorem clampEnd (g : Seg) : Statement (.clampEnd g) :=
  of_none rfl rfl (fun _ => rfl)

theorem feedTrip (g : Seg) (ticks : Nat) (outputLow : Bool) (e : Env) : Statement (.feedTrip g ticks outputLow e) :=
  of_none rfl rfl (fun _ => rfl)

theorem startTimerExpiry (g : Seg) (e : Env) : Statement (.startTimerExpiry g e) :=
  of_none rfl rfl (fun _ => rfl)

theorem settleTimerExpiry (g : Seg) (e : Env) : Statement (.settleTimerExpiry g e) :=
  of_none rfl rfl (fun _ => rfl)

theorem retryTimerExpiry (g : Seg) : Statement (.retryTimerExpiry g) :=
  of_none rfl rfl (fun _ => rfl)

theorem supplyLevelChange (vfield : Nat) (e : Env) : Statement (.supplyLevelChange vfield e) :=
  of_none rfl rfl (fun _ => rfl)

theorem temperatureLevelChange (temp : Int) (e : Env) : Statement (.temperatureLevelChange temp e) :=
  of_none rfl rfl (fun _ => rfl)

theorem vddBrownout : Statement .vddBrownout :=
  of_none rfl rfl (fun _ => rfl)

theorem powerOn : Statement .powerOn :=
  of_none rfl rfl (fun _ => rfl)

theorem resetPin : Statement .resetPin :=
  of_none rfl rfl (fun _ => rfl)

theorem resetExit (x : Samples) : Statement (.resetExit x) :=
  of_none rfl rfl (fun _ => rfl)

end Sys2Proof.Laws.RowFrame
end

