-- ==== Sys2Proof/Tests/Slice0.lean ====
section
/-! SUPPORT. Tests: what the well-formedness check refuses, frames written out from the spec, results of single
steps on small states, and for every obligation with hypotheses a state and operands that meet them. -/

namespace Sys2Proof.Tests

-- One theorem at a time: the kernel evaluates most of them, each on a thread with a large stack.
set_option Elab.async false

open Sys2Proof Sys2Proof.Machine

/-! ### Small states -/

/-- The state a step leads to. -/
def after (i : Instr) (s : State) : State :=
  match exec i s with
  | .next t => t
  | _ => s

theorem exec_after (i : Instr) (s : State) (h : ∃ t, exec i s = .next t) : exec i s = .next (after i s) := by
  obtain ⟨t, ht⟩ := h
  simp [after, ht]

/-- Every pair idle, no order given. -/
def calm : Env := ⟨⟨true, true, true, true⟩, []⟩

/-- Pair 0 not idle. -/
def busyLine : Env := ⟨⟨false, true, true, true⟩, [.sched .s0, .points .s0]⟩

/-- VFIELD 24 V, 25 °C, both triggers low. -/
def fine : Samples := ⟨24000, 25000, false, false⟩

/-- An OUTPUT point of 2 signed bytes on node 1 of segment 0, value 100 in group 0, both ports subscribed. -/
def out0 : Point :=
  { Point.cleared 3 with
    life := .live, kind := .output, seg := .s0, node := 0, object := 5, width := .w2, signed := true, divider := 1
    staleLimit := 10, age := 10, value := some 100, quality := .good, safe := some 7, subs := ⟨15, 1⟩ }

/-- The same as an INPUT point. -/
def in0 : Point := { out0 with kind := .input, safe := none }

/-- Point 0 as given, alone in the scan list of segment 0 and counted at node 1, with the feed, the link, the
scan and the demand queue of segment 0 as given. -/
def lab (t : Point) (f : FeedState) (l : LinkState) (c : ScanState) (q : List DemandEntry) : State :=
  ((((State.reset.setPoint 0 t).modFeed .s0 fun d =>
    { d with state := f, enable := true, clampTimer := true, startTimer := some 15000, settleTimer := some 20000
             retryTimer := some 2000000 }).modLink .s0 fun k =>
    { k with state := l, idleTimer := none }).modSched .s0 fun v =>
    { v with
      list := [0], cursor := if c.inCycle then some 0 else none, scan := c, queue := q, periodTimer := some 10000
      deferred := true }).modNode .s0 0 fun _ => ⟨.online, 1, 0, false⟩

/-- A scan READ of point 0 with its first attempt under way. -/
def reading : Exchange :=
  ⟨0, 0, 5, .w2, .read, none, .scan, requestFrame 0 5 .w2 .read none, 1, none⟩

/-- A WRITE of 100 to point 0. -/
def writing : Exchange :=
  ⟨0, 0, 5, .w2, .write, some 100, .scan, requestFrame 0 5 .w2 .write (some 100), 1, none⟩

/-- A character as the link receives it whole. -/
def rx (x : Byte) : RxChar := ⟨x, parityBit x, true, false⟩

/-- The response of node 1 that carries 100 for a READ of 2 bytes. -/
def answer100 : List RxChar := [0x5D, 0x01, 0x00, 0x02, 0x64, 0x00, 0x89].map rx

/-- The same scan configured TRIGGERED for the value 5. -/
def triggered (s : State) : State :=
  s.modSched .s0 fun c => { c with cfg := { c.cfg with mode := .triggered, trigger := 5 } }

/-- Trigger input 0 holds the value 5 under LEVEL. -/
def heldAt5 (s : State) : State := { s with trigs := s.trigs.set .trg0 ⟨some 5, false, true, true, true⟩ }

/-- Point 1, an INPUT point beside point 0, in the scan list after it. -/
def lab2 (t u : Point) (c : ScanState) (cur : Option PointIdx) : State :=
  ((lab t .on .ready c []).setPoint 1 { u with object := 6 }).modSched .s0 fun v =>
    { v with list := [0, 1], cursor := cur }

/-- The response of node 1 that carries no data, with a status. -/
def answerStatus (status : Byte) : List RxChar :=
  (0x5D :: 0x01 :: status :: 0x00 :: [linkCheck [0x01, status, 0x00]]).map rx

/-! ### What the check refuses -/

theorem test_wellFormed_params :
    (Instr.noop .a 0 (List.replicate 48 0)).wellFormed = true ∧
      (Instr.noop .a 0 (List.replicate 49 0)).wellFormed = false := by decide +kernel

theorem test_wellFormed_order :
    (Instr.gapEnd .s0 calm).wellFormed = true ∧
      (Instr.gapEnd .s0 ⟨calm.idle, [.link .s0, .link .s0]⟩).wellFormed = false ∧
      (Instr.feedOff .a 0 [0] ⟨calm.idle, [.monitor, .monitor]⟩).wellFormed = false := by decide +kernel

theorem test_wellFormed_unknownCommand :
    (Instr.unknownCommand .a 0x7F 0 []).wellFormed = true ∧
      (Instr.unknownCommand .a 0x63 0 []).wellFormed = false := by decide +kernel

theorem test_wellFormed_frameRejected :
    (Instr.frameRejected .a [0xA1, 0, 1, 0, 0]).wellFormed = true ∧
      (Instr.frameRejected .a [0xA1, 0, 1, 0, 0x3E]).wellFormed = false ∧
      (Instr.frameRejected .a []).wellFormed = false ∧ (Instr.frameRejected .a [0xB2]).wellFormed = false := by
  decide +kernel

/-- A transaction has two edges, and it may end without a byte: the check refuses no form of FETCH. -/
theorem test_wellFormed_fetch (p : Port) (n : Nat) :
    (Instr.fetch p (.rises n)).wellFormed = true ∧ (Instr.fetch p .falls).wellFormed = true := ⟨rfl, rfl⟩

theorem test_wellFormed_responseFrameEnd :
    (Instr.responseFrameEnd .s0 answer100 calm).wellFormed = true ∧
      (Instr.responseFrameEnd .s0 [] calm).wellFormed = false ∧
      (Instr.responseFrameEnd .s0 (List.replicate 10 (rx 0)) calm).wellFormed = false := by decide +kernel

/-! ### Frames and checks (R104, R105, R163) -/

theorem test_frames :
    commandFrame 0x00 1 [] = [0xA1, 0x00, 0x01, 0x00, 0x3E] ∧
      commandFrame 0x41 7 [2] = [0xA1, 0x41, 0x07, 0x01, 0x02, 0x51] ∧
      rejectCause [0xA1, 0, 1] = some 0 ∧ rejectCause [0xC3, 0, 1, 0, 0x3E] = some 2 ∧
      rejectCause [0xA1, 0, 1, 0, 0x3F] = some 3 ∧ rejectCause [0xA1, 0, 1, 0, 0x3E, 0] = some 4 ∧
      rejectCause ([0xA1, 0, 1, 49] ++ List.replicate 50 0) = some 1 := by decide +kernel

theorem test_requestFrame :
    requestFrame 4 16 .w2 .read none = [0xD5, 0x05, 0x01, 0x10, 0x00, 0x02, 0x91] ∧
      parityBit 0x64 = true ∧ parityBit 0x5D = true ∧ parityBit 0x00 = false := by decide +kernel

theorem test_response : judgeResponse reading answer100 = .accepted ∧ responseData answer100 = [0x64, 0x00] ∧
    intOfBytes true [0xFF, 0xFF] = -1 ∧ intOfBytes false [0xFF, 0xFF] = 65535 ∧ intOfBytes true [0x00, 0x80] = -32768 ∧
    intOfBytes true [0xFF, 0x7F] = 32767 := by
  decide +kernel

/-! ### Results of single steps -/

/-- What a step from a state shows of it. -/
def shows {α : Type} (i : Instr) (s : State) (f : State → α) : α := f (after i s)

theorem test_feedOn :
    shows (.feedOn .a 1 [0]) State.reset (fun t => ((t.feed .s0).state, (t.feed .s0).enable, (t.port .a).reply)) =
      (.starting, true, some ⟨1, 0x59, .ok, [1, 0]⟩) := by decide +kernel

theorem test_feedOn_held :
    shows (.feedOn .a 1 [0]) { State.reset with supply := .under } (fun t => (t.feed .s0).state) = .forcedOff := by
  decide +kernel

theorem test_startTimerExpiry :
    shows (.startTimerExpiry .s0 calm) (lab in0 .starting .off .haltedPower [])
      (fun t => ((t.feed .s0).state, (t.link .s0).state, (t.feed .s0).settleTimer)) =
      (.settling, .off, some 20000) := by decide +kernel

theorem test_settleTimerExpiry :
    shows (.settleTimerExpiry .s0 calm) (lab out0 .settling .off .haltedPower [])
      (fun t => ((t.feed .s0).state, (t.sched .s0).scan, (t.point 0).inFlight, (t.point 0).slot)) =
      (.on, .running, some ⟨100, .reassert, false⟩, none) := by decide +kernel

theorem test_definePoint :
    shows (.definePoint .a 9 [0, 2, 30, 0xFF, 0x03, 4, 0, 15, 16, 1, 0, 0, 0, 0, 0]) State.reset
      (fun t => ((t.point 0).life, (t.point 0).object, (t.sched .s2).list, (t.node .s2 29).refs, (t.port .a).reply)) =
      (.live, 1023, [0], 1, some ⟨9, 0x10, .ok, [0, 0]⟩) := by decide +kernel

theorem test_demandRead :
    shows (.demandRead .a 2 [0, 3] calm) (lab in0 .on .ready .stopped [])
      (fun t => ((t.link .s0).exchange.map Exchange.kind, (t.sched .s0).queue, (t.port .a).reply)) =
      (some .demand, [⟨0, ⟨true, false⟩, true⟩], some ⟨2, 0x22, .ok, [0]⟩) := by decide +kernel

theorem test_responseFrameEnd :
    shows (.responseFrameEnd .s0 answer100 calm) (lab { in0 with value := some 90 } .on (.busy .receiving reading)
        .running [])
      (fun t => ((t.point 0).value, (t.point 0).age, (t.link .s0).state, ((t.port .b).attention.map Entry.thing))) =
      (some 100, 0, .gap, [.point 0 3]) := by decide +kernel

theorem test_responseWindowExpiry :
    shows (.responseWindowExpiry .s0 calm) (lab in0 .on (.busy .awaiting reading) .running [])
      (fun t => ((t.link .s0).exchange.map Exchange.attempts, (t.seg .s0).tally1.count)) = (some 2, 1) := by
  decide +kernel

theorem test_writePoint_urgent :
    shows (.writePoint .a 3 [0, 3, 0xFF, 0xFF, 0xFF, 0xFF, 1] calm) (lab out0 .on .ready .stopped [])
      (fun t => ((t.point 0).inFlight, (t.link .s0).exchange.map Exchange.data, (t.port .a).reply)) =
      (some ⟨-1, .port .a, true⟩, some (some (-1)), some ⟨3, 0x30, .ok, [1, 2, 255]⟩) := by decide +kernel

theorem test_supervisionLapse :
    shows (.supervisionLapse .a calm)
      ((lab out0 .off .off .stopped []).modPort .a fun u => { u with supPeriod := 5, supTimer := some 5 })
      (fun t => ((t.port .a).lapsed, (t.point 0).slot, (t.port .b).attention)) =
      (true, some ⟨7, .safe, true⟩, [.device 4]) := by decide +kernel

/-- Below the period, and at 0, the timer has not expired (R1, R169). -/
theorem test_supervisionLapse_below :
    (∀ n ∈ [0, 1, 4], shows (.supervisionLapse .a calm)
      ((lab out0 .off .off .stopped []).modPort .a fun u => { u with supPeriod := 5, supTimer := some n })
      (fun t => ((t.port .a).lapsed, (t.port .a).supTimer, (t.point 0).slot, (t.port .b).attention)) =
      (false, some n, none, [])) := by decide +kernel

/-- One tick before its period the timer comes to it on AGE_TICK, and the lapse is due. -/
theorem test_ageTick_supervision :
    shows (.ageTick) (State.reset.modPort .a fun u => { u with supPeriod := 5, supTimer := some 4 })
      (fun t => ((t.port .a).supTimer, (t.port .a).supDue, (t.port .b).supDue)) = (some 5, true, false) := by
  decide +kernel

theorem test_feedTrip :
    shows (.feedTrip .s0 150 false calm) (lab out0 .on .ready .running [])
      (fun t => ((t.feed .s0).state, (t.feed .s0).trips, (t.point 0).quality, (t.link .s0).state,
        (t.sched .s0).scan)) =
      (.tripped, 1, .unpowered, .off, .haltedPower) := by decide +kernel

/-- Points 10 and 50 with demanders, 50 in flight and 10 queued behind it. -/
def twoDemands : State :=
  let t : Point := { in0 with subs := ⟨0, 0⟩, demanders := ⟨true, false⟩ }
  let s := lab in0 .on (.busy .awaiting { reading with target := 50, object := 7, kind := .demand }) .stopped
    [⟨50, ⟨true, false⟩, true⟩, ⟨10, ⟨true, false⟩, false⟩]
  (s.setPoint 50 { t with object := 7 }).setPoint 10 { t with object := 8 }

/-- A loss of the feed raises DEMAND in ascending index order, the exchange in flight among the queued (R152). -/
theorem test_feedOff_order :
    shows (.feedOff .a 1 [0] calm) (twoDemands.modPort .a fun u => { u with attention := [] })
      (fun t => (((t.port .a).attention.map Entry.thing).filter fun x => decide (x ≠ .point 0 3), (t.sched .s0).queue,
        (t.noteOf .a 10).demand, (t.noteOf .a 50).demand, (t.link .s0).state)) =
      ([.point 10 3, .point 50 3], [], some .abandoned, some .abandoned, .off) := by decide +kernel

/-- A RETIRING target with subscribers at the end of its exchange (R15, R16). -/
theorem test_responseFrameEnd_retiring :
    shows (.responseFrameEnd .s0 answer100 calm)
      (lab { in0 with life := .retiring, value := some 90, demanders := ⟨false, true⟩ } .on
        (.busy .receiving { reading with kind := .demand }) .stopped [])
      (fun t => ((t.point 0).life, (t.point 0).value, (t.noteOf .a 0).retired, (t.noteOf .b 0).retired,
        (t.noteOf .b 0).demand)) = (.closed, some 90, true, true, none) := by decide +kernel

theorem test_retirePoint :
    shows (.retirePoint .b 4 [0, 3] calm)
      ((lab in0 .off .off .stopped []).modPort .b fun u => { u with rights := Vector.replicate 16 7 })
      (fun t => ((t.point 0).life, (t.sched .s0).list, (t.node .s0 0).state, (t.port .b).attention.length)) =
      (.closed, [], .idle, 1) := by decide +kernel

theorem test_takeAttention_frees :
    shows (.takeAttention .a 5 [])
      ((State.reset.setPoint 0 { out0 with life := .closed }).modPort .a fun u =>
        { u with attention := [.point 0 3 ⟨0, 0, false, none, none, true⟩] })
      (fun t => (t.point 0, (t.port .a).attention)) = (Point.cleared 4, []) := by decide +kernel

theorem test_resetDevice :
    shows (.resetDevice .a 6 [] ⟨13999, 130001, true, false⟩) (lab out0 .on .ready .running [])
      (fun t => (t.supply, t.temperature, t.trigs.trg0.level, t.points, (t.port .a).reply)) =
      (.under, .warn, true, State.reset.points, none) := by decide +kernel

theorem test_fetch :
    shows (.fetch .a (.rises 7)) (after (.noop .a 1 []) State.reset) (fun t => ((t.port .a).reply, (t.port .a).miso)) =
      (none, [0x01, 0x01, 0x00, 0x00, 0x00, portCheck [1, 0, 0, 0], 0x00]) := by decide +kernel

/-- The status byte is that of the falling chip-select: SUPPLY, raised before the rising one, is not in it (R162). -/
theorem test_status_at_fall :
    shows (.noop .a 1 []) (after (.supplyLevelChange 13000 calm) (after (.fetch .a .falls) State.reset))
        (fun t => ((t.port .a).miso, (t.port .a).attention, (t.port .a).select)) =
        ([0x08, 0, 0, 0, 0], [.device 1], .high) ∧
      shows (.noop .a 1 []) (after (.supplyLevelChange 13000 calm) State.reset) (fun t => (t.port .a).miso) =
        [0x0A, 0, 0, 0, 0] := by decide +kernel

/-- A reset discards the transaction in progress, and the rest of it is ignored after the reset is left (R174). -/
theorem test_reset_discards :
    shows (.noop .a 1 []) (after (.resetExit fine) (after .resetPin (after (.fetch .a .falls) State.reset)))
      (fun t => ((t.port .a).reply, (t.port .a).resetSeen, (t.port .a).miso, (t.port .a).select)) =
      (none, true, [], .high) := by decide +kernel

/-- A transaction that began in the reset is ignored to its end, and the next one is taken (R174). -/
theorem test_begun_in_reset :
    shows (.setSupervision .b 1 [5])
        (after (.resetExit fine) (after (.fetch .b .falls) State.reset.holdReset))
        (fun t => ((t.port .b).reply, (t.port .b).supPeriod, (t.port .b).select)) = (none, 0, .high) ∧
      shows (.setSupervision .b 2 [5])
        (after (.setSupervision .b 1 [5]) (after (.resetExit fine) (after (.fetch .b .falls) State.reset.holdReset)))
        (fun t => ((t.port .b).reply, (t.port .b).supPeriod)) = (some ⟨2, 0x02, .ok, [0]⟩, 5) := by decide +kernel

/-- RESET_DEVICE of Port A ends its own transaction and discards Port B's (R174). -/
theorem test_resetDevice_discards :
    shows (.resetDevice .a 6 [] fine) (after (.fetch .b .falls) (after (.fetch .a .falls) State.reset))
      (fun t => ((t.port .a).select, (t.port .b).select, t.inReset)) = (.high, .ignored, false) := by decide +kernel

theorem test_overrun_cut :
    shows (.periodBoundary .s0 calm)
      ((lab out0 .on .gap .running []).modSched .s0 fun c =>
        { c with cfg := { c.cfg with policy := .cut, cycles := 1 } })
      (fun t => ((t.sched .s0).scan, (t.sched .s0).overruns, (t.sched .s0).cyclesEnded)) = (.stopped, 1, 1) := by
  decide +kernel

theorem test_idleWaitExpiry :
    shows (.idleWaitExpiry .s0)
      ((lab in0 .on (.busy .sending reading) .running []).modLink .s0 fun l =>
        { l with idleTimer := some 2000, faults := 2 })
      (fun t => ((t.link .s0).state, (t.link .s0).faults, (t.sched .s0).scan)) = (.lineDown, 3, .haltedLine) := by
  decide +kernel

/-! ### The hypotheses of the obligations are met -/

theorem test_hyp_StepTakesFrontCommand : State.reset.pending = [] := rfl

/-- Port A with a discarded transaction that has not ended. -/
def discarding : State := State.reset.modPort .a fun u => { u with select := .ignored }

theorem test_hyp_EveryStepGoesOn :
    State.reset.holdReset.inReset = true ∧ (∀ x, Instr.ageTick ≠ .resetExit x) ∧ Instr.ageTick ≠ .vddBrownout ∧
      Instr.ageTick ≠ .powerOn ∧ Instr.ageTick ≠ .resetPin ∧ portOfInstr .ageTick = none ∧
      ∀ p, Instr.ageTick ≠ .fetch p .falls :=
  ⟨rfl, nofun, nofun, nofun, nofun, rfl, nofun⟩

/-- Not taken: the rest of a discarded transaction, and one that rises in a reset. -/
theorem test_hyp_EveryStepGoesOn_deaf :
    portOfInstr (.noop .a 1 []) = some .a ∧ (Instr.noop .a 1 []).wellFormed = true ∧ discarding.hears .a = false ∧
      State.reset.holdReset.hears .a = false ∧ portOfInstr (.fetch .a (.rises 0)) = some .a ∧
      (Instr.fetch .a (.rises 0)).wellFormed = true := by decide +kernel

/-- The chip-select high outside and in a reset, and low already. -/
theorem test_hyp_AcceptedFrameAndStatus :
    (State.reset.port .a).select = .high ∧ State.reset.inReset = false ∧
      (State.reset.holdReset.port .a).select = .high ∧ State.reset.holdReset.inReset = true ∧
      ((after (.fetch .a .falls) State.reset).port .a).select = .low 0x08 none ∧
      (discarding.port .a).select ≠ .high ∧ ((discarding.port .a).select = .ignored) := by decide +kernel

/-- An event of no port, with a transaction in progress on Port A. -/
theorem test_hyp_AcceptedFrameAndStatus_kept :
    portOfInstr .ageTick ≠ some .a ∧ Instr.ageTick ≠ .fetch .a .falls ∧
      (∀ q tag ps x, Instr.ageTick ≠ .resetDevice q tag ps x) ∧ (∀ x, Instr.ageTick ≠ .resetExit x) ∧
      portOfInstr (.noop .b 1 []) ≠ some .a ∧ ∃ t, exec .ageTick discarding = .next t :=
  ⟨by decide, nofun, nofun, nofun, by decide, _, rfl⟩

theorem test_hyp_RefusedChangesNothing :
    commandParts (.noop .a 1 [0]) = some (.a, 0, 1, [0]) ∧ State.reset.hears .a = true ∧
      (Instr.noop .a 1 [0]).wellFormed = true ∧ (∃ t, exec (.noop .a 1 [0]) State.reset = .next t) ∧
      ((after (.noop .a 1 [0]) State.reset).port .a).reply = some ⟨1, 0, .badParameter, []⟩ ∧
      Result.badParameter ≠ .ok :=
  ⟨rfl, rfl, by decide +kernel, ⟨_, rfl⟩, by decide +kernel, by decide⟩

/-- Point 0 live and Port B the caller: the length, the handle and the right fail in turn. -/
theorem test_hyp_CommandChecks_handle :
    commandParts (.retirePoint .b 1 [0, 3] calm) = some (.b, 0x11, 1, [0, 3]) ∧
      handleRow (.retirePoint .b 1 [0, 3] calm) = some (2, some .manage, true) ∧
      Takes (lab out0 .on .ready .stopped []) .b [0, 3] ∧
      [(0 : Byte)].length ≠ 2 ∧ (lab out0 .on .ready .stopped []).handleOk (argHandle [0, 4] 0) = false ∧
      (lab out0 .on .ready .stopped []).handleOk (argHandle [255, 0] 0) = false ∧
      (lab out0 .on .ready .stopped []).handleOk (argHandle [0, 3] 0) = true ∧
      (lab out0 .on .ready .stopped []).hasGroup .b .manage 0 = false := by
  refine ⟨rfl, rfl, ⟨by decide +kernel, by decide⟩, ?_⟩
  decide +kernel

theorem test_hyp_CommandChecks_segment :
    commandParts (.readTally .b 1 [3, 1]) = some (.b, 0x53, 1, [3, 1]) ∧
      segRow (.readTally .b 1 [3, 1]) = some (2, none, true) ∧ segRow (.readTally .b 1 [3, 2]) = some (2, none, false) ∧
      segOf (arg [3, 1] 0) = some .s3 ∧ segOf (arg [4, 1] 0) = none ∧
      commandParts (.startScan .b 1 [3] calm) = some (.b, 0x41, 1, [3]) ∧
      segRow (.startScan .b 1 [3] calm) = some (1, some .scan, true) ∧ State.reset.hasDevice .b .scan = false := by
  refine ⟨rfl, by decide +kernel, by decide +kernel, rfl, rfl, rfl, rfl, by decide +kernel⟩

theorem test_hyp_CommandChecks_others :
    State.reset.hears .b = true ∧ [(15 : Byte), 255].length ≤ Config.maxParams ∧ 3 < arg [0, 4] 1 ∧ arg [0, 4] 1 ≠ 255 ∧
      15 < arg [16] 0 ∧ arg [15] 0 ≤ 15 ∧ State.reset.hasDevice .b .scan = false ∧ 1 < arg [2, 0, 0, 0] 0 ∧
      15 < arg [0, 16, 0, 0] 1 ∧ arg [0, 16, 0, 0] 1 ≠ 255 ∧ arg [1, 15, 1, 1] 1 ≤ 15 ∧ arg [1, 255, 1, 1] 1 = 255 := by
  decide +kernel

theorem test_hyp_PortCommands_noop : Takes State.reset .a [] ∧ Takes State.reset .a [0] :=
  ⟨⟨rfl, by decide⟩, ⟨rfl, by decide⟩⟩

theorem test_hyp_PortCommands :
    Takes State.reset .a [255] ∧ [(1 : Byte)] = [byteOf Port.b.code] ∧ 1 < arg [2] 0 := by
  refine ⟨⟨rfl, by decide⟩, ?_⟩
  decide +kernel

theorem test_hyp_SetRights :
    Takes State.reset .a (1 :: List.replicate 17 7) ∧ 7 < arg (1 :: List.replicate 17 8) 17 ∧
      (1 :: List.replicate 17 (7 : Byte)).length = 18 ∧ arg (1 :: List.replicate 17 7) 0 = Port.b.code ∧
      (∀ k, 1 ≤ k → k ≤ 17 → arg (1 :: List.replicate 17 7) k ≤ 7) ∧ State.reset.hasDevice .b .rights = false ∧
      State.reset.hasDevice .a .rights = true ∧ arg (0 :: List.replicate 17 3) 17 < 4 ∧
      4 ≤ arg (1 :: List.replicate 17 7) 17 ∧ State.reset.hasDevice (Port.other .b) .rights = true := by
  refine ⟨⟨rfl, by decide⟩, by decide +kernel, by decide +kernel, by decide +kernel, ?_, by decide +kernel⟩
  intro k h1 h2
  have h : ∀ k : Fin 18, arg (1 :: List.replicate 17 7) k.val ≤ 7 := by decide +kernel
  exact h ⟨k, by omega⟩

theorem test_hyp_ResetPort : State.reset.hears .a = true := rfl

theorem test_hyp_DeviceResets :
    Takes State.reset .a [0] ∧ Takes State.reset .a [] ∧ State.reset.hasDevice .b .rights = false ∧
      Takes State.reset .b [] ∧ State.reset.hasDevice .a .rights = true ∧ State.reset.holdReset.inReset = true ∧
      (∀ q, (fun q => (discarding.port q).select.discard) q =
        if (discarding.port q).select = .high then .high else .ignored) :=
  ⟨⟨rfl, by decide⟩, ⟨rfl, by decide⟩, by decide +kernel, ⟨rfl, by decide⟩, by decide +kernel, rfl,
    fun q => by cases q <;> decide +kernel⟩

theorem test_hyp_UnknownAndRejectedFrames :
    Takes State.reset .a [1] ∧ (0xFF : Byte).toNat ∉ commandCodes ∧ [(0xC3 : Byte)] ≠ [] ∧ argByte [0xC3] 0 ≠ 0xB2 ∧
      rejectCause [0xC3] = some 0 := by
  refine ⟨⟨rfl, by decide⟩, ?_⟩
  decide +kernel

theorem test_hyp_ValidFrames :
    argByte [0xA1, 0x00, 0x01, 0x00, 0x3E] 0 = 0xA1 ∧ argByte [0xC3, 0, 1, 48, 0x3E] 0 ≠ 0xB2 ∧
      arg [0xC3, 0, 1, 48, 0x3E] 3 = 48 ∧ arg [0xA1, 0, 1, 49] 3 = 49 := by decide +kernel

theorem test_hyp_Fetch :
    State.reset.hears .a = true ∧ (State.reset.port .a).offered.getD ⟨0, 0, .noReply, []⟩ = ⟨0, 0, .noReply, []⟩ ∧
      [(State.reset.port .a).shown, 0, 0, byteOf Result.noReply.code, 0, portCheck [0, 0, 2, 0]].length = 6 := by
  decide +kernel

theorem test_hyp_SpiRowsReadBack :
    (Instr.noop .a 1 []).wellFormed = true ∧ frameOf (.noop .a 1 []) = some [0xA1, 0x00, 0x01, 0x00, 0x3E] ∧
      portOfInstr (.noop .a 1 []) = some .a ∧ (Instr.fetch .b (.rises 1)).wellFormed = true ∧
      frameOf (.fetch .b (.rises 1)) = some [0xB2] ∧ frameOf (.fetch .b (.rises 0)) = some [] := by decide +kernel

theorem test_hyp_FramesAndCodes :
    ∃ shift : Byte → Byte → Byte, ∀ poly r, shift poly r = if r.getLsbD 7 = true then (r <<< 1) ^^^ poly else r <<< 1 :=
  ⟨fun poly r => if r.getLsbD 7 = true then (r <<< 1) ^^^ poly else r <<< 1, fun _ _ => rfl⟩

/-- An INPUT point on segment 2, node 30, object 1023, 4 bytes, group 15, divider 16. -/
def defs : List Byte := [0, 2, 30, 0xFF, 0x03, 4, 0, 15, 16, 1, 0, 0, 0, 0, 0]

theorem test_hyp_DefinePointAccepted :
    definitionOf defs = some ⟨.input, .s2, 29, 1023, .w4, false, 15, 16, 1, false, false⟩ ∧
      State.reset.hasGroup .a .manage 15 = true ∧
      (∀ j, ((State.reset.point j).life = .live ∨ (State.reset.point j).life = .retiring) → False) ∧
      State.reset.segmentFull .s2 = false ∧ (State.reset.point 0).life = .free ∧ ∀ j : PointIdx, 0 ≤ j :=
  ⟨by decide +kernel, by decide +kernel, by decide +kernel, by decide +kernel, by decide +kernel, Fin.zero_le⟩

/-- The same before point 0, with generation 3. -/
def defsBefore : List Byte := [1, 0, 2, 6, 0, 2, 1, 0, 1, 0, 0, 1, 1, 0, 3]

theorem test_hyp_DefinePointAccepted_before :
    definitionOf defsBefore = some ⟨.output, .s0, 1, 6, .w2, true, 0, 1, 0, true, true⟩ ∧
      (lab out0 .on .ready .stopped []).handleOk (argHandle defsBefore 13) = true ∧
      ((lab out0 .on .ready .stopped []).point (argHandle defsBefore 13).idx).seg = .s0 ∧
      (lab out0 .on .ready .stopped []).lowestFree = some 1 := by
  decide +kernel

theorem test_hyp_DefineAndModifyRefused :
    Takes State.reset .a defs ∧ definitionOf (defs.drop 1) = none ∧ definitionOf defsBefore ≠ none ∧
      State.reset.handleOk (argHandle defsBefore 13) = false ∧ State.reset.hasGroup .b .manage 15 = false := by
  refine ⟨⟨rfl, by decide⟩, ?_⟩
  decide +kernel

/-- A segment is full at 96 points and not at 95; the parameters at both ends of their values. -/
theorem test_hyp_DefineAndModifyRefused_bounds :
    ({ State.reset with
        points := Vector.ofFn fun i => if i.val < 96 then out0 else Point.cleared 0 } : State).segmentFull .s0 = true ∧
      ({ State.reset with
          points :=
            Vector.ofFn fun i => if i.val < 95 then out0 else Point.cleared 0 } : State).segmentFull .s0 = false ∧
      (definitionOf [0, 0, 1, 0, 0, 1, 0, 0, 1, 0, 0, 0, 0, 0, 0]).isSome = true ∧
      (definitionOf [1, 3, 30, 0xFF, 3, 4, 1, 15, 16, 0xFF, 0xFF, 1, 1, 0xFF, 0xFF]).isSome = true ∧
      definitionOf [0, 0, 1, 0, 0, 3, 0, 0, 1, 0, 0, 0, 0, 0, 0] = none ∧
      definitionOf [0, 0, 1, 0, 4, 1, 0, 0, 1, 0, 0, 0, 0, 0, 0] = none ∧
      definitionOf [0, 0, 1, 0, 0, 1, 0, 0, 1, 0, 0, 1, 0, 0, 0] = none := by decide +kernel

/-- Divider 16, stale limit 10, group 0, verify 1, position 0 for point 0. -/
def mods : List Byte := [0, 3, 15, 16, 10, 0, 0, 1, 0, 0, 0]

theorem test_hyp_DefineAndModifyRefused_modify :
    mods.length = 11 ∧ modifyValid mods = true ∧ (argHandle mods 0).idx = 0 ∧ (argHandle mods 9).idx = 0 ∧
      ¬(selected mods 4 = true ∧ arg mods 8 = 1) ∧ State.reset.handleOk (argHandle mods 0) = false ∧
      31 < arg (mods.set 2 32) 2 := by decide +kernel

/-- Retired while its link serves it and while no exchange is in flight, with nobody to tell and with a writer. -/
theorem test_hyp_RetirePoint :
    (∃ sub x, ((lab out0 .on (.busy .sending reading) .running []).link .s0).state = .busy sub x ∧ x.target = 0) ∧
      (¬∃ sub x, ((lab out0 .on .ready .stopped []).link .s0).state = .busy sub x ∧ x.target = 0) ∧
      (lab out0 .on .ready .stopped []).handleOk (argHandle [0, 3] 0) = true ∧
      (lab out0 .on .ready .stopped []).hasGroup .a .manage 0 = true ∧
      ((lab out0 .on .ready .stopped []).node .s0 0).refs ≤ 1 :=
  ⟨⟨_, _, rfl, rfl⟩, nofun, by decide +kernel, by decide +kernel, by decide +kernel⟩

theorem test_hyp_RetirePoint_told :
    (∀ q, { out0 with subs := ⟨0, 0⟩ }.subs.get q = 0 ∧ out0.demanders.get q = false ∧ out0.slot = none ∧
      out0.inFlight = none ∧ (lab out0 .on .ready .stopped []).named q 0 = false) ∧ out0.subs.get .a ≠ 0 ∧
      ∃ f, { out0 with slot := some ⟨5, .port .b, false⟩ }.slot = some f ∧ f.writer = .port .b :=
  ⟨fun q => by cases q <;> decide +kernel, by decide, ⟨_, rfl, rfl⟩⟩

/-- Point 0 is the last of the list with the cursor on it, in a cycle: passed with the link in its gap or a demand
exchange in flight, and not with a scan exchange. -/
theorem test_hyp_RetirePoint_passed :
    ((lab in0 .on .gap .running []).sched .s0).cursor = some 0 ∧
      ((lab in0 .on .gap .running []).sched .s0).list.getLast? = some 0 ∧
      ((lab in0 .on .gap .running []).sched .s0).list = [] ++ 0 :: [] ∧
      ((lab in0 .on .gap .running []).sched .s0).scan.inCycle = true ∧
      ((lab in0 .on .gap .running []).link .s0).exchange = none ∧
      ((lab in0 .on (.busy .sending reading) .running []).link .s0).exchange.map Exchange.kind = some .scan ∧
      ((lab2 in0 in0 .running (some 0)).sched .s0).list = [] ++ 0 :: [1] := by decide +kernel

/-- The cursor moves on to the successor, or the cycle completes; with a scan exchange in flight it waits (R76). -/
theorem test_retirePoint_cursor :
    shows (.retirePoint .a 4 [0, 3] calm) (lab2 in0 in0 .running (some 0))
        (fun t => ((t.sched .s0).list, (t.sched .s0).cursor, (t.sched .s0).cyclesEnded)) = ([1], some 1, 0) ∧
      shows (.retirePoint .a 4 [0, 3] calm) (lab in0 .on .gap .running [])
        (fun t => ((t.sched .s0).list, (t.sched .s0).scan, (t.sched .s0).cyclesEnded)) = ([], .waiting, 1) ∧
      shows (.retirePoint .a 4 [0, 3] calm) (lab in0 .on (.busy .sending reading) .running [])
        (fun t => ((t.sched .s0).cursor, (t.sched .s0).scan, (t.sched .s0).cyclesEnded)) = (none, .running, 0) := by
  decide +kernel

/-- Port B's pending value is CANCELLED for Port B, both ports are told of the retirement, and the other point of the
node keeps it counted. -/
theorem test_retirePoint_writer :
    shows (.retirePoint .a 4 [0, 3] calm)
      ((lab { out0 with slot := some ⟨5, .port .b, false⟩, subs := ⟨1, 0⟩ } .on .gap .stopped []).modNode .s0 0 fun n =>
        { n with refs := 2 })
      (fun t => (t.noteOf .a 0, t.noteOf .b 0, t.node .s0 0)) =
      (⟨0, 0, false, none, none, true⟩, ⟨0, 0, false, some (.cancelled, .port .b), none, true⟩,
        ⟨.online, 1, 0, false⟩) := by decide +kernel

theorem test_hyp_ModifyPointFields :
    mods.length = 11 ∧ modifyValid mods = true ∧ selected mods 4 = false ∧
      (lab out0 .on .ready .stopped []).handleOk (argHandle mods 0) = true ∧
      (lab out0 .on .ready .stopped []).hasGroup .a .manage 0 = true ∧ selected mods 1 = true ∧ arg16 mods 4 = 10 ∧
      out0.quality = .good ∧ arg16 mods 4 ≤ out0.age ∧ out0.kind = .output := by decide +kernel

/-- A move to the end, with stale limit 10 and group 1. -/
def moving : List Byte := [0, 3, 22, 0, 10, 0, 1, 0, 0, 0, 0]

theorem test_hyp_ModifyPointMoves :
    moving.length = 11 ∧ modifyValid moving = true ∧ selected moving 4 = true ∧
      ((1 : Fin 16).val = if selected moving 2 then arg moving 6 else out0.group.val) ∧
      (lab out0 .on .ready .running []).hasGroup .a .manage 1 = true ∧
      (true = (selected moving 1 &&
        decide (arg16 moving 4 ≠ 0 ∧ out0.quality = .good ∧ arg16 moving 4 ≤ out0.age))) ∧
      ((lab out0 .on .ready .running []).setPoint 9 { out0 with object := 6 }).handleOk
        (argHandle [0, 3, 16, 0, 0, 0, 0, 0, 1, 9, 3] 9) = true ∧
      successor [(0 : PointIdx), 9] 0 = some 9 ∧ (0 : PointIdx) ∉ ([] : List PointIdx) ∧
      insertBefore 9 0 [(3 : PointIdx), 0, 1] = [3, 9, 0, 1] := by decide +kernel

/-- STALE is told to both, and Port B, which lacks READ on group 1, then loses its subscription; the rest stands. -/
theorem test_modifyPoint_move :
    shows (.modifyPoint .a 4 moving calm)
      ((lab { out0 with subs := ⟨15, 4⟩ } .on .gap .stopped []).modPort .b fun u =>
        { u with rights := u.rights.set 1 0 })
      (fun t => (t.point 0, (t.noteOf .a 0).quality, (t.noteOf .b 0).quality)) =
      ({ out0 with staleLimit := 10, group := 1, subs := ⟨15, 0⟩, quality := .stale }, true, true) := by decide +kernel

/-- The cursor's own point, the last of the list, moved in a cycle: the cycle completes, and the point joins again. -/
theorem test_hyp_ModifyPointMoves_passed :
    ((lab in0 .on .gap .running []).sched .s0).cursor = some 0 ∧
      successor ((lab in0 .on .gap .running []).sched .s0).list 0 = none ∧
      ((lab in0 .on .gap .running []).sched .s0).scan.inCycle = true ∧
      ((lab in0 .on .gap .running []).link .s0).exchange = none ∧
      shows (.modifyPoint .a 4 [0, 3, 16, 0, 0, 0, 0, 0, 0, 0, 0] calm) (lab in0 .on .gap .running [])
        (fun t => ((t.sched .s0).list, (t.sched .s0).scan, (t.sched .s0).cyclesEnded)) = ([0], .waiting, 1) := by
  decide +kernel

theorem test_hyp_Listings :
    Takes State.reset .a [255, 3] ∧ arg [255, 3] 1 < 4 ∧ arg [255, 255] 1 = 255 ∧ Takes State.reset .a [255] := by
  refine ⟨⟨rfl, by decide⟩, by decide +kernel, by decide +kernel, ⟨rfl, by decide⟩⟩

theorem test_hyp_ReadPoint :
    (lab out0 .on .ready .stopped []).hears .b = true ∧
      (lab out0 .on .ready .stopped []).handleOk (argHandle [0, 3] 0) = true ∧
      (lab out0 .on .ready .stopped []).hasGroup .b .read 0 = true := by decide +kernel

theorem test_hyp_DemandRead :
    ((lab out0 .off .off .stopped []).feed .s0).state ≠ .on ∧
      (∃ d ∈ ((lab out0 .on .ready .stopped [⟨0, noPorts, false⟩]).sched .s0).queue, d.point = 0) ∧
      8 ≤ ((lab out0 .on .gap .stopped (List.replicate 8 ⟨1, noPorts, false⟩)).sched .s0).queue.length ∧
      (∀ d ∈ ((lab out0 .on .gap .stopped (List.replicate 7 ⟨1, noPorts, false⟩)).sched .s0).queue, d.point ≠ 0) ∧
      ((lab out0 .on .gap .stopped (List.replicate 7 ⟨1, noPorts, false⟩)).sched .s0).queue.length < 8 ∧
      (lab out0 .on .gap .stopped []).handleOk (argHandle [0, 3] 0) = true := by decide +kernel

/-- Limits −32768 and 32767 with the largest hysteresis that fits. -/
def wideBand : List Byte := [0, 3, 0x00, 0x80, 0xFF, 0xFF, 0xFF, 0x7F, 0, 0, 0xFF, 0x7F, 0, 0]

theorem test_hyp_BandAndDeadband :
    wideBand.length = 14 ∧ argInt true wideBand 2 = -32768 ∧ argInt true wideBand 6 = 32767 ∧
      arg32 wideBand 10 = 32767 ∧ inRange .w2 true (-32768) = true ∧ inRange .w2 true 32767 = true ∧
      inRange .w2 true 32768 = false ∧ (32767 : Int) ≤ rangeHigh .w2 true ∧ (2 : Int) * 32767 < 32767 - -32768 ∧
      (lab out0 .on .ready .stopped []).handleOk (argHandle wideBand 0) = true ∧
      (lab out0 .on .ready .stopped []).hasGroup .a .manage 0 = true ∧ out0.value = some 100 := by decide +kernel

theorem test_hyp_BandAndDeadband_clauses :
    (100 : Int) ≤ 100 ∧ (99 : Int) < 100 ∧ (100 : Int) < 101 ∧
    arg32 [0, 3, 0xFF, 0xFF, 0, 0] 2 ≤ 256 ^ Width.w2.bytes - 1 ∧
      256 ^ Width.w2.bytes - 1 < arg32 [0, 3, 0, 0, 1, 0] 2 ∧ arg32 [0, 3, 0, 0, 0, 0] 2 = 0 ∧
      1 ≤ arg32 [0, 3, 1, 0, 0, 0] 2 := by decide +kernel

theorem test_hyp_LimitEvaluator_band :
    (State.reset.setPoint 0 { out0 with band := some ⟨0, 100, 10, .above⟩ }).point 0 =
      { out0 with band := some ⟨0, 100, 10, .above⟩ } ∧ ¬((90 : Int) > 100 - 10) ∧ (91 : Int) > 100 - 10 := by
  decide +kernel

theorem test_hyp_LimitEvaluator_change :
    ((some 100 : Option Int) = none ∨ out0.deadband = none ∧ (some 100 : Option Int) ≠ some 101 ∨
      ∃ d, out0.deadband = some d ∧
        (d.reference = none ∨ ∃ r, d.reference = some r ∧ d.width ≤ ((101 : Int) - r).natAbs)) ∧
      ¬((some 100 : Option Int) = none ∨ out0.deadband = none ∧ (some 100 : Option Int) ≠ some 100 ∨
        ∃ d, out0.deadband = some d ∧
          (d.reference = none ∨ ∃ r, d.reference = some r ∧ d.width ≤ ((100 : Int) - r).natAbs)) := by
  refine ⟨Or.inr (Or.inl ⟨rfl, by decide⟩), ?_⟩
  rintro (h | ⟨_, h⟩ | ⟨d, h, _⟩)
  · cases h
  · exact h rfl
  · cases h

theorem test_hyp_WritePoint :
    arg [0, 3, 0xFF, 0x7F, 0, 0, 1] 6 = 1 ∧ argInt true [0, 3, 0xFF, 0x7F, 0, 0, 1] 2 = 32767 ∧
      inRange .w2 true 32767 = true ∧ argInt true [0, 3, 0, 0x80, 0, 0, 0] 2 = 32768 ∧ inRange .w2 true 32768 = false ∧
      (lab out0 .on .gap .stopped []).handleOk (argHandle [0, 3, 0xFF, 0x7F, 0, 0, 1] 0) = true ∧
      (lab out0 .on .gap .stopped []).hasGroup .a .write 0 = true ∧ out0.kind = .output ∧ in0.kind = .input := by
  decide +kernel

theorem test_hyp_CancelAndSafeValue :
    ((lab { out0 with slot := some ⟨5, .port .b, false⟩ } .on .gap .stopped []).point 0).slot =
        some ⟨5, .port .b, false⟩ ∧
      (lab out0 .on .gap .stopped []).handleOk (argHandle [0, 3] 0) = true ∧
      (lab out0 .on .gap .stopped []).hasGroup .a .write 0 = true ∧ arg [0, 3, 1, 0xFF, 0x7F, 0, 0] 2 = 1 ∧
      inRange .w2 true (argInt true [0, 3, 1, 0xFF, 0x7F, 0, 0] 3) = true ∧
      inRange .w2 true (argInt true [0, 3, 1, 0, 0x80, 0, 0] 3) = false := by decide +kernel

theorem test_hyp_SupervisionLapse :
    (State.reset.port .a).supTimer ≠ some (State.reset.port .a).supPeriod ∧
      (((lab out0 .on .gap .stopped []).modPort .a fun u => { u with supPeriod := 1, supTimer := some 1 }).port
        .a).supTimer = some 1 ∧
      (((lab out0 .on .gap .stopped []).modPort .a fun u => { u with supPeriod := 255, supTimer := some 254 }).port
        .a).supTimer ≠ some 255 ∧
      out0.life = .live ∧ out0.kind = .output ∧ out0.owner = .a ∧ out0.safe = some 7 ∧
      (State.reset.port .b).devMask.getLsbD 2 = true ∧
      (((State.reset.modPort .b fun u => { u with devMask := 0 }).port .b).devMask.getLsbD 2 = false) := by
  decide +kernel

/-- Port A's output with Port B's value pending, Port A at its period, on a powered segment and on one that is not. -/
def lapsing (f : FeedState) (l : LinkState) : State :=
  (lab { out0 with slot := some ⟨5, .port .b, false⟩ } f l .stopped []).modPort .a fun u =>
    { u with supPeriod := 5, supTimer := some 5 }

theorem test_hyp_SupervisionLapse_owned :
    ((lapsing .on .gap).point 0).life = .live ∧ ((lapsing .on .gap).point 0).kind = .output ∧
      ((lapsing .on .gap).point 0).owner = .a ∧ ((lapsing .on .gap).point 0).safe = some 7 ∧
      ((lapsing .on .gap).point 1).life ≠ .live ∧ ((lapsing .on .gap).feed .s0).state = .on ∧
      (∀ d ∈ ((lapsing .on .gap).sched .s0).queue, d.point ≠ 0) ∧ ((lapsing .off .off).feed .s0).state ≠ .on ∧
      ((lapsing .on .gap).point 0).slot = some ⟨5, .port .b, false⟩ ∧
      ((lapsing .on .gap).port .a).supTimer = some ((lapsing .on .gap).port .a).supPeriod := by decide +kernel

/-- SUPERSEDED for Port B, an entry where the segment is powered, and the point of the other owner left alone (R70). -/
theorem test_supervisionLapse_offer :
    shows (.supervisionLapse .a calm) (lapsing .on .gap)
        (fun t => ((t.point 0).slot, (t.noteOf .b 0).write, (t.noteOf .a 0).write, (t.sched .s0).queue)) =
        (some ⟨7, .safe, true⟩, some (.superseded, .port .b), none, [⟨0, noPorts, false⟩]) ∧
      shows (.supervisionLapse .a calm) (lapsing .off .off) (fun t => ((t.point 0).slot, (t.sched .s0).queue)) =
        (some ⟨7, .safe, true⟩, []) ∧
      shows (.supervisionLapse .a calm) ((lapsing .on .gap).modPoint 0 fun t => { t with owner := .b })
        (fun t => ((t.point 0).slot, (t.sched .s0).queue)) = (some ⟨5, .port .b, false⟩, []) := by decide +kernel

theorem test_hyp_ConfigurationCommands :
    segOf (arg [3, 1, 0, 0, 255, 15, 1, 4] 0) = some .s3 ∧ State.reset.hasDevice .a .scan = true ∧
      scanCfgOf [3, 1, 0, 0, 255, 15, 1, 4] = some ⟨.triggered, 0, 255, 15, .cut, 4⟩ ∧
      linkCfgOf [3, 3, 255, 3, 7, 3, 15] = some ⟨.k500, 255, 3, 7, .ms500, 15⟩ ∧
      State.reset.hasDevice .a .feed = true ∧
      feedCfgOf [3, 3, 3, 1, 1, 3, 255] = some ⟨.ma1000, .ms150, true, true, .ms10000, 255⟩ ∧
      tallyEventOf (arg [3, 1, 9, 30] 2) = some .writesDelivered ∧ trgOf (arg [1, 15, 1, 1] 0) = some .trg1 ∧
      groupOf (arg [1, 15, 1, 1] 1) = some 15 ∧ (State.reset.sched .s3).scan = .stopped ∧
      ((lab out0 .on .gap .running []).sched .s0).scan ≠ .stopped ∧ (State.reset.feed .s3).state = .off ∧
      ((lab out0 .on .gap .running []).feed .s0).state ≠ .off := by decide +kernel

theorem test_hyp_ScanCommands :
    segOf (arg [0] 0) = some .s0 ∧ State.reset.hasDevice .a .scan = true ∧
      ((lab out0 .on .ready .finishing []).sched .s0).scan = .finishing := by decide +kernel

/-- A scan set going in each mode, with and without a held trigger that matches (R86, R94). -/
theorem test_hyp_ScanCommands_going :
    ((lab in0 .on .ready .stopped []).sched .s0).cfg.mode = .freeRun ∧
      ((triggered (lab in0 .on .ready .stopped [])).sched .s0).cfg.mode = .triggered ∧
      (triggered (lab in0 .on .ready .stopped [])).heldFor .s0 = false ∧
      (heldAt5 (triggered (lab in0 .on .ready .stopped []))).heldFor .s0 = true ∧
      ((heldAt5 (lab in0 .on .ready .stopped [])).trigs.get .trg0).held = true := by decide +kernel

theorem test_startScan_going :
    shows (.startScan .a 1 [0] calm) (lab in0 .on .ready .stopped [])
        (fun t => ((t.sched .s0).scan, (t.sched .s0).periodTimer, (t.link .s0).exchange.map Exchange.kind)) =
        (.running, some 10000, some .scan) ∧
      shows (.startScan .a 1 [0] calm) (triggered (lab in0 .on .ready .stopped [])) (fun t => (t.sched .s0).scan) =
        .waiting ∧
      shows (.startScan .a 1 [0] calm) (heldAt5 (triggered (lab in0 .on .ready .stopped [])))
        (fun t => (t.sched .s0).scan) = .running := by decide +kernel

theorem test_hyp_Triggers :
    arg [15] 0 ≤ 15 ∧ State.reset.hasDevice .a .scan = true ∧ (State.reset.trigs.get .trg0).level = false ∧
      (State.reset.trigs.get .trg0).falling = false ∧
      (((after (.configureTriggerInput .a 1 [0, 5, 0, 1]) State.reset).trigs.get .trg0).value) = some 5 := by
  decide +kernel

/-- Segment 0 TRIGGERED for 5, its link not READY: code 1 in WAITING, 2 in RUNNING and FINISHING, 3 elsewhere, and
0 where the value is another or the mode FREE_RUN. -/
theorem test_hyp_Triggers_codes :
    shows (.fireTrigger .a 1 [5] calm) (triggered (lab in0 .on .gap .waiting []))
        (fun t => ((t.port .a).reply.map Reply.data, (t.sched .s0).scan, (t.sched .s0).cursor)) =
        (some [1, 0, 0, 0], .running, some 0) ∧
      shows (.fireTrigger .a 1 [0] calm) (triggered (lab in0 .on .gap .running []))
        (fun t => ((t.port .a).reply.map Reply.data, (t.sched .s0).overruns)) = (some [2, 0, 0, 0], 1) ∧
      shows (.fireTrigger .a 1 [5] calm) (triggered (lab in0 .on .gap .finishing []))
        (fun t => ((t.port .a).reply.map Reply.data, (t.sched .s0).overruns)) = (some [2, 0, 0, 0], 1) ∧
      shows (.fireTrigger .a 1 [5] calm) (triggered (lab in0 .on .gap .stopped []))
        (fun t => ((t.port .a).reply.map Reply.data, (t.sched .s0).scan)) = (some [3, 0, 0, 0], .stopped) ∧
      shows (.fireTrigger .a 1 [15] calm) (triggered (lab in0 .on .gap .waiting []))
        (fun t => ((t.port .a).reply.map Reply.data, (t.sched .s0).scan)) = (some [0, 0, 0, 0], .waiting) ∧
      ((triggered (lab in0 .on .gap .waiting [])).sched .s0).list ≠ [] ∧
      ((triggered (lab in0 .on .gap .waiting [])).link .s0).state ≠ .ready ∧
      (triggered (lab in0 .on .gap .waiting [])).hasDevice .a .scan = true := by decide +kernel

theorem test_hyp_DueStarts :
    ((lab out0 .on .ready .waiting []).sched .s0).periodTimer ≠ none ∧ (State.reset.sched .s0).periodTimer = none ∧
      ((lab out0 .on .ready .waiting []).sched .s0).deferred = true ∧ (State.reset.sched .s0).deferred = false ∧
      ((lab out0 .on .ready .waiting []).sched .s0).cfg.mode = .freeRun ∧
      ((lab out0 .on .ready .waiting []).sched .s0).cfg.policy = .skip ∧
      ((lab out0 .on (.busy .sending reading) .running []).link .s0).exchange.isSome = true := by decide +kernel

/-- A cut that ends the last of one cycle, and one that leads to the next (R91). -/
theorem test_hyp_DueStarts_cut :
    ((lab out0 .on .ready .running []).sched .s0).scan = .running ∧
      ((lab out0 .on .ready .finishing []).sched .s0).scan = .finishing ∧
      min (((lab out0 .on .ready .running []).sched .s0).cyclesEnded + 1) 255 = 1 ∧
      ((lab out0 .on .ready .running []).sched .s0).cfg.cycles = 0 ∧
      (((lab out0 .on .ready .running []).modSched .s0 fun c => { c with cfg := { c.cfg with cycles := 1 } }).sched
        .s0).cfg.cycles = 1 ∧
      (((lab out0 .on .ready .running []).modSched .s0 fun c => { c with cfg := { c.cfg with policy := .cut } }).sched
        .s0).cfg.policy = .cut ∧
      ((lab out0 .on .ready .running []).link .s0).exchange = none := by decide +kernel

theorem test_hyp_CycleStartsAndCompletions :
    ((lab out0 .on .ready .waiting []).sched .s0).list ≠ [] ∧ (State.reset.sched .s0).list = [] ∧
      ((lab out0 .on .ready .finishing []).sched .s0).scan = .finishing ∧
      ((lab out0 .on .ready .running []).sched .s0).cfg.cycles = 0 ∧
      ((lab out0 .on .ready .running []).sched .s0).scan ≠ .finishing := by decide +kernel

theorem test_hyp_ArbiterChoice :
    ((lab out0 .on .gap .stopped []).link .s0).state ≠ .ready ∧
    ((lab out0 .on .ready .stopped []).link .s0).state = .ready ∧
      ((lab out0 .on .ready .stopped []).sched .s0).queue = [] ∧
      ((lab out0 .on .ready .stopped []).sched .s0).scan.inCycle = false ∧
      ((lab out0 .on .ready .running [⟨0, noPorts, false⟩]).sched .s0).backToBack <
        ((lab out0 .on .ready .running [⟨0, noPorts, false⟩]).sched .s0).cfg.share := by decide +kernel

/-- Point 0 is passed over, its phase above 0, and point 1 gets the exchange. -/
def walkRead : State := lab2 { in0 with phase := 1 } in0 .running (some 0)

theorem test_hyp_ScanWalk_read :
    (walkRead.link .s0).state = .ready ∧ (walkRead.sched .s0).scan.inCycle = true ∧ (walkRead.sched .s0).queue = [] ∧
      (walkRead.sched .s0).list.Nodup ∧ (walkRead.sched .s0).list = [] ++ [0] ++ 1 :: [] ∧
      (walkRead.sched .s0).cursor = ([0] ++ [1] : List PointIdx).head? ∧
      walkRead.visitNeeds .s0 0 none ∧ walkRead.visitNeeds .s0 1 (some .read) :=
  ⟨by decide +kernel, by decide +kernel, by decide +kernel, by decide +kernel, by decide +kernel, by decide +kernel,
    Or.inl ⟨rfl, Or.inl (by decide +kernel)⟩,
    Or.inr ⟨by decide +kernel, by decide +kernel, Or.inl ⟨rfl, by decide +kernel⟩⟩⟩

/-- Point 0 gets a WRITE, the demand entry waiting behind a back-to-back count at the share. -/
def walkWrite : State :=
  (lab { out0 with slot := some ⟨100, .port .a, false⟩ } .on .ready .running [⟨0, noPorts, false⟩]).modSched .s0
    fun c => { c with backToBack := 2 }

theorem test_hyp_ScanWalk_write :
    (walkWrite.link .s0).state = .ready ∧ (walkWrite.sched .s0).scan.inCycle = true ∧
      (walkWrite.sched .s0).cfg.share ≤ (walkWrite.sched .s0).backToBack ∧ (walkWrite.sched .s0).list.Nodup ∧
      (walkWrite.sched .s0).list = [] ++ [] ++ 0 :: [] ∧
      (walkWrite.sched .s0).cursor = ([] ++ [0] : List PointIdx).head? ∧
      walkWrite.visitNeeds .s0 0 (some .write) :=
  ⟨by decide +kernel, by decide +kernel, by decide +kernel, by decide +kernel, by decide +kernel, by decide +kernel,
    Or.inr ⟨by decide +kernel, by decide +kernel, Or.inr (Or.inl ⟨rfl, by decide +kernel, by decide +kernel⟩)⟩⟩

/-- Every reason to pass a point over: its phase, a LOST node probed already, an OUTPUT point with nothing to do. -/
def walkPast : State :=
  (lab2 { in0 with phase := 15 } in0 .running (some 0)).modNode .s0 0 fun _ => ⟨.lost, 2, 3, true⟩

theorem test_hyp_ScanWalk_past :
    (walkPast.link .s0).state = .ready ∧ (walkPast.sched .s0).scan.inCycle = true ∧ (walkPast.sched .s0).queue = [] ∧
      (walkPast.sched .s0).list.Nodup ∧ (walkPast.sched .s0).list = [] ++ [0, 1] ∧ [(0 : PointIdx), 1] ≠ [] ∧
      (walkPast.sched .s0).cursor = [(0 : PointIdx), 1].head? ∧
      walkPast.visitNeeds .s0 0 none ∧ walkPast.visitNeeds .s0 1 none ∧
      (lab out0 .on .ready .running []).visitNeeds .s0 0 none ∧
      (lab { out0 with verify := true } .on .ready .running []).visitNeeds .s0 0 (some .read) :=
  ⟨by decide +kernel, by decide +kernel, by decide +kernel, by decide +kernel, by decide +kernel, by decide,
    by decide +kernel, Or.inl ⟨rfl, Or.inl (by decide +kernel)⟩,
    Or.inl ⟨rfl, Or.inr (Or.inl ⟨by decide +kernel, by decide +kernel⟩)⟩,
    Or.inl ⟨rfl, Or.inr (Or.inr ⟨by decide +kernel, by decide +kernel, by decide +kernel⟩)⟩,
    Or.inr ⟨by decide +kernel, by decide +kernel,
      Or.inr (Or.inr ⟨rfl, by decide +kernel, by decide +kernel, by decide +kernel⟩)⟩⟩

theorem test_scanWalk :
    shows (.gapEnd .s0 calm) (walkRead.modLink .s0 fun l => { l with state := .gap })
      (fun t => ((t.link .s0).exchange.map Exchange.target, (t.point 0).phase, (t.sched .s0).cursor,
        (t.sched .s0).cycleMark, (t.node .s0 0).probe)) = (some 1, 0, none, true, true) := by decide +kernel

theorem test_hyp_LinkAndNodeCommands :
    segOf (arg [0, 30] 0) = some .s0 ∧ nodeOf (arg [0, 30] 1) = some 29 ∧ nodeOf (arg [0, 31] 1) = none ∧
      ((lab out0 .on .lineDown .haltedLine []).link .s0).state = .lineDown ∧
      (((lab out0 .on .ready .stopped []).modNode .s0 29 fun _ => ⟨.lost, 2, 3, true⟩).node .s0 29).state = .lost ∧
      arg [0, 1] 1 ≤ 1 := by decide +kernel

theorem test_hyp_AttemptCourse :
    ((lab out0 .on (.busy .sending reading) .running []).link .s0).state = .busy .sending reading ∧
      ((lab out0 .on (.busy .sending reading) .running []).link .s0).idleTimer = none ∧
      ((lab out0 .on (.busy .awaiting reading) .running []).link .s0).state = .busy .awaiting reading ∧
      ((lab out0 .on (.busy .backoff reading) .running []).link .s0).state = .busy .backoff reading := by
  decide +kernel

/-- Responses that are valid, with data and without, and two that are not: a stop bit missing, a pause. -/
theorem test_hyp_AttemptCourse_responses :
    judgeResponse reading (answerStatus 1) = .busy ∧ judgeResponse reading (answerStatus 4) = .readOnly ∧
      judgeResponse writing (answerStatus 0) = .accepted ∧ judgeResponse reading (answerStatus 0) = .checkError ∧
      judgeResponse reading (answerStatus 5) = .checkError ∧
      judgeResponse reading (answer100.map fun c => { c with paused := true }) = .checkError ∧
      judgeResponse reading (answer100.map fun c => { c with stop := false }) = .checkError ∧
      judgeResponse reading (answer100.map fun c => { c with parity := !c.parity }) = .checkError ∧
      AttemptResult.busy ≠ .checkError := by decide +kernel

theorem test_hyp_AttemptEnds :
    ((lab out0 .on (.busy .receiving reading) .running []).link .s0).state = .busy .receiving reading ∧
      reading.attempts < ((lab out0 .on (.busy .receiving reading) .running []).link .s0).cfg.retries + 1 ∧
      ¬((3 : Nat) < ((lab out0 .on (.busy .receiving reading) .running []).link .s0).cfg.retries + 1) ∧
      judgeResponse reading answer100 = .accepted := by decide +kernel

theorem test_hyp_LineFaults :
    (((lab out0 .on .recovering .haltedLine []).modLink .s0 fun l => { l with idleTimer := some 2000 }).link
        .s0).idleTimer ≠ none ∧
      ((lab out0 .on .recovering .haltedLine []).link .s0).state = .recovering ∧
      ((lab out0 .on (.busy .sending reading) .running []).link .s0).driving = true ∧
      min (((lab out0 .on (.busy .sending reading) .running []).link .s0).faults + 1) 7 <
        ((lab out0 .on (.busy .sending reading) .running []).link .s0).cfg.faultLimit := by decide +kernel

/-- A scan READ in flight at the next fault's LINE_DOWN, with the scan and the cursor as given. -/
def nearDown (c : ScanState) (cur : Option PointIdx) : State :=
  ((lab in0 .on (.busy .sending reading) c []).modSched .s0 fun v => { v with cursor := cur }).modLink .s0 fun l =>
    { l with faults := 2 }

/-- In each clause: no end of the cycle by the exchange, one that goes on, one that stops the scan, and none in a
cycle. -/
theorem test_hyp_LineFaults_down :
    ((nearDown .running none).link .s0).cfg.faultLimit ≤ min (((nearDown .running none).link .s0).faults + 1) 7 ∧
      ((nearDown .running none).link .s0).exchange = some reading ∧ reading.kind = .scan ∧
      ((nearDown .running (some 0)).sched .s0).cursor ≠ none ∧ ((nearDown .running none).sched .s0).cut = false ∧
      ((nearDown .running none).sched .s0).cursor = none ∧ ((nearDown .running none).sched .s0).list ≠ [] ∧
      ((nearDown .running none).sched .s0).cfg.cycles = 0 ∧ ((nearDown .finishing none).sched .s0).scan = .finishing ∧
      ((nearDown .stopping none).sched .s0).scan = .stopping ∧ ((nearDown .stopped none).sched .s0).scan = .stopped ∧
      ((lab in0 .on .recovering .waiting []).link .s0).exchange = none := by decide +kernel

/-- R93 by the scan state; the end of the exchange completes the cycle before it where the cursor is at END (R79). -/
theorem test_lineFault_scans :
    [(ScanState.running, some 0), (.running, none), (.finishing, none), (.stopping, none), (.stopped, none),
        (.waiting, none), (.haltedPower, none)].map (fun x : ScanState × Option PointIdx =>
        shows (.transmitterCurrentLimit .s0) (nearDown x.1 x.2) (fun t =>
          ((t.link .s0).state, (t.sched .s0).scan, (t.sched .s0).cursor, (t.sched .s0).cyclesEnded))) =
      [(.lineDown, .haltedLine, some 0, 0), (.lineDown, .haltedLine, some 0, 1), (.lineDown, .stopped, none, 1),
        (.lineDown, .stopped, none, 0), (.lineDown, .stopped, none, 0), (.lineDown, .haltedLine, some 0, 0),
        (.lineDown, .haltedPower, none, 0)] := by decide +kernel

/-- LINE reaches the port whose mask takes it. -/
theorem test_lineFault_notice :
    shows (.transmitterCurrentLimit .s0)
      ((lab out0 .on (.busy .sending reading) .running []).modPort .b fun u => { u with segMask := 0x37 })
      (fun t => ((t.segNoteOf .a .s0).line, (t.segNoteOf .b .s0).line)) = (true, false) := by decide +kernel

theorem test_hyp_LinkBecomesReady :
    ((lab out0 .on .gap .running []).link .s0).state = .gap ∧
      (((lab out0 .on .recovering .haltedLine []).modLink .s0 fun l => { l with recoveryTimer := some 100000 }).link
        .s0).recoveryTimer ≠ none ∧
      calm.idle.get .s0 = true ∧ busyLine.idle.get .s0 = false ∧
      ((lab out0 .on .gap .running []).sched .s0).scan ≠ .haltedPower := by decide +kernel

/-- A HALTED scan in either mode, from either cause, at a link that becomes READY. -/
theorem test_hyp_LinkBecomesReady_halted :
    ((lab in0 .on .gap .haltedPower []).sched .s0).scan = .haltedPower ∧
      ((lab in0 .on .recovering .haltedLine []).sched .s0).scan = .haltedLine ∧
      ((lab in0 .on .gap .haltedPower []).sched .s0).cfg.mode = .freeRun ∧
      ((lab in0 .on .gap .haltedPower []).sched .s0).list ≠ [] ∧
      ((triggered (lab in0 .on .gap .haltedLine [])).sched .s0).cfg.mode = .triggered ∧
      (triggered (lab in0 .on .gap .haltedLine [])).heldFor .s0 = false := by decide +kernel

theorem test_hyp_ReadOutcomes :
    ((lab out0 .on (.busy .receiving reading) .running []).link .s0).state = .busy .receiving reading ∧
      reading.func = .read ∧ judgeResponse reading answer100 = .accepted ∧
      ((lab out0 .on (.busy .receiving reading) .running []).point reading.target).life = .live ∧
      intOfBytes true (responseData answer100) = 100 ∧ out0.value = some 100 ∧
      { out0 with value := none }.value = none := by
  decide +kernel

/-- The characters of a response that carries data (Table 6-4b). -/
theorem test_hyp_ReadOutcomes_frame :
    answer100.map RxChar.data =
      0x5D :: 0x01 :: 0x00 :: byteOf [(0x64 : Byte), 0x00].length :: [0x64, 0x00] ++ [0x89] := by
  decide +kernel

/-- A LIVE OUTPUT point with a WRITE of Port B's 100 in flight, subscribed for WRITE results by Port A. -/
def delivering (l : LinkState) : State := lab { out0 with inFlight := some ⟨100, .port .b, true⟩ } .on l .running []

theorem test_hyp_OutcomesAtLivePoints_ok :
    (delivering (.busy .receiving writing)).endsExchange (.responseFrameEnd .s0 (answerStatus 0) calm) .s0 writing .ok ∧
      (delivering (.busy .receiving writing)).endsExchange (.responseFrameEnd .s0 (answerStatus 2) calm) .s0 writing
        .refused ∧
      writing.func = .write ∧ ((delivering .ready).point 0).inFlight = some ⟨100, .port .b, true⟩ ∧
      ((delivering .ready).point 0).life = .live :=
  ⟨Or.inr (Or.inr (Or.inl ⟨_, _, rfl, by decide +kernel, Or.inl ⟨by decide +kernel, rfl⟩⟩)),
    Or.inr (Or.inr (Or.inl ⟨_, _, rfl, by decide +kernel, Or.inr (Or.inl ⟨by decide +kernel, rfl⟩)⟩)),
    rfl, by decide +kernel, by decide +kernel⟩

theorem test_hyp_OutcomesAtLivePoints_others :
    (delivering (.busy .receiving { writing with attempts := 3 })).endsExchange
        (.responseFrameEnd .s0 (answerStatus 1) calm) .s0 { writing with attempts := 3 } .deferred ∧
      (delivering (.busy .awaiting { writing with attempts := 3 })).endsExchange (.responseWindowExpiry .s0 calm) .s0
        { writing with attempts := 3 } .failed ∧
      (delivering (.busy .receiving { reading with attempts := 3 })).endsExchange (.tenthCharacter .s0 calm) .s0
        { reading with attempts := 3 } .failed ∧
      (delivering (.busy .sending writing)).endsExchange (.transmitterCurrentLimit .s0) .s0 writing .lineFault ∧
      ((delivering (.busy .sending writing)).modLink .s0 fun l => { l with idleTimer := some 2000 }).endsExchange
        (.idleWaitExpiry .s0) .s0 writing .lineFault :=
  ⟨Or.inr (Or.inr (Or.inl ⟨_, _, rfl, by decide +kernel,
      Or.inr (Or.inr (Or.inr ⟨by decide +kernel, by decide +kernel, rfl⟩))⟩)),
    Or.inl ⟨_, rfl, by decide +kernel, by decide +kernel, rfl⟩,
    Or.inr (Or.inl ⟨_, rfl, by decide +kernel, by decide +kernel, rfl⟩),
    Or.inr (Or.inr (Or.inr (Or.inr ⟨rfl, by decide +kernel, by decide +kernel, rfl⟩))),
    Or.inr (Or.inr (Or.inr (Or.inl ⟨rfl, by decide +kernel, by decide +kernel, rfl⟩)))⟩

/-- Whether a failure brings node 1 to LOST: with 2 failures before it, and not with 1 (R121). -/
theorem test_hyp_OutcomesAtLivePoints_lost :
    ((delivering .ready).modNode .s0 0 fun _ => ⟨.suspect, 1, 2, false⟩).bringsLost .s0 0 .failed ∧
      ¬((delivering .ready).modNode .s0 0 fun _ => ⟨.suspect, 1, 1, false⟩).bringsLost .s0 0 .failed ∧
      ¬((delivering .ready).modNode .s0 0 fun _ => ⟨.suspect, 1, 2, false⟩).bringsLost .s0 0 .deferred := by
  unfold State.bringsLost
  decide +kernel

/-- Band INSIDE 0 to 50, value 90 before: a READ of 100 is a change and takes the band ABOVE. -/
def updating : State :=
  lab { in0 with value := some 90, band := some ⟨0, 50, 5, .inside⟩ } .on (.busy .receiving reading) .running []

theorem test_hyp_ValueUpdates_read :
    (updating.link .s0).state = .busy .receiving reading ∧ judgeResponse reading answer100 = .accepted ∧
      (updating.point 0).life = .live ∧ reading.func = .read ∧ (updating.point 0).kind = .input ∧
      (100 : Int) = intOfBytes (updating.point 0).signed (responseData answer100) ∧
      (updating.point 0).deadband = none ∧ (updating.point 0).value ≠ some 100 ∧
      (updating.point 0).band = some ⟨0, 50, 5, .inside⟩ ∧ BandState.above ≠ .inside := by decide +kernel

theorem test_hyp_ValueUpdates_write :
    ((delivering (.busy .receiving writing)).link .s0).state = .busy .receiving writing ∧
      judgeResponse writing (answerStatus 0) = .accepted ∧ writing.func = .write ∧
      ((delivering (.busy .receiving writing)).point 0).life = .live ∧
      ((delivering (.busy .receiving writing)).point 0).inFlight = some ⟨100, .port .b, true⟩ ∧
      ((delivering (.busy .receiving writing)).point 0).value = some 100 ∧
      ((delivering (.busy .receiving writing)).point 0).deadband = none ∧
      ((delivering (.busy .receiving writing)).point 0).band = none := by decide +kernel

theorem test_valueUpdate :
    shows (.responseFrameEnd .s0 answer100 calm) updating
      (fun t => ((t.point 0).band.map Band.state, t.noteOf .a 0, t.noteOf .b 0)) =
      (some .above, ⟨1, 1, false, none, none, false⟩, ⟨1, 0, false, none, none, false⟩) := by decide +kernel

/-- The ends of exchanges by the target's life, the exchange's kind and the scan. -/
theorem test_hyp_ExchangeEnds :
    (updating.endsExchange (.responseFrameEnd .s0 answer100 calm) .s0 reading .ok) ∧
      (lab { in0 with life := .retiring } .on (.busy .receiving reading) .stopping []).endsExchange
        (.responseFrameEnd .s0 answer100 calm) .s0 reading .ok ∧
      ((lab { in0 with life := .retiring } .on (.busy .receiving reading) .stopping []).point 0).life = .retiring ∧
      in0.subs.get .a ≠ 0 ∧ reading.kind = .scan ∧ { reading with kind := .demand }.kind = .demand ∧
      ((lab in0 .on (.busy .receiving reading) .stopping []).sched .s0).scan = .stopping ∧
      ((updating.modSched .s0 fun c => { c with cut := true }).sched .s0).cut = true ∧
      ((updating.modSched .s0 fun c => { c with cursor := none }).sched .s0).cursor = none ∧
      (updating.sched .s0).scan.inCycle = true ∧ (updating.sched .s0).list ≠ [] :=
  ⟨Or.inr (Or.inr (Or.inl ⟨_, _, rfl, by decide +kernel, Or.inl ⟨by decide +kernel, rfl⟩⟩)),
    Or.inr (Or.inr (Or.inl ⟨_, _, rfl, by decide +kernel, Or.inl ⟨by decide +kernel, rfl⟩⟩)),
    by decide +kernel⟩

/-- A RETIRING target that nobody is told of and no list names is FREE. -/
theorem test_exchangeEnds_free :
    shows (.responseFrameEnd .s0 answer100 calm)
      (lab { in0 with life := .retiring, subs := ⟨0, 0⟩ } .on (.busy .receiving reading) .stopping [])
      (fun t => (t.point 0, (t.sched .s0).scan)) = (Point.cleared 4, .stopped) := by decide +kernel

/-- The laws of the segments' blocks, from what the kernel can evaluate, where only segment 0 has points and power. -/
theorem segmentLaw_of_checks (s : State) (hon : (s.feed .s0).state = .on)
    (hpts : ∀ i, (s.point i).life = .live → (s.point i).seg = .s0)
    (h : ∀ g, ((s.sched g).queue.map DemandEntry.point).Nodup ∧
      (∀ d ∈ (s.sched g).queue, (s.point d.point).life = .live ∧ (s.point d.point).seg = g) ∧
      ((s.link g).exchange.all fun x =>
        decide ((s.point x.target).seg = g ∧ (s.point x.target).node = x.node ∧
          ((s.point x.target).life = .live ∨ (s.point x.target).life = .retiring))) = true ∧
      (g ≠ .s0 → (s.link g).state = .off ∧ (s.sched g).queue = [] ∧ (s.sched g).scan = .stopped)) : SegmentLaw s := by
  intro g
  obtain ⟨h1, h2, h3, h4⟩ := h g
  refine ⟨h1, h2, fun x hx => ?_, fun hf => ?_⟩
  · rw [hx] at h3
    exact of_decide_eq_true h3
  · have hg : g ≠ .s0 := fun e => hf (e ▸ hon)
    exact ⟨(h4 hg).1, (h4 hg).2.1, Or.inl (h4 hg).2.2, fun i hl hi => absurd (hi.symm.trans (hpts i hl)) hg⟩

/-- A demand WRITE of Port B's 100 to point 0, urgent values before and behind it. -/
def demandWrite : Exchange := { writing with kind := .demand, attempts := 3 }

/-- Point 0 of the given life with that WRITE in flight and an urgent value in its slot. -/
def serving (life : Life) (sub : SubPhase) (q : List DemandEntry) : State :=
  lab { out0 with life := life, slot := some ⟨5, .port .a, true⟩, inFlight := some ⟨100, .port .b, true⟩ } .on
    (.busy sub demandWrite) .stopped q

theorem test_hyp_NodeTracker_ends :
    SegmentLaw (serving .live .awaiting [⟨0, ⟨true, false⟩, true⟩]) ∧
      (serving .live .awaiting [⟨0, ⟨true, false⟩, true⟩]).endsExchange (.responseWindowExpiry .s0 calm) .s0 demandWrite
        .failed ∧
      SegmentLaw (serving .retiring .awaiting []) ∧
      (serving .retiring .awaiting []).endsExchange (.responseWindowExpiry .s0 calm) .s0 demandWrite .failed ∧
      ((serving .retiring .awaiting []).node .s0 0).refs ≤ 1 :=
  ⟨segmentLaw_of_checks _ (by decide +kernel) (by decide +kernel) fun g => by cases g <;> decide +kernel,
    Or.inl ⟨_, rfl, by decide +kernel, by decide +kernel, rfl⟩,
    segmentLaw_of_checks _ (by decide +kernel) (by decide +kernel) fun g => by cases g <;> decide +kernel,
    Or.inl ⟨_, rfl, by decide +kernel, by decide +kernel, rfl⟩, by decide +kernel⟩

/-- The first failure makes the node SUSPECT, told where the mask takes NODE. -/
theorem test_nodeTracker_ends :
    shows (.responseWindowExpiry .s0 calm)
      ((serving .live .awaiting [⟨0, ⟨true, false⟩, true⟩]).modPort .b fun u => { u with segMask := 0x2F })
      (fun t => (t.node .s0 0, (t.segNoteOf .a .s0).nodes, (t.segNoteOf .b .s0).nodes)) =
      (⟨.suspect, 1, 1, false⟩, 1, 0) := by decide +kernel

/-- The closure after the judgement: the node of the last point is told SUSPECT and then IDLE with its counts 0. -/
theorem test_exchangeEnds_lastPoint :
    shows (.responseWindowExpiry .s0 calm) (serving .retiring .awaiting [])
      (fun t => (t.node .s0 0, (t.segNoteOf .a .s0).nodes, (t.point 0).life)) = (⟨.idle, 0, 0, false⟩, 1, .closed) := by
  decide +kernel

/-- Whether the urgent value is offered again: with room in the queue, and not with the queue full (R58). -/
theorem test_hyp_ExchangeEnds_offer :
    (serving .live .awaiting []).endsExchange (.responseWindowExpiry .s0 calm) .s0 demandWrite .failed ∧
      (∃ f, f.urgent = true ∧ ((serving .live .awaiting []).point 0).slot = some f) ∧
      ((serving .live .awaiting []).feed .s0).state = .on ∧
      ((serving .live .awaiting (List.replicate 8 ⟨1, noPorts, false⟩)).sched .s0).queue.length = 8 :=
  ⟨Or.inl ⟨_, rfl, by decide +kernel, by decide +kernel, rfl⟩, ⟨_, rfl, rfl⟩, by decide +kernel, by decide +kernel⟩

theorem test_exchangeEnds_offer :
    shows (.responseWindowExpiry .s0 calm) (serving .live .awaiting [⟨0, ⟨true, false⟩, true⟩])
        (fun t => (t.sched .s0).queue) = [⟨0, noPorts, false⟩] ∧
      shows (.transmitterCurrentLimit .s0) (delivering (.busy .sending writing)) (fun t => (t.sched .s0).queue) =
        [⟨0, noPorts, false⟩] ∧
      shows (.responseFrameEnd .s0 (answerStatus 0) calm) (delivering (.busy .receiving writing))
        (fun t => (t.sched .s0).queue) = [] := by decide +kernel

theorem test_hyp_NodeTracker :
    (⟨.suspect, 1, 2, false⟩ : NodeRec).state ≠ .idle ∧ 3 ≤ min (2 + 1) 15 ∧ min (1 + 1) 15 < 3 ∧
      (⟨.lost, 1, 15, false⟩ : NodeRec).state = .lost := by decide +kernel

/-- Tally 1 counts answers missing, of all nodes or of node 1, and wraps from 65535. -/
theorem test_hyp_NodeTracker_tallies :
    ((lab in0 .on (.busy .awaiting reading) .running []).seg .s0).tally1 = ⟨.noResponse, 0, 0⟩ ∧
      (((lab in0 .on (.busy .awaiting reading) .running []).modSeg .s0 fun v =>
        { v with tally1 := ⟨.noResponse, 1, 65535⟩ }).seg .s0).tally1.filter = reading.node.val + 1 ∧
      shows (.responseWindowExpiry .s0 calm)
        ((lab in0 .on (.busy .awaiting reading) .running []).modSeg .s0 fun v =>
          { v with tally0 := ⟨.noResponse, 2, 5⟩, tally1 := ⟨.noResponse, 1, 65535⟩ })
        (fun t => ((t.seg .s0).tally0.count, (t.seg .s0).tally1.count, (t.segNoteOf .a .s0).wrap0,
          (t.segNoteOf .a .s0).wrap1)) = (5, 0, false, true) ∧
      ((lab in0 .on (.busy .sending reading) .running []).link .s0).driving = true := by decide +kernel

theorem test_hyp_FeedCommands :
    segOf (arg [0] 0) = some .s0 ∧ State.reset.hasDevice .a .feed = true ∧
      ((lab out0 .tripped .off .stopped []).feed .s0).state = .tripped ∧
      ((lab out0 .tripped .off .stopped []).feed .s0).state ≠ .on ∧
      SegmentLaw ((lab out0 .on .ready .stopped []).setPoint 9 { out0 with seg := .s1, life := .retiring }) ∧
      (((lab out0 .on .ready .stopped []).setPoint 9 { out0 with seg := .s1, life := .retiring }).point 9).seg ≠ .s0 :=
  ⟨by decide +kernel, by decide +kernel, by decide +kernel, by decide +kernel,
    segmentLaw_of_checks _ (by decide +kernel) (by decide +kernel) fun g => by cases g <;> decide +kernel,
    by decide +kernel⟩

/-- FEED_OFF of a TRIPPED feed raises nothing, its record apart (R141). -/
theorem test_feedOff_tripped :
    shows (.feedOff .a 1 [0] calm) (lab out0 .tripped .off .haltedPower [])
      (fun t => ((t.feed .s0).state, (t.feed .s0).retryTimer, (t.port .a).attention, (t.port .b).attention,
        (t.sched .s0).scan)) = (.off, none, [], [], .haltedPower) := by decide +kernel

theorem test_hyp_FeedEvents :
    ((lab out0 .on .ready .stopped []).feed .s0).state.closed = true ∧
      ((lab out0 .on .ready .stopped []).feed .s0).clamping = false ∧
      ((lab out0 .on .ready .stopped []).feed .s0).clampTimer = true ∧
      ((lab out0 .on .ready .stopped []).feed .s0).cfg.blanking.millis * 10 ≤ 150 ∧
      ((lab out0 .on .ready .stopped []).feed .s0).cfg.retry.millis = some 2000 ∧
      ((lab out0 .starting .off .stopped []).feed .s0).state.closed = true ∧
      ((lab out0 .starting .off .stopped []).feed .s0).clampTimer = true ∧
      ((lab out0 .starting .off .stopped []).feed .s0).state ≠ .on ∧
      ((lab out0 .starting .off .stopped []).feed .s0).startTimer ≠ none ∧
      ((lab out0 .starting .off .stopped []).feed .s0).cfg.settle ≠ 0 ∧
      ((lab out0 .settling .off .stopped []).feed .s0).settleTimer ≠ none ∧
      ((lab out0 .tripped .off .stopped []).feed .s0).retryTimer ≠ none := by decide +kernel

/-- A trip in SETTLING stops the timers and leaves the halted scan and the quality of the point (R135). -/
theorem test_feedTrip_settling :
    shows (.feedTrip .s0 150 false calm) (lab { in0 with quality := .unpowered } .settling .off .haltedPower [])
      (fun t => ((t.feed .s0).state, (t.feed .s0).settleTimer, (t.feed .s0).clampTimer, (t.sched .s0).scan,
        (t.port .a).attention.map Entry.thing)) =
      (.tripped, none, false, .haltedPower, [.segment .s0]) := by decide +kernel

/-- The switch and the limit in force (R134). -/
theorem test_gate :
    [FeedState.off, .starting, .settling, .on, .tripped, .latched, .forcedOff].map (fun f =>
        ((lab in0 f .off .stopped []).gate .s0, ((lab in0 f .off .stopped []).feed .s0).limitInForce)) =
        [(false, none), (true, some 500), (true, some 500), (true, some 500), (false, none), (false, none),
          (false, none)] ∧
      (((lab in0 .starting .off .stopped []).modFeed .s0 fun f =>
        { f with cfg := { f.cfg with doubleStart := true } }).feed .s0).limitInForce = some 1000 := by decide +kernel

/-- At the entry into ON the urgent value of point 0 is offered and then granted, its WRITE in flight. -/
theorem test_feedEvents_offer :
    ((lab { out0 with slot := some ⟨5, .safe, true⟩ } .settling .off .stopped []).sched .s0).queue = [] ∧
      shows (.settleTimerExpiry .s0 calm) (lab { out0 with slot := some ⟨5, .safe, true⟩ } .settling .off .stopped [])
        (fun t => ((t.sched .s0).queue, (t.point 0).inFlight)) = ([⟨0, noPorts, true⟩], some ⟨5, .safe, true⟩) := by
  decide +kernel

theorem test_hyp_FeedLoss :
    ((lab out0 .on .ready .running []).feed .s0).state = .on ∧
      (∃ t, exec (.feedOff .a 1 [0] calm) (lab out0 .on .ready .running []) = .next t) ∧
      ((after (.feedOff .a 1 [0] calm) (lab out0 .on .ready .running [])).feed .s0).state ≠ .on :=
  ⟨by decide +kernel, ⟨_, rfl⟩, by decide +kernel⟩

/-- What stands in flight and queued when the feed is lost, in each clause. -/
theorem test_hyp_FeedLoss_clauses :
    (twoDemands.link .s0).exchange.map Exchange.target = some 50 ∧
      (∃ d ∈ (twoDemands.sched .s0).queue, d.point = 10) ∧ (twoDemands.point 10).demanders.get .a = true ∧
      (twoDemands.port .a).attention = [] ∧
      ((delivering (.busy .sending writing)).link .s0).exchange = some writing ∧
      ((delivering (.busy .sending writing)).point 0).inFlight = some ⟨100, .port .b, true⟩ ∧
      ((lab { in0 with life := .retiring } .on (.busy .receiving reading) .stopping []).link .s0).exchange =
        some reading := by decide +kernel

/-- In the clauses of the abandoned WRITE: a newer value in the slot and none, and a point that it does not serve. -/
theorem test_hyp_FeedLoss_writes :
    ((serving .live .sending []).link .s0).exchange = some demandWrite ∧ demandWrite.func = .write ∧
      (((serving .live .sending []).point 0).slot.isSome = true) ∧ ((serving .live .sending []).point 0).failed = 0 ∧
      ((delivering (.busy .sending writing)).point 0).slot = none ∧
      SegmentLaw (lab in0 .on (.busy .awaiting reading) .running []) ∧
      ((lab in0 .on (.busy .awaiting reading) .running []).link .s0).exchange = some reading ∧ reading.func ≠ .write :=
  ⟨by decide +kernel, rfl, by decide +kernel, by decide +kernel, by decide +kernel,
    segmentLaw_of_checks _ (by decide +kernel) (by decide +kernel) fun g => by cases g <;> decide +kernel,
    by decide +kernel, by decide⟩

/-- The abandoned value of Port B gives way to Port A's with SUPERSEDED for B and, at the first failure, DELAYED for A;
alone, it returns to the slot with DELAYED for B (R63). The link's timers stop, and LINE is raised from LINE_DOWN. -/
theorem test_feedLoss_writes :
    shows (.feedOff .a 1 [0] calm) (serving .live .sending [])
        (fun t => ((t.noteOf .a 0).write, (t.noteOf .b 0).write, (t.point 0).slot)) =
        (some (.delayed, .port .a), some (.superseded, .port .b), some ⟨5, .port .a, true⟩) ∧
      shows (.feedOff .a 1 [0] calm) (delivering (.busy .sending writing))
        (fun t => ((t.noteOf .a 0).write, (t.noteOf .b 0).write, (t.segNoteOf .a .s0).line)) =
        (none, some (.delayed, .port .b), false) ∧
      shows (.feedOff .a 1 [0] calm)
        ((lab in0 .on .lineDown .haltedLine []).modLink .s0 fun l => { l with faults := 3, recoveryTimer := some 5 })
        (fun t => (t.link .s0, (t.segNoteOf .a .s0).line)) = (State.reset.link .s0, true) := by decide +kernel

/-- R92 by the scan state, with a cut pending and a cycle in progress that is not counted. -/
theorem test_feedLoss_scans :
    [ScanState.running, .finishing, .waiting, .haltedLine, .stopping, .stopped].map (fun c =>
        shows (.feedOff .a 1 [0] calm)
          ((lab in0 .on (.busy .sending reading) c [⟨0, ⟨true, false⟩, false⟩]).modSched .s0 fun v =>
            { v with cut := true, backToBack := 2 })
          (fun t => ((t.sched .s0).scan, (t.sched .s0).cursor, (t.sched .s0).cut, (t.sched .s0).cyclesEnded,
            (t.sched .s0).backToBack))) =
      [(.haltedPower, some 0, false, 0, 0), (.haltedPower, some 0, false, 0, 0), (.haltedPower, some 0, false, 0, 0),
        (.haltedPower, some 0, false, 0, 0), (.stopped, none, false, 0, 0), (.stopped, none, true, 0, 0)] := by
  decide +kernel

/-- Demand exchanges counted in the first tally. -/
def counting (s : State) : State := s.modSeg .s0 fun v => { v with tally0 := ⟨.demandExchanges, 1, 65535⟩ }

theorem test_hyp_FeedLoss_law :
    SegmentLaw (counting (serving .retiring .sending [])) ∧
      ((counting (serving .retiring .sending [])).link .s0).exchange = some demandWrite ∧ demandWrite.kind = .demand ∧
      ((counting (serving .retiring .sending [])).point 0).life = .retiring ∧
      ((counting (serving .retiring .sending [])).node .s0 0).refs ≠ 0 :=
  ⟨segmentLaw_of_checks _ (by decide +kernel) (by decide +kernel) fun g => by cases g <;> decide +kernel,
    by decide +kernel, rfl, by decide +kernel, by decide +kernel⟩

/-- Whichever of the points and the nodes comes first, the ABANDONED outcome is tallied while the target is counted,
and the record is IDLE with the last point closed (R120). -/
theorem test_feedLoss_lastPoint (order : List Part) (h : order ∈ [[Part.points .s0], [.nodes .s0]]) :
    shows (.feedOff .a 1 [0] ⟨calm.idle, order⟩) (counting (serving .retiring .sending []))
      (fun t => ((t.seg .s0).tally0.count, (t.segNoteOf .a .s0).wrap0, t.node .s0 0, (t.noteOf .b 0).retired)) =
      (0, true, ⟨.idle, 0, 0, false⟩, true) := by
  fin_cases h <;> decide +kernel

theorem test_hyp_MonitorLevels :
    SupplyLevel.under = State.reset.supply.judge 13999 ∧ SupplyLevel.low = State.reset.supply.judge 14000 ∧
      SupplyLevel.normal = State.reset.supply.judge 18000 ∧ TempLevel.shutdown = State.reset.temperature.judge 150001 ∧
      TempLevel.warn = State.reset.temperature.judge 150000 ∧ TempLevel.normal = State.reset.temperature.judge 130000 ∧
      SupplyLevel.under ≠ State.reset.supply := by decide +kernel

theorem test_hyp_SubscriptionsAndMasks :
    (lab out0 .on .ready .stopped []).handleOk (argHandle [0, 3, 15] 0) = true ∧ 1 ≤ arg [0, 3, 1] 2 ∧
      arg [0, 3, 15] 2 ≤ 15 ∧ (lab out0 .on .ready .stopped []).hasGroup .b .read 0 = true ∧ 63 < arg [64, 0, 0] 0 ∧
      arg [63, 31, 1] 0 ≤ 63 ∧ 31 < arg [0, 32, 0] 1 ∧ 1 < arg [0, 0, 2] 2 := by decide +kernel

theorem test_hyp_TakeAttention :
    (State.reset.port .a).attention = [] ∧
      ((State.reset.modPort .a fun u => { u with attention := [.device 31, .segment .s3 .empty] }).port .a).attention =
        Entry.device 31 :: [.segment .s3 .empty] := by decide +kernel

theorem test_hyp_MergedReasons :
    (∀ n, Entry.point 0 (State.reset.point 0).generation n ∉ (State.reset.port .a).attention) ∧
      (State.reset.port .a).segMask.getLsbD (SegReason.tally true).bit = true ∧
      ((State.reset.modPort .a fun u => { u with segMask := 0x1F }).port .a).segMask.getLsbD
        (SegReason.tally true).bit = false ∧
      ((State.reset.modPort .a fun u => { u with devMask := 0 }).port .a).devMask.getLsbD
        DevReason.supply.bit = false :=
  ⟨fun n => List.not_mem_nil, by decide +kernel, by decide +kernel, by decide +kernel⟩

theorem test_hyp_TicksAndStaleness :
    out0.life = .live ∧ out0.quality = .good ∧ out0.staleLimit ≠ 0 ∧ out0.staleLimit ≤ out0.age ∧
      ¬({ out0 with age := 9 }.staleLimit ≤ { out0 with age := 9 }.age) := by decide +kernel

/-- A scan READ of point 0 in flight. -/
def scanning : State := lab in0 .on (.busy .receiving reading) .running []

theorem scanning_lawful : ScanListsSound scanning ∧ SegmentLaw scanning :=
  ⟨fun g => by cases g <;> decide +kernel,
    segmentLaw_of_checks _ (by decide +kernel) (by decide +kernel) fun g => by cases g <;> decide +kernel⟩

theorem test_hyp_SegmentIndependence :
    (∃ t, exec (.responseFrameEnd .s0 answer100 calm) scanning = .next t) ∧ ScanListsSound scanning ∧
      SegmentLaw scanning :=
  ⟨⟨_, rfl⟩, scanning_lawful⟩

theorem test_hyp_RightsKept : RightsHeld State.reset ∧ ∃ t, step State.reset = .next t :=
  ⟨Or.inl (by decide +kernel), ⟨_, rfl⟩⟩

theorem test_hyp_ListsKeptMerged : ListsMerged State.reset ∧ ∃ t, step State.reset = .next t :=
  ⟨fun p => by cases p <;> exact List.nodup_nil, ⟨_, rfl⟩⟩

theorem test_hyp_QueuesAndCountsKept :
    QueuesFit State.reset ∧ SchedCounts State.reset ∧ ∃ t, step State.reset = .next t :=
  ⟨fun g => by cases g <;> decide +kernel, fun g => by cases g <;> decide +kernel, ⟨_, rfl⟩⟩

/-- Point 0 alone, counted at node 1 while its link serves it. -/
theorem test_hyp_QueuesAndCountsKept_nodes :
    NodeCounts scanning ∧ (scanning.link .s0).exchange = some reading ∧ ScanListsSound scanning ∧ SegmentLaw scanning :=
  ⟨⟨fun g => by cases g <;> decide +kernel, fun g => by cases g <;> decide +kernel⟩, by decide +kernel, scanning_lawful⟩

theorem test_hyp_UnpoweredStaysQuiet : UnpoweredQuiet State.reset ∧ ∃ t, step State.reset = .next t :=
  ⟨fun g _ => ⟨by cases g <;> decide +kernel, by cases g <;> decide +kernel,
    Or.inl (by cases g <;> decide +kernel)⟩, ⟨_, rfl⟩⟩

/-- A segment with one LIVE point under scan. -/
theorem test_hyp_ScanListsKept : ScanListsSound scanning := scanning_lawful.1

theorem test_hyp_SegmentLawKept :
    ScanListsSound State.reset ∧ SegmentLaw State.reset ∧ ∃ t, step State.reset = .next t := by
  refine ⟨fun g => by cases g <;> decide +kernel, fun g => ⟨?_, ?_, ?_, ?_⟩, _, rfl⟩
  · cases g <;> decide +kernel
  · cases g <;> decide +kernel
  · intro x h
    cases g <;> cases h
  · intro _
    refine ⟨?_, ?_, Or.inl ?_, ?_⟩ <;> cases g <;> decide +kernel

end Sys2Proof.Tests
end

section
/-! PROOF. Listings (R21, R38): the search collects the first records of a filtered table and stops right after the
last of them, so LIST_POINTS and READ_BLOCK answer what the rules say. -/

namespace Sys2Proof.Machine

/-! ### The commands' arms -/

theorem exec_listPoints (p : Port) (tag : Byte) (ps : List Byte) (s : State) :
    exec (.listPoints p tag ps) s = command 0x13 p tag ps (listPoints p ps) s := rfl

theorem exec_readBlock (p : Port) (tag : Byte) (ps : List Byte) (s : State) :
    exec (.readBlock p tag ps) s = command 0x21 p tag ps (readBlock p ps) s := rfl

/-! ### The records from a start index on -/

theorem pointsFrom_of_lt {start : Nat} (h : start < 256) :
    pointsFrom start = ⟨start, h⟩ :: pointsFrom (start + 1) := by
  have inTable : start < allPoints.length := by simpa [allPoints] using h
  rw [pointsFrom, List.drop_eq_getElem_cons inTable]
  simp [allPoints, pointsFrom]

theorem pointsFrom_of_le {start : Nat} (h : 256 ≤ start) : pointsFrom start = [] :=
  List.drop_eq_nil_of_le (by simpa [allPoints] using h)

/-- What a search from a start index looks for, said of the whole table. -/
theorem filter_pointsFrom (want : PointIdx → Bool) (start : Nat) :
    (pointsFrom start).filter want = allPoints.filter fun i => decide (start ≤ i.val) && want i := by
  have below : (allPoints.take start).filter (fun i => decide (start ≤ i.val) && want i) = [] := by
    rw [List.filter_eq_nil_iff]
    intro i hi
    obtain ⟨k, hk, rfl⟩ := List.mem_take_iff_getElem.mp hi
    have outside : ¬start ≤ k := by omega
    simp [allPoints, outside]
  have above : (allPoints.drop start).filter (fun i => decide (start ≤ i.val) && want i) =
      (allPoints.drop start).filter want := by
    refine List.filter_congr fun i hi => ?_
    obtain ⟨k, hk, rfl⟩ := List.mem_drop_iff_getElem.mp hi
    simp [allPoints]
  calc (pointsFrom start).filter want
      = (allPoints.take start ++ allPoints.drop start).filter fun i => decide (start ≤ i.val) && want i := by
        rw [List.filter_append, below, above, List.nil_append, pointsFrom]
    _ = _ := by rw [List.take_append_drop]

/-! ### The search -/

/-- The record after a point's, if the table has one: where a search that stops at the point goes on. -/
def nextPoint (i : PointIdx) : Option PointIdx := if h : i.val + 1 < 256 then some ⟨i.val + 1, h⟩ else none

theorem head?_pointsFrom_succ (i : PointIdx) : (pointsFrom (i.val + 1)).head? = nextPoint i := by
  unfold nextPoint
  split
  · next h => rw [pointsFrom_of_lt h, List.head?_cons]
  · next h => rw [pointsFrom_of_le (Nat.le_of_not_lt h), List.head?_nil]

/-- A search without room stops at once. -/
theorem search_zero (want : PointIdx → Bool) (l : List PointIdx) : search want 0 l = ([], l.head?) := by
  cases l <;> rfl

theorem search_cons_of_want {want : PointIdx → Bool} {i : PointIdx} (h : want i = true) (n : Nat)
    (l : List PointIdx) : search want (n + 1) (i :: l) = (i :: (search want n l).1, (search want n l).2) := by
  simp [search, h]

theorem search_cons_of_not_want {want : PointIdx → Bool} {i : PointIdx} (h : want i = false) (n : Nat)
    (l : List PointIdx) : search want (n + 1) (i :: l) = search want (n + 1) l := by
  simp [search, h]

/-- A search collects the first records it wants, up to its room. -/
theorem search_fst (want : PointIdx → Bool) (n : Nat) (l : List PointIdx) :
    (search want n l).1 = (l.filter want).take n := by
  induction l generalizing n with
  | nil => simp [search]
  | cons i l ih =>
    cases n with
    | zero => simp [search]
    | succ n =>
      cases h : want i with
      | true => simp [search_cons_of_want h, List.filter_cons_of_pos h, ih]
      | false => simp [search_cons_of_not_want h, List.filter_cons_of_neg, h, ih]

/-- A search stops before the end of the table exactly when its room is used up before it; it then goes on right
after the record that used it up. -/
theorem search_snd (want : PointIdx → Bool) (n start : Nat) :
    (search want (n + 1) (pointsFrom start)).2 = ((pointsFrom start).filter want)[n]?.bind nextPoint := by
  by_cases inTable : start < 256
  · have rest := fun m => search_snd want m (start + 1)
    rw [pointsFrom_of_lt inTable]
    cases h : want ⟨start, inTable⟩ with
    | true =>
      rw [search_cons_of_want h, List.filter_cons_of_pos h]
      cases n with
      | zero =>
        rw [search_zero, List.getElem?_cons_zero, Option.bind_some]
        exact head?_pointsFrom_succ ⟨start, inTable⟩
      | succ n => rw [List.getElem?_cons_succ, rest]
    | false => rw [search_cons_of_not_want h, List.filter_cons_of_neg (by simp [h]), rest]
  · simp [pointsFrom_of_le (Nat.le_of_not_lt inTable), search]
termination_by 256 - start

/-- The head of a search's answer in terms of all the records it looks for (R21, R38). -/
theorem searchHead_search {want : PointIdx → Bool} {start : Nat} {found : List PointIdx}
    (hf : found = allPoints.filter fun i => decide (start ≤ i.val) && want i) (n : Nat) :
    searchHead (search want (n + 1) (pointsFrom start)) =
      (if found.length < n + 1 ∨ found[n]? = some 255 then [1, 0]
        else [0, byteOf (((found[n]?).getD 0).val + 1)]) ++ [byteOf (min found.length (n + 1))] := by
  rw [searchHead, search_snd, search_fst, filter_pointsFrom, ← hf, List.length_take, Nat.min_comm]
  cases last : found[n]? with
  | none =>
    have short : found.length < n + 1 := Nat.lt_succ_of_le (List.getElem?_eq_none_iff.mp last)
    simp [short]
  | some i =>
    have full : ¬found.length < n + 1 := Nat.not_lt.mpr (List.getElem?_eq_some_iff.mp last).1
    have last_iff : i = 255 ↔ ¬i.val + 1 < 256 := by
      rw [Fin.ext_iff]
      change i.val = 255 ↔ _
      omega
    by_cases h : i.val + 1 < 256
    · simp [nextPoint, full, last_iff, h]
    · simp [nextPoint, last_iff, h]

/-- A search's answer: the head, then what is given of each of the first records it looks for. -/
theorem search_answer {want : PointIdx → Bool} {start : Nat} {found : List PointIdx}
    (hf : found = allPoints.filter fun i => decide (start ≤ i.val) && want i) (n : Nat)
    (give : PointIdx → List Byte) :
    searchHead (search want (n + 1) (pointsFrom start)) ++
        (search want (n + 1) (pointsFrom start)).1.flatMap give =
      (if found.length < n + 1 ∨ found[n]? = some 255 then [1, 0]
        else [0, byteOf (((found[n]?).getD 0).val + 1)]) ++
        byteOf (min found.length (n + 1)) :: (found.take (n + 1)).flatMap give := by
  rw [searchHead_search hf, search_fst, filter_pointsFrom, ← hf, List.append_assoc, List.singleton_append]

/-! ### LIST_POINTS (R21) -/

theorem segOf_code (g : Seg) : segOf g.code = some g := by cases g <;> rfl

theorem segOf_eq_some_iff (n : Nat) (g : Seg) : segOf n = some g ↔ g.code = n := by
  constructor
  · unfold segOf
    split <;> intro h <;> cases h <;> rfl
  · rintro rfl
    exact segOf_code g

theorem segOf_eq_none_iff (n : Nat) : segOf n = none ↔ 3 < n := by
  match n with
  | 0 | 1 | 2 | 3 => simp [segOf]
  | n + 4 => simp [segOf]

/-- The filter of LIST_POINTS, read from its parameter byte. -/
theorem listed_segOf (s : State) (p : Port) (n : Nat) (i : PointIdx) :
    s.listed p (segOf n) i =
      decide ((s.point i).life = .live ∧ s.hasGroup p .read (s.point i).group = true ∧
        (n < 4 → (s.point i).seg.code = n)) := by
  cases h : segOf n with
  | none =>
    have big : ¬n < 4 := by
      have := (segOf_eq_none_iff n).mp h
      omega
    simp [State.listed, big]
  | some g =>
    have same : (s.point i).seg = g ↔ (s.point i).seg.code = n := by
      rw [← segOf_eq_some_iff, h, Option.some_inj, eq_comm]
    have small : n < 4 := by
      have := (segOf_eq_none_iff n).not.mp (by simp [h])
      omega
    simp [State.listed, small, same, Bool.and_assoc]

@[simp] theorem listed_acceptFrame (s : State) (p q : Port) (f : Option Seg) :
    (s.acceptFrame p).listed q f = s.listed q f := by
  funext i
  simp only [State.listed, point_acceptFrame, hasGroup_acceptFrame]

@[simp] theorem handleBytes_acceptFrame (s : State) (p : Port) : handleBytes (s.acceptFrame p) = handleBytes s := by
  funext i
  simp only [handleBytes, point_acceptFrame]

theorem listPoints_badParameter {p : Port} {ps : List Byte} {s : State}
    (h : ps.length ≠ 2 ∨ 3 < arg ps 1 ∧ arg ps 1 ≠ 255) : listPoints p ps s = refuse s .badParameter :=
  if_pos (h.imp_right (And.imp_left (segOf_eq_none_iff _).mpr))

theorem listPoints_accept {p : Port} {ps : List Byte} {s : State} (len : ps.length = 2)
    (filter : arg ps 1 < 4 ∨ arg ps 1 = 255) :
    listPoints p ps s =
      accept s
        (searchHead (search (s.listed p (segOf (arg ps 1))) Config.listHandles (pointsFrom (arg ps 0))) ++
          (search (s.listed p (segOf (arg ps 1))) Config.listHandles (pointsFrom (arg ps 0))).1.flatMap
            (handleBytes s)) := by
  refine if_neg ?_
  rw [segOf_eq_none_iff]
  omega

/-! ### READ_BLOCK (R38) -/

/-- One view, byte by byte (Table 2-5): a port without READ sees NO_RIGHT and no value. -/
theorem view_eq (s : State) (p : Port) :
    s.view p = fun i =>
      if s.hasGroup p .read (s.point i).group = true then
        [byteOf i.val, (s.point i).generation, byteOf (s.point i).quality.code,
          if (s.point i).value.isSome then 1 else 0] ++ le4Opt (s.point i).value
      else [byteOf i.val, (s.point i).generation, 0, 2, 0, 0, 0, 0] := by
  have present (b : Bool) : byteOf (bit b 0) = if b then 1 else 0 := by cases b <;> rfl
  funext i
  rw [State.view, present]
  rfl

theorem readBlock_badParameter {p : Port} {ps : List Byte} {s : State} (h : ps.length ≠ 1) :
    readBlock p ps s = refuse s .badParameter :=
  if_pos h

theorem readBlock_accept {p : Port} {ps : List Byte} {s : State} (len : ps.length = 1) :
    readBlock p ps s =
      accept s
        (searchHead (search (fun i => decide ((s.point i).life = .live)) Config.blockViews (pointsFrom (arg ps 0))) ++
          (search (fun i => decide ((s.point i).life = .live)) Config.blockViews (pointsFrom (arg ps 0))).1.flatMap
            (s.view p)) :=
  if_neg (not_not.mpr len)

/-! ### The obligation -/

/-- Settles O20: a listing is a search over the table (`search_answer`), carried out on the state of the accepted
frame, which has the points and rights of the state before it. -/
theorem listings : Obligations.Listings := by
  intro s p tag ps found takes
  rw [exec_listPoints, exec_readBlock, command_takes takes, command_takes takes]
  refine ⟨fun bad => ?_, fun bad => ?_, fun len filter hf => ?_, fun len hf => ?_⟩
  · rw [listPoints_badParameter bad]
    rfl
  · rw [readBlock_badParameter bad]
    rfl
  · have wanted : found = allPoints.filter fun i =>
        decide (arg ps 0 ≤ i.val) && s.listed p (segOf (arg ps 1)) i := by
      simp only [hf, listed_segOf, Bool.decide_and]
      rfl
    rw [listPoints_accept len filter, listed_acceptFrame, handleBytes_acceptFrame]
    exact congrArg (fun data => Host.Outcome.next (s.answered (s.acceptFrame p) p 0x13 tag ps .ok data))
      (search_answer wanted 15 (handleBytes s))
  · have wanted : found = allPoints.filter fun i =>
        decide (arg ps 0 ≤ i.val) && decide ((s.point i).life = .live) := by
      simp only [hf, Bool.decide_and]
      rfl
    simp only [readBlock_accept len, point_acceptFrame, hasGroup_acceptFrame, view_eq]
    exact congrArg (fun data => Host.Outcome.next (s.answered (s.acceptFrame p) p 0x21 tag ps .ok data))
      (search_answer wanted 7 _)

end Sys2Proof.Machine
end

section
/-! PROOF. Bands and deadbands (R45 to R47, R51, R52): what SET_BAND, CLEAR_BAND and SET_DEADBAND answer, from the
checks they share and one lemma for the first classification of a band. -/

namespace Sys2Proof.Machine

/-! ### The commands' arms -/

theorem exec_setBand (p : Port) (tag : Byte) (ps : List Byte) (s : State) :
    exec (.setBand p tag ps) s = command 0x28 p tag ps (setBand p ps) s := rfl

theorem exec_clearBand (p : Port) (tag : Byte) (ps : List Byte) (s : State) :
    exec (.clearBand p tag ps) s = command 0x29 p tag ps (clearBand p ps) s := rfl

theorem exec_setDeadband (p : Port) (tag : Byte) (ps : List Byte) (s : State) :
    exec (.setDeadband p tag ps) s = command 0x2A p tag ps (setDeadband p ps) s := rfl

/-- A valid frame is answered with what its command answers on the accepted frame. -/
theorem command_answers {code : Byte} {p : Port} {tag : Byte} {ps : List Byte} {body : State → Answer} {s t : State}
    {r : Result} {data : List Byte} (takes : Takes s p ps) (answer : body (s.acceptFrame p) = ⟨t, r, data⟩) :
    command code p tag ps body s = .next (s.answered t p code tag ps r data) := by
  rw [command_takes takes, answer]

/-! ### Two updates of one record -/

theorem setPoint_setPoint (s : State) (i : PointIdx) (t u : Point) :
    (s.setPoint i t).setPoint i u = s.setPoint i u := by
  simp [State.setPoint]

theorem modPoint_modPoint (s : State) (i : PointIdx) (f g : Point → Point) :
    (s.modPoint i f).modPoint i g = s.modPoint i fun t => g (f t) := by
  rw [State.modPoint, point_modPoint_same, State.modPoint, setPoint_setPoint, State.modPoint]

/-! ### Integers and ranges (R2, R45) -/

theorem arg_lt (ps : List Byte) (k : Nat) : arg ps k < 256 := (argByte ps k).isLt

theorem arg32_eq (ps : List Byte) (k : Nat) :
    arg32 ps k = arg ps k + 256 * arg ps (k + 1) + 65536 * arg ps (k + 2) + 16777216 * arg ps (k + 3) := by
  have high : k + 2 + 1 = k + 3 := rfl
  rw [arg32, arg16, arg16, high]
  omega

theorem arg32_lt (ps : List Byte) (k : Nat) : arg32 ps k < 4294967296 := by
  have h0 := arg_lt ps k
  have h1 := arg_lt ps (k + 1)
  have h2 := arg_lt ps (k + 2)
  have h3 := arg_lt ps (k + 3)
  rw [arg32_eq]
  omega

theorem argInt_unsigned (ps : List Byte) (k : Nat) : argInt false ps k = arg32 ps k := rfl

/-- A signed integer is the unsigned one, less 2^32 from 2^31 on. -/
theorem argInt_signed (ps : List Byte) (k : Nat) :
    argInt true ps k = if arg32 ps k < 2147483648 then (arg32 ps k : Int) else (arg32 ps k : Int) - 4294967296 := by
  have unsigned : (BitVec.ofNat 32 (arg32 ps k)).toNat = arg32 ps k := Nat.mod_eq_of_lt (arg32_lt ps k)
  have signed : argInt true ps k = (BitVec.ofNat 32 (arg32 ps k)).toInt := rfl
  rw [signed, BitVec.toInt_eq_toNat_cond, unsigned]
  split <;> split <;> omega

theorem inRange_unsigned_iff (w : Width) (v : Int) : inRange w false v = true ↔ 0 ≤ v ∧ v < 256 ^ w.bytes := by
  rw [inRange, decide_eq_true_iff, rangeLow, rangeHigh, if_neg Bool.false_ne_true, if_neg Bool.false_ne_true,
    Int.le_sub_one_iff]

theorem inRange_signed_iff (w : Width) (v : Int) :
    inRange w true v = true ↔ -(256 ^ w.bytes / 2) ≤ v ∧ v < 256 ^ w.bytes / 2 := by
  rw [inRange, decide_eq_true_iff, rangeLow, rangeHigh, if_pos rfl, if_pos rfl, Int.le_sub_one_iff]

theorem bandFits_iff (t : Point) (low high : Int) (hyst : Nat) :
    bandFits t low high hyst = true ↔
      inRange t.width t.signed low = true ∧ inRange t.width t.signed high = true ∧
        (hyst : Int) ≤ rangeHigh t.width t.signed ∧ low < high ∧ 2 * (hyst : Int) < high - low := by
  simp only [bandFits, Bool.and_eq_true, decide_eq_true_eq, and_assoc]

/-! ### The checks that the commands share (R165) -/

/-- The frame's handle names the point, and the port holds MANAGE on the point's group. -/
structure Manages (s : State) (p : Port) (ps : List Byte) (i : PointIdx) : Prop where
  handle : s.handleOk (argHandle ps 0) = true
  point : i = (argHandle ps 0).idx
  right : s.hasGroup p .manage (s.point i).group = true

theorem Manages.acceptFrame {s : State} {p : Port} {ps : List Byte} {i : PointIdx} (m : Manages s p ps i) :
    Manages (s.acceptFrame p) p ps i :=
  ⟨by simp [m.handle], m.point, by simp [m.right]⟩

theorem Manages.onPoint {s : State} {p : Port} {ps : List Byte} {i : PointIdx} (m : Manages s p ps i) {len : Nat}
    (hlen : ps.length = len) (body : PointIdx → Answer) : onPoint s p ps len true (some .manage) body = body i := by
  obtain ⟨handle, rfl, right⟩ := m
  subst hlen
  exact onPoint_passes handle (by simp [State.lacksGroup, right])

/-- The refusal of a frame of the right length for its handle, or else for MANAGE. -/
theorem onPoint_manage_refuses {s : State} {p : Port} {ps : List Byte} {len : Nat} {r : Result}
    (hlen : ps.length = len)
    (h : s.handleOk (argHandle ps 0) = false ∧ r = .staleHandle ∨
      s.handleOk (argHandle ps 0) = true ∧ s.hasGroup p .manage (s.point (argHandle ps 0).idx).group = false ∧
        r = .noRight)
    (body : PointIdx → Answer) : onPoint s p ps len true (some .manage) body = refuse s r := by
  subst hlen
  obtain ⟨stale, rfl⟩ | ⟨handle, noRight, rfl⟩ := h
  · exact onPoint_staleHandle stale
  · exact onPoint_noRight handle (by simp [State.lacksGroup, noRight])

/-! ### A new band (R46) -/

/-- Without a present value a new band waits in UNSET. -/
theorem placeBand_absent {s : State} {i : PointIdx} (b : Band) (absent : (s.point i).value = none) :
    s.placeBand i b = s.modPoint i fun t => { t with band := some b } := by
  rw [State.placeBand, absent]

/-- A present value gives a new band its state at once, with LIMIT for the subscribers where R44 asks for it. -/
theorem placeBand_present {s : State} {i : PointIdx} {v : Int} (b : Band) (present : (s.point i).value = some v) :
    s.placeBand i b =
      if limitDue b.state (b.classify v) = true then
        (s.modPoint i fun t => { t with band := some { b with state := b.classify v } }).raisePoint i .limit
          ((s.point i).subscribers 1)
      else s.modPoint i fun t => { t with band := some { b with state := b.classify v } } := by
  rw [State.placeBand, present]
  simp only [State.judgeBand, modPoint_modPoint, point_modPoint_same]
  rfl

section
variable {low high v : Int} (hyst : Nat)

/-! Table 3-1 from UNSET. -/

theorem classify_unset_inside (above : low ≤ v) (below : v ≤ high) :
    Band.classify ⟨low, high, hyst, .unset⟩ v = .inside :=
  (if_neg (Int.not_lt.mpr below)).trans (if_neg (Int.not_lt.mpr above))

theorem classify_unset_below (ordered : low < high) (h : v < low) :
    Band.classify ⟨low, high, hyst, .unset⟩ v = .below :=
  (if_neg (Int.not_lt.mpr (h.trans ordered).le)).trans (if_pos h)

theorem classify_unset_above (h : high < v) : Band.classify ⟨low, high, hyst, .unset⟩ v = .above :=
  if_pos h

end

/-! ### SET_BAND (R45, R46) -/

/-- SET_BAND's parameters: a handle that `Manages` accepts, the two limits as the point's integers, the hysteresis. -/
structure BandParams (s : State) (p : Port) (ps : List Byte) (i : PointIdx) (low high : Int) (hyst : Nat) : Prop where
  manages : Manages s p ps i
  length : ps.length = 14
  low : low = argInt (s.point i).signed ps 2
  high : high = argInt (s.point i).signed ps 6
  hyst : hyst = arg32 ps 10

section
variable {s : State} {p : Port} {ps : List Byte} {i : PointIdx} {low high : Int} {hyst : Nat}

theorem BandParams.acceptFrame (b : BandParams s p ps i low high hyst) :
    BandParams (s.acceptFrame p) p ps i low high hyst :=
  ⟨b.manages.acceptFrame, b.length, by rw [point_acceptFrame, b.low], by rw [point_acceptFrame, b.high], b.hyst⟩

theorem BandParams.takes (b : BandParams s p ps i low high hyst) (hears : s.hears p = true) : Takes s p ps :=
  ⟨hears, b.length.trans_le (by decide)⟩

theorem setBand_unfit (b : BandParams s p ps i low high hyst) (unfit : bandFits (s.point i) low high hyst = false) :
    setBand p ps s = refuse s .badParameter := by
  obtain ⟨manages, length, rfl, rfl, rfl⟩ := b
  exact (manages.onPoint length _).trans (if_pos unfit)

/-- SET_BAND with limits that fit answers the state that placing the band leaves in it. -/
theorem setBand_fits {t : State} {c : BandState} (b : BandParams s p ps i low high hyst)
    (fits : bandFits (s.point i) low high hyst = true) (place : s.placeBand i ⟨low, high, hyst, .unset⟩ = t)
    (band : (t.point i).band = some ⟨low, high, hyst, c⟩) : setBand p ps s = accept t [byteOf c.code] := by
  obtain ⟨manages, length, rfl, rfl, rfl⟩ := b
  refine (manages.onPoint length _).trans ((if_neg (by simp [fits])).trans ?_)
  simp only [place, band]

theorem setBand_absent (b : BandParams s p ps i low high hyst) (fits : bandFits (s.point i) low high hyst = true)
    (absent : (s.point i).value = none) :
    setBand p ps s = accept (s.modPoint i fun t => { t with band := some ⟨low, high, hyst, .unset⟩ }) [0] :=
  setBand_fits (c := .unset) b fits (placeBand_absent _ absent) (by rw [point_modPoint_same])

section
variable {v : Int} {c : BandState} (b : BandParams s p ps i low high hyst)
  (fits : bandFits (s.point i) low high hyst = true) (present : (s.point i).value = some v)
  (classified : Band.classify ⟨low, high, hyst, .unset⟩ v = c)
include b fits present classified

/-- A first classification that raises nothing (R44). -/
theorem setBand_silent (silent : limitDue .unset c = false) :
    setBand p ps s =
      accept (s.modPoint i fun t => { t with band := some ⟨low, high, hyst, c⟩ }) [byteOf c.code] := by
  refine setBand_fits b fits ?_ (by rw [point_modPoint_same])
  rw [placeBand_present _ present, classified, silent, if_neg Bool.false_ne_true]

/-- A first classification that raises LIMIT (R44). -/
theorem setBand_limit (due : limitDue .unset c = true) :
    setBand p ps s =
      accept
        ((s.modPoint i fun t => { t with band := some ⟨low, high, hyst, c⟩ }).raisePoint i .limit
          ((s.point i).subscribers 1))
        [byteOf c.code] := by
  refine setBand_fits b fits ?_ (by rw [(raisePoint_noticesOnly _ _ _ _).point, point_modPoint_same])
  rw [placeBand_present _ present, classified, due, if_pos rfl]

end

end

/-! ### CLEAR_BAND (R47) and SET_DEADBAND (R51, R52) -/

section
variable {s : State} {p : Port} {ps : List Byte} {i : PointIdx}

theorem clearBand_accept (m : Manages s p ps i) (length : ps.length = 2) :
    clearBand p ps s = accept (s.modPoint i fun t => { t with band := none }) [] :=
  m.onPoint length _

theorem setDeadband_tooWide (m : Manages s p ps i) (length : ps.length = 6)
    (wide : 256 ^ (s.point i).width.bytes ≤ arg32 ps 2) : setDeadband p ps s = refuse s .badParameter :=
  (m.onPoint length _).trans (if_pos wide)

theorem setDeadband_accept (m : Manages s p ps i) (length : ps.length = 6)
    (inWidth : arg32 ps 2 < 256 ^ (s.point i).width.bytes) :
    setDeadband p ps s = accept (s.modPoint i fun t => t.rebase (arg32 ps 2)) [] :=
  (m.onPoint length _).trans (if_neg (Nat.not_le.mpr inWidth))

end

theorem rebase_zero (t : Point) : t.rebase 0 = { t with deadband := none } := rfl

theorem rebase_of_pos (t : Point) {width : Nat} (h : 1 ≤ width) :
    t.rebase width = { t with deadband := some ⟨width, t.value⟩ } := by
  rw [Point.rebase, if_neg (Nat.ne_of_gt h)]

/-! ### The obligation's parts -/

/-- The refusals for the parameters, the handle and MANAGE. -/
theorem bandCommands_refuse {s : State} {p : Port} {ps : List Byte} (tag : Byte) (takes : Takes s p ps) :
    (ps.length ≠ 14 →
      exec (.setBand p tag ps) s = .next (s.answered (s.acceptFrame p) p 0x28 tag ps .badParameter [])) ∧
    (ps.length ≠ 2 →
      exec (.clearBand p tag ps) s = .next (s.answered (s.acceptFrame p) p 0x29 tag ps .badParameter [])) ∧
    (ps.length ≠ 6 →
      exec (.setDeadband p tag ps) s = .next (s.answered (s.acceptFrame p) p 0x2A tag ps .badParameter [])) ∧
    ∀ r,
      (s.handleOk (argHandle ps 0) = false ∧ r = .staleHandle ∨
        s.handleOk (argHandle ps 0) = true ∧
          s.hasGroup p .manage (s.point (argHandle ps 0).idx).group = false ∧ r = .noRight) →
      (ps.length = 14 → exec (.setBand p tag ps) s = .next (s.answered (s.acceptFrame p) p 0x28 tag ps r [])) ∧
      (ps.length = 2 → exec (.clearBand p tag ps) s = .next (s.answered (s.acceptFrame p) p 0x29 tag ps r [])) ∧
      (ps.length = 6 → exec (.setDeadband p tag ps) s = .next (s.answered (s.acceptFrame p) p 0x2A tag ps r [])) := by
  rw [exec_setBand, exec_clearBand, exec_setDeadband]
  refine ⟨fun bad => command_answers takes (onPoint_badParameter (.inl bad)),
    fun bad => command_answers takes (onPoint_badParameter (.inl bad)),
    fun bad => command_answers takes (onPoint_badParameter (.inl bad)), fun r refused => ?_⟩
  rw [← handleOk_acceptFrame s p, ← point_acceptFrame s p, ← hasGroup_acceptFrame s p] at refused
  exact ⟨fun length => command_answers takes (onPoint_manage_refuses length refused _),
    fun length => command_answers takes (onPoint_manage_refuses length refused _),
    fun length => command_answers takes (onPoint_manage_refuses length refused _)⟩

/-- Settles O23: each command is its answer on the accepted frame, which has the points and rights of the state before
it; a new band's first classification is Table 3-1 from UNSET (`placeBand_present`). -/
theorem bandAndDeadband : Obligations.BandAndDeadband := by
  refine ⟨fun ps k => ⟨arg32_eq ps k, argInt_unsigned ps k, argInt_signed ps k⟩,
    fun w v => ⟨inRange_unsigned_iff w v, inRange_signed_iff w v, rfl, rfl⟩,
    fun s p tag ps takes => bandCommands_refuse tag takes, ?_, ?_⟩
  · intro s p tag ps i low high hyst hears length handle point right hlow hhigh hhyst
    have params : BandParams s p ps i low high hyst := ⟨⟨handle, point, right⟩, length, hlow, hhigh, hhyst⟩
    have takes := params.takes hears
    have accepted := params.acceptFrame
    have fits_iff := bandFits_iff (s.point i) low high hyst
    rw [exec_setBand]
    rw [← point_acceptFrame s p] at fits_iff ⊢
    refine ⟨fun unfit => ?_, fun lowIn highIn hystIn ordered narrow => ?_⟩
    · exact command_answers takes (setBand_unfit accepted (Bool.eq_false_iff.mpr (mt fits_iff.mp unfit)))
    · have fits := fits_iff.mpr ⟨lowIn, highIn, hystIn, ordered, narrow⟩
      refine ⟨fun absent => command_answers takes (setBand_absent accepted fits absent),
        fun v present => ⟨fun above below => ?_, fun below => ?_, fun above => ?_⟩⟩
      · exact command_answers takes
          (setBand_silent accepted fits present (classify_unset_inside hyst above below) rfl)
      · exact command_answers takes
          (setBand_limit accepted fits present (classify_unset_below hyst ordered below) rfl)
      · exact command_answers takes (setBand_limit accepted fits present (classify_unset_above hyst above) rfl)
  · intro s p tag ps i hears handle point right
    have manages := Manages.acceptFrame ⟨handle, point, right⟩
    rw [exec_clearBand, exec_setDeadband]
    refine ⟨fun length => ?_, fun length => ?_⟩
    · exact command_answers ⟨hears, length.trans_le (by decide)⟩ (clearBand_accept manages length)
    · have takes : Takes s p ps := ⟨hears, length.trans_le (by decide)⟩
      have range_pos : 0 < 256 ^ (s.point i).width.bytes := Nat.pow_pos (by decide)
      rw [← point_acceptFrame s p] at range_pos ⊢
      refine ⟨fun wide => ?_, fun pos inWidth => ?_, fun zero => ?_⟩
      · exact command_answers takes (setDeadband_tooWide manages length (Nat.le_of_pred_lt wide))
      · have answer := setDeadband_accept manages length (Nat.lt_of_le_pred range_pos inWidth)
        simp only [rebase_of_pos _ pos] at answer
        exact command_answers takes answer
      · have answer := setDeadband_accept manages length (zero ▸ range_pos)
        simp only [zero, rebase_zero] at answer
        exact command_answers takes answer

end Sys2Proof.Machine
end

section
/-! PROOF. CANCEL_WRITE and SET_SAFE_VALUE (R59, R69): what the two commands answer once the frame's checks have
passed, and the refusal of each check. -/

namespace Sys2Proof.Machine

/-! ### The commands' arms -/

theorem exec_cancelWrite (p : Port) (tag : Byte) (ps : List Byte) (s : State) :
    exec (.cancelWrite p tag ps) s = command 0x32 p tag ps (cancelWrite p ps) s := rfl

theorem exec_setSafeValue (p : Port) (tag : Byte) (ps : List Byte) (s : State) :
    exec (.setSafeValue p tag ps) s = command 0x31 p tag ps (setSafeValue p ps) s := rfl

/-! ### The checks of handle and right, for each right (R165) -/

/-- The frame's handle names the point, and the port holds the right on the point's group: `Manages` for any right. -/
structure Entitled (s : State) (p : Port) (ps : List Byte) (right : GroupRight) (i : PointIdx) : Prop where
  handle : s.handleOk (argHandle ps 0) = true
  point : i = (argHandle ps 0).idx
  right : s.hasGroup p right (s.point i).group = true

/-- The result that refuses a frame's handle, or else the port's right on the point that the handle names. -/
def HandleRefused (s : State) (p : Port) (ps : List Byte) (right : GroupRight) (r : Result) : Prop :=
  s.handleOk (argHandle ps 0) = false ∧ r = .staleHandle ∨
    s.handleOk (argHandle ps 0) = true ∧ s.hasGroup p right (s.point (argHandle ps 0).idx).group = false ∧
      r = .noRight

section
variable {s : State} {p : Port} {ps : List Byte} {right : GroupRight} {len : Nat} {valid : Bool}

theorem Entitled.acceptFrame {i : PointIdx} (e : Entitled s p ps right i) :
    Entitled (s.acceptFrame p) p ps right i :=
  ⟨by simp [e.handle], e.point, by simp [e.right]⟩

theorem HandleRefused.acceptFrame {r : Result} (h : HandleRefused s p ps right r) :
    HandleRefused (s.acceptFrame p) p ps right r := by
  simpa [HandleRefused] using h

theorem Entitled.onPoint {i : PointIdx} (e : Entitled s p ps right i) (length : ps.length = len)
    (fits : valid = true) (body : PointIdx → Answer) : onPoint s p ps len valid (some right) body = body i := by
  obtain ⟨handle, rfl, holds⟩ := e
  subst length fits
  exact onPoint_passes handle (by simp [State.lacksGroup, holds])

theorem HandleRefused.onPoint {r : Result} (h : HandleRefused s p ps right r) (length : ps.length = len)
    (fits : valid = true) (body : PointIdx → Answer) :
    onPoint s p ps len valid (some right) body = refuse s r := by
  subst length fits
  obtain ⟨stale, rfl⟩ | ⟨handle, lacking, rfl⟩ := h
  · exact onPoint_staleHandle stale
  · exact onPoint_noRight handle (by simp [State.lacksGroup, lacking])

end

/-! ### CANCEL_WRITE (R59) -/

/-- CANCELLED goes to a port writer and to no subscriber (R60, Table 4-4). -/
theorem raiseWrite_cancelled (s : State) (i : PointIdx) (w : Writer) :
    s.raiseWrite i .cancelled w = s.raisePoint i (.write .cancelled w) (writerPorts w) := by
  have nobodyElse : portUnion (writerPorts w) noPorts = writerPorts w := by
    simp only [portUnion, noPorts, Bool.or_false]
  exact congrArg (s.raisePoint i _) nobodyElse

/-- What a cancelled write leaves, its CANCELLED and the entry that leaves the queue written out. -/
theorem cancel_eq (s : State) (i : PointIdx) (f : Slot) :
    s.cancel i f =
      ((s.modPoint i fun t => { t with slot := none }).raisePoint i (.write .cancelled f.writer)
        (writerPorts f.writer)).modSched (s.point i).seg fun c =>
          { c with
            queue := c.queue.filter fun d => !(decide (d.point = i) && !d.granted && !d.ports.a && !d.ports.b) } := by
  simp only [State.cancel, raiseWrite_cancelled, portsEmpty, Bool.and_assoc]

section
variable {s : State} {p : Port} {ps : List Byte} {i : PointIdx} (e : Entitled s p ps .write i)
  (length : ps.length = 2)
include e length

theorem cancelWrite_wrongKind (input : (s.point i).kind = .input) : cancelWrite p ps s = refuse s .wrongKind :=
  (e.onPoint length rfl _).trans (if_pos input)

theorem cancelWrite_nothingPending (output : (s.point i).kind = .output) (empty : (s.point i).slot = none) :
    cancelWrite p ps s = refuse s .nothingPending := by
  refine (e.onPoint length rfl _).trans ((if_neg (by simp [output])).trans ?_)
  rw [empty]

theorem cancelWrite_accept {f : Slot} (output : (s.point i).kind = .output) (pending : (s.point i).slot = some f) :
    cancelWrite p ps s = accept (s.cancel i f) (byteOf f.writer.code :: le4 f.value) := by
  refine (e.onPoint length rfl _).trans ((if_neg (by simp [output])).trans ?_)
  rw [pending]

end

/-! ### SET_SAFE_VALUE (R69) -/

/-- A flag's parameter byte is 0 or 1. -/
theorem isSome_boolOf (n : Nat) : (boolOf n).isSome = decide (n ≤ 1) := by
  match n with
  | 0 => rfl
  | 1 => rfl
  | n + 2 => simp [boolOf]

theorem setSafeValue_badParameter {s : State} {p : Port} {ps : List Byte} (h : ps.length ≠ 7 ∨ 1 < arg ps 2) :
    setSafeValue p ps s = refuse s .badParameter :=
  onPoint_badParameter (h.imp_right fun big => by simp [isSome_boolOf, big])

section
variable {s : State} {p : Port} {ps : List Byte} {i : PointIdx} (e : Entitled s p ps .manage i)
  (length : ps.length = 7)
include e length

theorem setSafeValue_wrongKind (flag : arg ps 2 ≤ 1) (input : (s.point i).kind = .input) :
    setSafeValue p ps s = refuse s .wrongKind :=
  (e.onPoint length (by simp [isSome_boolOf, flag]) _).trans (if_pos input)

section
variable (output : (s.point i).kind = .output)
include output

theorem setSafeValue_outOfRange (set : arg ps 2 = 1)
    (outside : inRange (s.point i).width (s.point i).signed (argInt (s.point i).signed ps 3) = false) :
    setSafeValue p ps s = refuse s .badParameter :=
  (e.onPoint length (by simp [isSome_boolOf, set]) _).trans
    ((if_neg (by simp [output])).trans (if_pos ⟨set, outside⟩))

theorem setSafeValue_set (set : arg ps 2 = 1)
    (inside : inRange (s.point i).width (s.point i).signed (argInt (s.point i).signed ps 3) = true) :
    setSafeValue p ps s =
      accept (s.modPoint i fun t => { t with safe := some (argInt (s.point i).signed ps 3) }) [] := by
  refine (e.onPoint length (by simp [isSome_boolOf, set]) _).trans
    ((if_neg (by simp [output])).trans ((if_neg (by simp [inside])).trans ?_))
  simp only [set, if_true]

theorem setSafeValue_clear (clear : arg ps 2 = 0) :
    setSafeValue p ps s = accept (s.modPoint i fun t => { t with safe := none }) [] := by
  refine (e.onPoint length (by simp [isSome_boolOf, clear]) _).trans
    ((if_neg (by simp [output])).trans ((if_neg (by simp [clear])).trans ?_))
  simp only [clear, Nat.zero_ne_one, if_false]

end

end

/-! ### The obligation's parts -/

/-- The refusals for the parameters, the handle and the right. -/
theorem outputCommands_refuse {s : State} {p : Port} {ps : List Byte} (tag : Byte) (takes : Takes s p ps) :
    (ps.length ≠ 2 →
      exec (.cancelWrite p tag ps) s = .next (s.answered (s.acceptFrame p) p 0x32 tag ps .badParameter [])) ∧
    (ps.length ≠ 7 ∨ 1 < arg ps 2 →
      exec (.setSafeValue p tag ps) s = .next (s.answered (s.acceptFrame p) p 0x31 tag ps .badParameter [])) ∧
    ∀ r right, HandleRefused s p ps right r →
      (ps.length = 2 → right = .write →
        exec (.cancelWrite p tag ps) s = .next (s.answered (s.acceptFrame p) p 0x32 tag ps r [])) ∧
      (ps.length = 7 → arg ps 2 ≤ 1 → right = .manage →
        exec (.setSafeValue p tag ps) s = .next (s.answered (s.acceptFrame p) p 0x31 tag ps r [])) := by
  rw [exec_cancelWrite, exec_setSafeValue]
  refine ⟨fun bad => command_answers takes (onPoint_badParameter (.inl bad)),
    fun bad => command_answers takes (setSafeValue_badParameter bad), fun r right refused => ⟨?_, ?_⟩⟩
  · rintro length rfl
    exact command_answers takes (refused.acceptFrame.onPoint length rfl _)
  · rintro length flag rfl
    exact command_answers takes (refused.acceptFrame.onPoint length (by simp [isSome_boolOf, flag]) _)

/-- Settles O26: each command is its answer on the accepted frame, which has the points and rights of the state
before it. -/
theorem cancelAndSafeValue : Obligations.CancelAndSafeValue := by
  refine ⟨fun s p tag ps takes => outputCommands_refuse tag takes, ?_⟩
  intro s p tag ps i hears handle point
  rw [exec_cancelWrite, exec_setSafeValue]
  refine ⟨fun length right => ?_, fun length right flag => ?_⟩
  · have takes : Takes s p ps := ⟨hears, length.trans_le (by decide)⟩
    have entitled := Entitled.acceptFrame ⟨handle, point, right⟩
    rw [← point_acceptFrame s p]
    refine ⟨fun input => command_answers takes (cancelWrite_wrongKind entitled length input),
      fun output empty => command_answers takes (cancelWrite_nothingPending entitled length output empty),
      fun f output pending => ?_⟩
    rw [← cancel_eq]
    exact command_answers takes (cancelWrite_accept entitled length output pending)
  · have takes : Takes s p ps := ⟨hears, length.trans_le (by decide)⟩
    have entitled := Entitled.acceptFrame ⟨handle, point, right⟩
    rw [← point_acceptFrame s p]
    exact ⟨fun input => command_answers takes (setSafeValue_wrongKind entitled length flag input),
      fun output set outside => command_answers takes (setSafeValue_outOfRange entitled length output set outside),
      fun output set inside => command_answers takes (setSafeValue_set entitled length output set inside),
      fun output clear => command_answers takes (setSafeValue_clear entitled length output clear)⟩

end Sys2Proof.Machine
end

section
/-! PROOF. READ_FEEDS, FEED_ON and FEED_OFF (R137, R141, R142, R144): what the three commands answer, and how far the
loss of a feed reaches: to the segments of a set, to the points that are LIVE or RETIRING there, and to no note of a
feed or of the device. -/

namespace Sys2Proof.Machine

/-! ### The commands' arms -/

theorem exec_readFeeds (p : Port) (tag : Byte) (ps : List Byte) (s : State) :
    exec (.readFeeds p tag ps) s = command 0x5B p tag ps (readFeeds p ps) s := rfl

theorem exec_feedOn (p : Port) (tag : Byte) (ps : List Byte) (s : State) :
    exec (.feedOn p tag ps) s = command 0x59 p tag ps (feedOn p ps) s := rfl

theorem exec_feedOff (p : Port) (tag : Byte) (ps : List Byte) (e : Env) (s : State) :
    exec (.feedOff p tag ps e) s = command 0x5A p tag ps (feedOff p ps e) s := rfl

/-- The frame names the segment, and the port holds the right FEED. -/
structure Feeds (s : State) (p : Port) (ps : List Byte) (g : Seg) : Prop where
  length : ps.length = 1
  seg : segOf (arg ps 0) = some g
  right : s.hasDevice p .feed = true

theorem Feeds.acceptFrame {s : State} {p : Port} {ps : List Byte} {g : Seg} (f : Feeds s p ps g) :
    Feeds (s.acceptFrame p) p ps g :=
  ⟨f.length, f.seg, by simp [f.right]⟩

theorem Feeds.onSeg {s : State} {p : Port} {ps : List Byte} {g : Seg} (f : Feeds s p ps g) (body : Seg → Answer) :
    onSeg s p ps 1 true (some .feed) body = body g := by
  rw [← f.length]
  exact onSeg_passes f.seg (by simp [State.lacksDevice, f.right])

theorem Feeds.takes {s : State} {p : Port} {ps : List Byte} {g : Seg} (f : Feeds s p ps g)
    (hears : s.hears p = true) : Takes s p ps :=
  ⟨hears, f.length.trans_le (by decide)⟩

/-! ### READ_FEEDS (R144) -/

theorem readFeeds_badParameter {p : Port} {ps : List Byte} {s : State} (h : ps ≠ []) :
    readFeeds p ps s = refuse s .badParameter :=
  if_pos (List.length_eq_zero_iff.not.mpr h)

theorem readFeeds_accept (p : Port) (s : State) :
    readFeeds p [] s =
      accept s ([byteOf s.supply.code, byteOf s.temperature.code] ++ Seg.all.flatMap fun g => (s.feed g).bytes) :=
  rfl

/-- READ_FEEDS shows the feeds as they stand before the frame is accepted. -/
theorem readFeeds_acceptFrame (p : Port) (s : State) :
    readFeeds p [] (s.acceptFrame p) =
      accept (s.acceptFrame p)
        ([byteOf s.supply.code, byteOf s.temperature.code] ++ Seg.all.flatMap fun g => (s.feed g).bytes) := by
  simp only [readFeeds_accept, supply_acceptFrame, temperature_acceptFrame, feed_acceptFrame]

/-! ### FEED_ON (R137) -/

theorem held_iff (s : State) : s.held = true ↔ s.supply = .under ∨ s.temperature = .shutdown := by
  rw [State.held, holds, decide_eq_true_iff]

theorem feedAsked_eq (s : State) (g : Seg) :
    s.feedAsked g =
      if s.supply = .under ∨ s.temperature = .shutdown then
        (s.modFeed g fun f => { f with state := .forcedOff, enable := true }).raiseSeg g .feed
      else s.modFeed g fun f => { f.start with enable := true } := by
  simp only [State.feedAsked, held_iff]

/-- FEED_ON by the feed state (R137). -/
theorem feedOn_eq (s : State) (g : Seg) :
    s.feedOn g =
      if (s.feed g).state = .off ∨ (s.feed g).state = .latched then s.feedAsked g
      else if (s.feed g).state = .tripped then s.modFeed g fun f => { f.start with retryTimer := none }
      else s := by
  unfold State.feedOn
  cases (s.feed g).state <;> simp

theorem feedOn_answer {s : State} {p : Port} {ps : List Byte} {g : Seg} (f : Feeds s p ps g) :
    feedOn p ps s = accept (s.feedOn g) ((s.feedOn g).feedBytes g) :=
  f.onSeg _

theorem feedOff_answer {s : State} {p : Port} {ps : List Byte} {e : Env} {g : Seg} (f : Feeds s p ps g) :
    feedOff p ps e s = accept (s.feedSwitchedOff g e.order) ((s.feedSwitchedOff g e.order).feedBytes g) :=
  f.onSeg _

/-! ### Notes that a reason does not reach (R152) -/

/-- A merge into one port's list is not seen by a search for another thing in any list. -/
theorem find_attention_merge_other {same other : Entry → Bool} {add : Entry → Entry} {fresh : Entry}
    (apart : ∀ e, same e = true → other e = false) (keep : ∀ e, same e = true → other (add e) = false)
    (hf : same fresh = true) (s : State) (p q : Port) :
    ((s.modPort p fun u => { u with attention := mergeEntry same add fresh u.attention }).port q).attention.find?
      other = (s.port q).attention.find? other := by
  rw [attention_modPort]
  split
  · exact find_mergeEntry_other apart keep hf _
  · rfl

theorem devNoteOf_of_find {s t : State} {q : Port}
    (h : (t.port q).attention.find? Entry.isDevice = (s.port q).attention.find? Entry.isDevice) :
    t.devNoteOf q = s.devNoteOf q := by
  rw [State.devNoteOf, State.devNoteOf, h]

theorem devNoteOf_notePoint (s : State) (p q : Port) (i : PointIdx) (r : PointReason) :
    (s.notePoint p i r).devNoteOf q = s.devNoteOf q :=
  devNoteOf_of_find (find_attention_merge_other (fun e k => by obtain ⟨n, rfl⟩ := isPoint_eq k; rfl)
    (fun e k => by obtain ⟨n, rfl⟩ := isPoint_eq k; rfl) (by simp [Entry.isPoint]) s p q)

theorem devNoteOf_noteSeg (s : State) (p q : Port) (g : Seg) (r : SegReason) :
    (s.noteSeg p g r).devNoteOf q = s.devNoteOf q := by
  unfold State.noteSeg
  split
  · exact devNoteOf_of_find (find_attention_merge_other (fun e k => by obtain ⟨n, rfl⟩ := isSegment_eq k; rfl)
      (fun e k => by obtain ⟨n, rfl⟩ := isSegment_eq k; rfl) (by simp [Entry.isSegment]) s p q)
  · rfl

theorem devNoteOf_raiseSeg (s : State) (q : Port) (g : Seg) (r : SegReason) :
    (s.raiseSeg g r).devNoteOf q = s.devNoteOf q :=
  (devNoteOf_noteSeg _ .b q g r).trans (devNoteOf_noteSeg s .a q g r)

theorem segNoteOf_raiseDev (s : State) (p q : Port) (h : Seg) (r : DevReason) :
    (s.raiseDev p r).segNoteOf q h = s.segNoteOf q h := by
  unfold State.raiseDev
  split
  · unfold State.segNoteOf
    rw [find_attention_merge_other (fun e k => by obtain ⟨n, rfl⟩ := isDevice_eq k; rfl)
      (fun e k => by obtain ⟨n, rfl⟩ := isDevice_eq k; rfl) rfl s p q]
  · rfl

/-- A port's change outside its list keeps the notes of the segments. -/
theorem segNoteOf_modPort {f : PortUnit → PortUnit} (keeps : ∀ u, (f u).attention = u.attention) (s : State)
    (p q : Port) (h : Seg) : (s.modPort p f).segNoteOf q h = s.segNoteOf q h := by
  refine segNoteOf_congr ?_
  rw [port_modPort]
  split
  · next same => rw [same, keeps]
  · rfl

/-- An accepted frame raises no reason of a segment (R163, R171). -/
theorem segNoteOf_acceptFrame (s : State) (p q : Port) (h : Seg) :
    (s.acceptFrame p).segNoteOf q h = s.segNoteOf q h := by
  have resumed : (s.resume p).segNoteOf q h = s.segNoteOf q h := by
    unfold State.resume
    split
    · exact (segNoteOf_raiseDev _ _ q h _).trans (segNoteOf_modPort (by exact fun _ => rfl) s p q h)
    · rfl
  exact (segNoteOf_modPort (by exact fun _ => rfl) _ p q h).trans resumed

theorem feed_add {r : SegReason} (other : r ≠ .feed) (n : SegNote) : (n.add r).feed = n.feed := by
  cases r with
  | feed => exact absurd rfl other
  | tally second => cases second <;> rfl
  | _ => rfl

theorem feedNote_raiseSeg {r : SegReason} (other : r ≠ .feed) (s : State) (q : Port) (g h : Seg) :
    ((s.raiseSeg g r).segNoteOf q h).feed = (s.segNoteOf q h).feed := by
  rw [segNoteOf_raiseSeg]
  split
  · exact feed_add other _
  · rfl

/-! ### How far a change reaches -/

/-- LIVE or RETIRING, as a node record counts points (R120). -/
def Point.inUse (t : Point) : Prop := t.life = .live ∨ t.life = .retiring

/-- In use, in a segment of `K`. -/
def Point.usedIn (K : Seg → Prop) (t : Point) : Prop := t.inUse ∧ K t.seg

/-- Where the point is in use, its segment is one of `K`. -/
def Point.homedIn (K : Seg → Prop) (t : Point) : Prop := t.inUse → K t.seg

/-- A segment's demand queue names points of `K`, where it names points in use. -/
def QueueHomed (K : Seg → Prop) (s : State) (h : Seg) : Prop :=
  ∀ d ∈ (s.sched h).queue, (s.point d.point).homedIn K

/-- From `s` to `t`, no note of a feed or of the device changes, no segment outside `K`, and no point but one in use
in `K`; and neither the points in use in `K` nor the demand queues stray from it. -/
structure Confined (K : Seg → Prop) (s t : State) : Prop where
  devNote : ∀ q, t.devNoteOf q = s.devNoteOf q
  feedNote : ∀ q h, (t.segNoteOf q h).feed = (s.segNoteOf q h).feed
  seg : ∀ h, ¬ K h → t.seg h = s.seg h
  point : ∀ j, ¬ (s.point j).usedIn K → t.point j = s.point j
  home : ∀ j, (s.point j).homedIn K → (t.point j).homedIn K
  queue : ∀ h, QueueHomed K s h → QueueHomed K t h

section
variable {K : Seg → Prop} {g : Seg}

theorem Confined.refl (s : State) : Confined K s s :=
  ⟨fun _ => rfl, fun _ _ => rfl, fun _ _ => rfl, fun _ _ => rfl, fun _ => id, fun _ => id⟩

theorem Confined.trans {s t u : State} (c : Confined K s t) (d : Confined K t u) : Confined K s u where
  devNote q := (d.devNote q).trans (c.devNote q)
  feedNote q h := (d.feedNote q h).trans (c.feedNote q h)
  seg h out := (d.seg h out).trans (c.seg h out)
  point j out := by
    have kept := c.point j out
    rw [d.point j (kept ▸ out), kept]
  home j := d.home j ∘ c.home j
  queue h := d.queue h ∘ c.queue h

/-- A change that is made or not. -/
theorem Confined.ite {s t : State} {c : Prop} [Decidable c] (h : c → Confined K s t) :
    Confined K s (if c then t else s) := by
  split
  · next made => exact h made
  · exact .refl s

/-- Changes in turn, each confined wherever the ones before it have led. -/
theorem confined_foldl {α : Type} {op : State → α → State} {l : List α} {s : State}
    (h : ∀ a ∈ l, ∀ t, Confined K s t → Confined K t (op t a)) : Confined K s (l.foldl op s) :=
  List.foldlRecOn l op (.refl s) fun t ht a ha => ht.trans (h a ha t ht)

theorem NoticesOnly.confined {s t : State} (n : NoticesOnly s t) (dev : ∀ q, t.devNoteOf q = s.devNoteOf q)
    (feed : ∀ q h, (t.segNoteOf q h).feed = (s.segNoteOf q h).feed) : Confined K s t where
  devNote := dev
  feedNote := feed
  seg h _ := n.seg h
  point j _ := n.point j
  home j := by rw [n.point]; exact id
  queue h homed d hd := by
    rw [n.point]
    exact homed d (n.sched h ▸ hd)

theorem confined_notePoint (s : State) (p : Port) (i : PointIdx) (r : PointReason) :
    Confined K s (s.notePoint p i r) :=
  (notePoint_noticesOnly s p i r).confined (fun q => devNoteOf_notePoint s p q i r)
    fun q h => congrArg SegNote.feed (segNoteOf_notePoint s p q i h r)

theorem confined_raisePoint (s : State) (i : PointIdx) (r : PointReason) (dst : PortSet) :
    Confined K s (s.raisePoint i r dst) :=
  (Confined.ite fun _ => confined_notePoint s .a i r).trans (.ite fun _ => confined_notePoint _ .b i r)

theorem confined_raiseSeg {r : SegReason} (other : r ≠ .feed) (s : State) (h : Seg) :
    Confined K s (s.raiseSeg h r) :=
  (raiseSeg_noticesOnly s h r).confined (fun q => devNoteOf_raiseSeg s q h r) fun q k => feedNote_raiseSeg other s q h k

/-- A record in use in `K` changes, and does not stray. -/
theorem confined_setPoint {s : State} {i : PointIdx} {t : Point} (used : (s.point i).usedIn K)
    (homed : t.homedIn K) : Confined K s (s.setPoint i t) := by
  have home : ∀ j, (s.point j).homedIn K → ((s.setPoint i t).point j).homedIn K := fun j h => by
    rw [point_setPoint]
    split
    · exact homed
    · exact h
  refine ⟨fun _ => rfl, fun _ _ => rfl, fun _ _ => rfl, fun j out => ?_, home, fun h q d hd => home _ (q d hd)⟩
  exact point_setPoint_ne s t fun same => out (same ▸ used)

/-- A change that keeps a record's segment. -/
theorem confined_modPoint {s : State} {i : PointIdx} {f : Point → Point}
    (used : (s.point i).usedIn K) (seg : ∀ t, (f t).seg = t.seg := by exact fun _ => rfl) :
    Confined K s (s.modPoint i f) :=
  confined_setPoint used fun _ => (seg _).symm ▸ used.2

/-- A change of a segment of `K` that brings into its queue only points of `K`. -/
theorem confined_modSeg (hg : K g) {s : State} {f : Segment → Segment}
    (hq : ∀ d ∈ (f (s.seg g)).sched.queue, d ∈ (s.sched g).queue ∨ (s.point d.point).homedIn K) :
    Confined K s (s.modSeg g f) where
  devNote _ := rfl
  feedNote _ _ := rfl
  seg h out := (seg_modSeg s g h f).trans (if_neg fun same : h = g => out (same ▸ hg))
  point _ _ := rfl
  home _ := id
  queue h homed d hd := by
    rw [State.sched, seg_modSeg] at hd
    split at hd
    · next same =>
      subst same
      exact (hq d hd).elim (homed d) id
    · exact homed d hd

theorem confined_modSched (hg : K g) {s : State} {f : Scheduler → Scheduler}
    (hq : ∀ d ∈ (f (s.sched g)).queue, d ∈ (s.sched g).queue ∨ (s.point d.point).homedIn K) :
    Confined K s (s.modSched g f) :=
  confined_modSeg hg hq

theorem confined_modLink (hg : K g) (s : State) (f : Link → Link) : Confined K s (s.modLink g f) :=
  confined_modSeg hg fun _ => .inl

theorem confined_modFeed (hg : K g) (s : State) (f : Feed → Feed) : Confined K s (s.modFeed g f) :=
  confined_modSeg hg fun _ => .inl

theorem confined_modNode (hg : K g) (s : State) (n : NodeIdx) (f : NodeRec → NodeRec) :
    Confined K s (s.modNode g n f) :=
  confined_modSeg hg fun _ => .inl

theorem confined_mapNodes (hg : K g) (s : State) (f : NodeRec → NodeRec) : Confined K s (s.mapNodes g f) :=
  confined_modSeg hg fun _ => .inl

/-! ### The operations that the loss of a feed calls -/

theorem confined_tally (hg : K g) (s : State) (evs : List TallyEvent) (node : Option NodeIdx) :
    Confined K s (s.tally g evs node) :=
  ((confined_modSeg hg fun _ => .inl).trans (.ite fun _ => confined_raiseSeg (by nofun) _ g)).trans
    (.ite fun _ => confined_raiseSeg (by nofun) _ g)

theorem confined_setQuality {s : State} {i : PointIdx} (used : (s.point i).usedIn K) (q : Quality) :
    Confined K s (s.setQuality i q) := by
  unfold State.setQuality
  split
  · exact .refl s
  · exact (confined_modPoint used).trans (confined_raisePoint _ i _ _)

/-- The closure condition leaves a record changed just before as it is, or FREE (R17). -/
theorem closureTest_modPoint (s : State) (i : PointIdx) (f : Point → Point) :
    ∃ u, (s.modPoint i f).closureTest i = s.setPoint i u ∧ (u = f (s.point i) ∨ u.life = .free) := by
  unfold State.closureTest
  split
  · exact ⟨_, setPoint_setPoint s i _ _, .inr rfl⟩
  · exact ⟨_, rfl, .inl rfl⟩

theorem not_inUse_of_closed {t : Point} (closed : t.life = .closed) : ¬ t.inUse := by
  simp [Point.inUse, closed]

theorem not_inUse_of_free {t : Point} (free : t.life = .free) : ¬ t.inUse := by
  simp [Point.inUse, free]

/-- A record that enters CLOSED, and FREE where nothing names it, is in use no longer. -/
theorem confined_close {s : State} {i : PointIdx} (used : (s.point i).usedIn K) :
    Confined K s ((s.modPoint i Point.close).closureTest i) := by
  obtain ⟨u, closed, left⟩ := closureTest_modPoint s i Point.close
  have idle : ¬ u.inUse := left.elim (fun h => not_inUse_of_closed (h ▸ rfl)) not_inUse_of_free
  rw [closed]
  exact confined_setPoint used fun h => absurd h idle

theorem confined_closePoint {s : State} {i : PointIdx} (used : (s.point i).usedIn K) :
    Confined K s (s.closePoint i) := by
  refine ((confined_modNode used.2 s _ _).trans (confined_raisePoint _ i _ _)).trans (confined_close ?_)
  rwa [(raisePoint_noticesOnly _ i _ _).point, point_modNode]

/-- A point of `K` may join the queue. -/
theorem confined_offerAgain (hg : K g) {s : State} {i : PointIdx} (homed : (s.point i).homedIn K) :
    Confined K s (s.offerAgain g i) := by
  refine .ite fun _ => .ite fun _ => confined_modSched hg fun d hd => ?_
  rw [List.mem_append, List.mem_singleton] at hd
  exact hd.imp id fun added : d = _ => added ▸ homed

theorem confined_writeNotFinal (hg : K g) {s : State} {i : PointIdx}
    (used : (s.point i).usedIn K) (k : GrantKind) : Confined K s (s.writeNotFinal g i k) := by
  unfold State.writeNotFinal
  dsimp only
  split
  · exact .refl s
  · have told : ∀ {t : State}, Confined K s t → Confined K s
        (if (k = .scan && (s.point i).slot.isNone) = true then t.offerAgain g i else t) := fun c =>
      c.trans (.ite fun _ => confined_offerAgain hg (c.home i fun _ => used.2))
    exact told (((confined_modPoint used).trans (.ite fun _ => confined_raisePoint _ i _ _)).trans
      (.ite fun _ => confined_raisePoint _ i _ _))

theorem confined_outcomeRetiring {s : State} {i : PointIdx} (used : (s.point i).usedIn K)
    (o : ExchangeOutcome) : Confined K s (s.outcomeRetiring i o) := by
  unfold State.outcomeRetiring
  dsimp only
  split
  · exact .refl s
  · exact (confined_modPoint used).trans (confined_raisePoint _ i _ _)

theorem confined_tellDemanders {s : State} {i : PointIdx} (homed : (s.point i).homedIn K) (o : DemandOutcome) :
    Confined K s (s.tellDemanders i o) := by
  refine .ite fun live => (confined_raisePoint s i _ _).trans (confined_modPoint ?_)
  rw [(raisePoint_noticesOnly s i _ _).point]
  exact ⟨.inl live, homed (.inl live)⟩

/-! ### The outcome ABANDONED (R63, R112, R121) -/

theorem confined_outcomePoint_abandoned (hg : K g) {s : State} {x : Exchange}
    (homed : (s.point x.target).homedIn K) : Confined K s (s.outcomePoint g x .abandoned none) := by
  unfold State.outcomePoint
  split
  · next live =>
    have used : (s.point x.target).inUse := .inl live
    unfold State.outcomeLive
    cases x.func with
    | read => exact .refl s
    | write => exact confined_writeNotFinal hg ⟨used, homed used⟩ x.kind
  · next retiring =>
    have used : (s.point x.target).inUse := .inr retiring
    exact confined_outcomeRetiring ⟨used, homed used⟩ .abandoned
  · exact .refl s

/-- Parts that change nothing. -/
theorem takeParts_eq_self {run : Part → State → State} (h : ∀ x t, run x t = t) (s : State) (parts : List Part) :
    s.takeParts run parts = s :=
  List.foldlRecOn (motive := (· = s)) parts _ rfl fun t ht x _ => (h x t).trans ht

theorem judge_abandoned (n : NodeRec) (lostLimit : Nat) : n.judge .abandoned lostLimit = n := by
  unfold NodeRec.judge
  split <;> rfl

/-- ABANDONED does not judge the node (R121): it reaches the tallies alone. -/
theorem confined_outcomeNode_abandoned (hg : K g) (s : State) (x : Exchange) :
    Confined K s (s.outcomeNode g x .abandoned []) := by
  have quiet : ∀ part t, State.judgeParts g x.node false false part t = t := fun part t => by cases part <;> rfl
  unfold State.outcomeNode
  simp only [judge_abandoned, ne_eq, not_true_eq_false, decide_false, decide_not, Bool.and_not_self]
  rw [takeParts_eq_self quiet]
  exact (confined_modNode hg s _ _).trans (confined_tally hg _ _ _)

theorem confined_outcomeClose {s : State} {i : PointIdx} (homed : (s.point i).homedIn K) :
    Confined K s (s.outcomeClose i) :=
  .ite fun retiring => confined_closePoint ⟨.inr retiring, homed (.inr retiring)⟩

theorem confined_applyOutcome_abandoned (hg : K g) {s : State} {x : Exchange}
    (homed : (s.point x.target).homedIn K) : Confined K s (s.applyOutcome g x .abandoned none []) :=
  have judged := (confined_outcomePoint_abandoned hg homed).trans (confined_outcomeNode_abandoned hg _ x)
  judged.trans (confined_outcomeClose (judged.home _ homed))

/-! ### The parts of the loss of a feed (R141) -/

/-- The exchange's target, where there is one, is a point of `K`. -/
def TargetHomed (K : Seg → Prop) (s : State) (x : Option Exchange) : Prop :=
  ∀ y, x = some y → (s.point y.target).homedIn K

theorem Confined.targetHomed {s t : State} {x : Option Exchange} (c : Confined K s t) (h : TargetHomed K s x) :
    TargetHomed K t x :=
  fun y hy => c.home _ (h y hy)

theorem confined_abandon (hg : K g) {s : State} {x : Option Exchange} (homed : TargetHomed K s x) (life : Life) :
    Confined K s (s.abandon g x life) := by
  unfold State.abandon
  split
  · exact .ite fun _ => confined_applyOutcome_abandoned hg (homed _ rfl)
  · exact .refl s

theorem confined_pointLosesFeed (hg : K g) {s : State} {x : Option Exchange} {i : PointIdx}
    (homed : (s.point i).homedIn K) (target : TargetHomed K s x) : Confined K s (State.pointLosesFeed g x i s) := by
  unfold State.pointLosesFeed
  split
  · next live => exact confined_setQuality ⟨.inl live, homed (.inl live)⟩ .unpowered
  · exact confined_abandon hg target .retiring
  · exact .refl s

theorem confined_pointsLoseFeed (hg : K g) {s : State} {x : Option Exchange} (target : TargetHomed K s x) :
    Confined K s (s.pointsLoseFeed g x) := by
  refine confined_foldl fun i listed t c => ?_
  have homed : (s.point i).homedIn K := by
    simp only [List.mem_filter, Bool.or_eq_true, decide_eq_true_eq, Option.map_eq_some_iff] at listed
    obtain ⟨-, ⟨-, rfl⟩ | ⟨y, hy, rfl⟩⟩ := listed
    · exact fun _ => hg
    · exact target y hy
  exact confined_pointLosesFeed hg (c.home i homed) (c.targetHomed target)

theorem queue_feedLost (c : Scheduler) : c.feedLost.queue = c.queue := by
  unfold Scheduler.feedLost
  split <;> rfl

theorem confined_schedLosesFeed (hg : K g) {s : State} (queue : QueueHomed K s g) :
    Confined K s (s.schedLosesFeed g) := by
  unfold State.schedLosesFeed
  dsimp only
  refine Confined.trans ?_ (confined_modSched hg fun d hd => ?_)
  · refine confined_foldl fun i queued t c => ?_
    obtain ⟨d, entry⟩ := Option.isSome_iff_exists.mp (List.mem_filter.mp queued).2
    have found : (s.sched g).queue.find? (fun d => decide (d.point = i)) = some d := entry
    have named : d.point = i := by simpa using List.find?_some found
    exact confined_tellDemanders (c.home i (named ▸ queue d (List.mem_of_find?_eq_some found))) .abandoned
  · rw [queue_feedLost] at hd
    exact absurd hd List.not_mem_nil

theorem confined_linkLosesFeed (hg : K g) (s : State) : Confined K s (s.linkLosesFeed g) :=
  (Confined.ite fun _ => confined_raiseSeg (by nofun) s g).trans (confined_modLink hg _ _)

/-- One part of a feed event without FEED and without a reason of the device. -/
theorem confined_feedPart {leaves : Seg → Bool} {ended : Seg → Option Exchange} {s : State}
    (hK : ∀ h, leaves h = true → K h) (queue : ∀ h, leaves h = true → QueueHomed K s h)
    (target : ∀ h, leaves h = true → TargetHomed K s (ended h)) (part : Part) :
    Confined K s (State.feedPart leaves (fun _ => false) ended none part s) := by
  cases part with
  | monitor => exact .refl s
  | feed h => exact .refl s
  | link h => exact .ite fun left => confined_linkLosesFeed (hK h left) s
  | sched h => exact .ite fun left => confined_schedLosesFeed (hK h left) (queue h left)
  | points h => exact .ite fun left => confined_pointsLoseFeed (hK h left) (target h left)
  | slots h => exact .ite fun left => confined_abandon (hK h left) (target h left) .live
  | nodes h => exact .ite fun left => confined_mapNodes (hK h left) s _

/-- A feed that leaves ON without FEED (R141). -/
theorem confined_feedLeaves (hg : K g) {s : State} (queue : QueueHomed K s g)
    (target : TargetHomed K s (s.link g).exchange) (wasOn : Bool) (order : List Part) :
    Confined K s (s.feedLeaves g wasOn false order) := by
  have only : ∀ h, (decide (h = g) && wasOn) = true → h = g := fun h left =>
    of_decide_eq_true (Bool.and_eq_true_iff.mp left).1
  unfold State.feedLeaves
  simp only [Bool.and_false]
  refine confined_foldl fun part _ t c => confined_feedPart ?_ ?_ ?_ part
  · exact fun h left => only h left ▸ hg
  · exact fun h left => only h left ▸ c.queue g queue
  · intro h left
    obtain rfl := only h left
    exact c.targetHomed target

/-! ### FEED_OFF (R141, R142) -/

theorem confined_feedSwitchedOff (hg : K g) {s : State} (queue : QueueHomed K s g)
    (target : TargetHomed K s (s.link g).exchange) (order : List Part) :
    Confined K s (s.feedSwitchedOff g order) := by
  have off : Confined K s (s.modFeed g fun f => { f.open .off with enable := false }) := confined_modFeed hg s _
  refine off.trans (confined_feedLeaves hg (off.queue g queue) ?_ _ order)
  rw [link_modFeed]
  exact off.targetHomed target

end

/-- Without any law the notes are still those of before. -/
theorem confined_feedSwitchedOff_anywhere (s : State) (g : Seg) (order : List Part) :
    Confined (fun _ => True) s (s.feedSwitchedOff g order) :=
  confined_feedSwitchedOff trivial (fun _ _ _ => trivial) (fun _ _ _ => trivial) order

/-- By SegmentLaw what the segment's queue and exchange name is the segment's own. -/
theorem confined_feedSwitchedOff_of_segmentLaw {s : State} (law : SegmentLaw s) (g : Seg) (order : List Part) :
    Confined (onlySeg g) s (s.feedSwitchedOff g order) := by
  obtain ⟨-, queue, exchange, -⟩ := law g
  exact confined_feedSwitchedOff (K := onlySeg g) rfl (fun d hd _ => (queue d hd).2)
    (fun y hy _ => (exchange y hy).1) order

theorem SegmentLaw.acceptFrame {s : State} (law : SegmentLaw s) (p : Port) : SegmentLaw (s.acceptFrame p) := by
  simpa only [SegmentLaw, sched_acceptFrame, link_acceptFrame, feed_acceptFrame, point_acceptFrame] using law

/-- The leaving of ON takes no part where the feed was not ON and no FEED is due. -/
theorem feedLeaves_idle (s : State) (g : Seg) (order : List Part) : s.feedLeaves g false false order = s := by
  refine takeParts_eq_self (fun part t => ?_) s _
  simp only [Bool.and_false]
  cases part <;> rfl

theorem feedSwitchedOff_of_not_on {s : State} {g : Seg} (off : (s.feed g).state ≠ .on) (order : List Part) :
    s.feedSwitchedOff g order = s.modFeed g fun f => { f.open .off with enable := false } := by
  rw [State.feedSwitchedOff, State.powered, decide_eq_false off, feedLeaves_idle]

theorem feed_feedSwitchedOff (s : State) (g : Seg) (order : List Part) :
    (s.feedSwitchedOff g order).feed g = { (s.feed g).open .off with enable := false } := by
  have left := touches_feedLeaves (F := noSeg) (L := onlySeg g) (G := onlySeg g) rfl rfl
    (s.modFeed g fun f => { f.open .off with enable := false }) (s.powered g) false order
  exact (left.feed g id).trans (feed_modFeed_same s g _)

/-- Outside the segments it touches, a change leaves all but the node records. -/
theorem Touches.seg_but_nodes {F L G : Seg → Prop} {s t : State} {h : Seg} (k : Touches F L G s t) (hF : ¬ F h)
    (hL : ¬ L h) (hG : ¬ G h) : t.seg h = { s.seg h with nodes := (t.seg h).nodes } := by
  rw [Segment.mk.injEq]
  exact ⟨k.sched h hG, k.link h hL, rfl, k.tally0 h hG, k.tally1 h hG, k.feed h hF⟩

/-! ### The obligation's parts -/

theorem feedCommands_readFeeds {s : State} {p : Port} {ps : List Byte} (tag : Byte) (takes : Takes s p ps) :
    (ps = [] →
      exec (.readFeeds p tag ps) s =
        .next (s.answered (s.acceptFrame p) p 0x5B tag ps .ok
          ([byteOf s.supply.code, byteOf s.temperature.code] ++ Seg.all.flatMap fun g => (s.feed g).bytes))) ∧
    (ps ≠ [] →
      exec (.readFeeds p tag ps) s = .next (s.answered (s.acceptFrame p) p 0x5B tag ps .badParameter [])) := by
  rw [exec_readFeeds]
  refine ⟨?_, fun bad => command_answers takes (readFeeds_badParameter bad)⟩
  rintro rfl
  exact command_answers takes (readFeeds_acceptFrame p s)

/-- Settles O45: each command is its answer on the accepted frame, which has the feeds, levels and points of the state
before it; that FEED_OFF reaches no further is `Confined`, with all segments for the notes and with its own alone under
SegmentLaw. -/
theorem feedCommands : Obligations.FeedCommands := by
  refine ⟨fun s p tag ps takes => feedCommands_readFeeds tag takes, ?_, ?_⟩
  · intro s t p tag ps g hears length seg right ht
    have feeds : Feeds s p ps g := ⟨length, seg, right⟩
    have effect : (s.acceptFrame p).feedOn g = t := by
      rw [ht, feedOn_eq, feedAsked_eq, feed_acceptFrame, supply_acceptFrame, temperature_acceptFrame]
      rfl
    rw [exec_feedOn, ← effect]
    exact command_answers (feeds.takes hears) (feedOn_answer feeds.acceptFrame)
  · intro s p tag ps e g hears length seg right
    have feeds : Feeds s p ps g := ⟨length, seg, right⟩
    have touched : Touches (onlySeg g) (onlySeg g) (onlySeg g) (s.acceptFrame p)
        ((s.acceptFrame p).feedSwitchedOff g e.order) :=
      touches_feedSwitchedOff (F := onlySeg g) (L := onlySeg g) (G := onlySeg g) rfl rfl rfl _ _
    have quiet := confined_feedSwitchedOff_anywhere (s.acceptFrame p) g e.order
    have feed := feed_feedSwitchedOff (s.acceptFrame p) g e.order
    rw [exec_feedOff, command_answers (feeds.takes hears) (feedOff_answer feeds.acceptFrame), State.feedBytes]
    refine ⟨(s.acceptFrame p).feedSwitchedOff g e.order, ?_, ?_, ?_, ?_, ?_, ?_, ?_, ?_⟩
    · rw [feed, feed_acceptFrame]
      rfl
    · rw [feed, feed_acceptFrame]
      rfl
    · intro off
      rw [← feed_acceptFrame s p] at off
      rw [feed, feedSwitchedOff_of_not_on off]
      rfl
    · intro h other
      have kept := touched.seg_but_nodes other other other
      rw [seg_acceptFrame] at kept
      exact ⟨_, kept⟩
    · intro law
      have own := confined_feedSwitchedOff_of_segmentLaw (law.acceptFrame p) g e.order
      refine ⟨fun h other => (own.seg h other).trans (seg_acceptFrame s p h), fun j other => ?_⟩
      rw [← point_acceptFrame s p] at other ⊢
      exact own.point j fun used => other used.2
    · intro q h
      rw [quiet.feedNote, segNoteOf_acceptFrame]
    · exact fun q => ⟨quiet.devNote q, touched.ports q⟩
    · exact ⟨touched.trigs.trans (trigs_acceptFrame s p), touched.supply.trans (supply_acceptFrame s p),
        touched.temperature.trans (temperature_acceptFrame s p)⟩

end Sys2Proof.Machine
end

section
/-! PROOF. SUBSCRIBE, UNSUBSCRIBE and SET_NOTICE_MASK (R149, R150, R157): what the three commands answer once the
frame's checks have passed, and the refusal of each check. -/

namespace Sys2Proof.Machine

/-! ### The commands' arms -/

theorem exec_subscribe (p : Port) (tag : Byte) (ps : List Byte) (s : State) :
    exec (.subscribe p tag ps) s = command 0x60 p tag ps (subscribe p ps) s := rfl

theorem exec_unsubscribe (p : Port) (tag : Byte) (ps : List Byte) (s : State) :
    exec (.unsubscribe p tag ps) s = command 0x61 p tag ps (unsubscribe p ps) s := rfl

theorem exec_setNoticeMask (p : Port) (tag : Byte) (ps : List Byte) (s : State) :
    exec (.setNoticeMask p tag ps) s = command 0x63 p tag ps (setNoticeMask p ps) s := rfl

/-! ### SUBSCRIBE and UNSUBSCRIBE (R149, R150) -/

/-- A mask's parameter byte, cut to the bits of the mask. -/
theorem setWidth_argByte (n : Nat) (ps : List Byte) (k : Nat) : (argByte ps k).setWidth n = BitVec.ofNat n (arg ps k) :=
  (BitVec.ofNat_toNat n _).symm

/-- The mask that is answered is the one that the port held before the frame was accepted. -/
theorem setMask_acceptFrame (s : State) (p : Port) (i : PointIdx) (mask : BitVec 4) :
    (s.acceptFrame p).setMask p i mask =
      accept ((s.acceptFrame p).modPoint i fun t => { t with subs := t.subs.set p mask })
        [((s.point i).subs.get p).setWidth 8] := by
  rw [State.setMask, point_acceptFrame]

section
variable {s : State} {p : Port} {ps : List Byte}

theorem subscribe_badParameter (h : ps.length ≠ 3 ∨ arg ps 2 = 0 ∨ 15 < arg ps 2) :
    subscribe p ps s = refuse s .badParameter :=
  onPoint_badParameter (h.imp_right fun outside => decide_eq_false (by omega))

section
variable (length : ps.length = 3) (nonzero : 1 ≤ arg ps 2) (inMask : arg ps 2 ≤ 15)
include length nonzero inMask

theorem subscribe_refuses {r : Result} (refused : HandleRefused s p ps .read r) : subscribe p ps s = refuse s r :=
  refused.onPoint length (decide_eq_true ⟨nonzero, Nat.lt_succ_of_le inMask⟩) _

theorem subscribe_accept {i : PointIdx} (e : Entitled s p ps .read i) :
    subscribe p ps s = s.setMask p i (BitVec.ofNat 4 (arg ps 2)) := by
  rw [← setWidth_argByte]
  exact e.onPoint length (decide_eq_true ⟨nonzero, Nat.lt_succ_of_le inMask⟩) _

end

theorem unsubscribe_badParameter (h : ps.length ≠ 2) : unsubscribe p ps s = refuse s .badParameter :=
  onPoint_badParameter (.inl h)

theorem unsubscribe_staleHandle (length : ps.length = 2) (stale : s.handleOk (argHandle ps 0) = false) :
    unsubscribe p ps s = refuse s .staleHandle := by
  rw [unsubscribe, ← length]
  exact onPoint_staleHandle stale

/-- UNSUBSCRIBE asks for no right (R150). -/
theorem unsubscribe_accept (length : ps.length = 2) (handle : s.handleOk (argHandle ps 0) = true) :
    unsubscribe p ps s = s.setMask p (argHandle ps 0).idx 0 := by
  rw [unsubscribe, ← length]
  exact onPoint_passes handle rfl

/-! ### SET_NOTICE_MASK (R157) -/

theorem setNoticeMask_badParameter (h : ps.length ≠ 3 ∨ 63 < arg ps 0 ∨ 31 < arg ps 1 ∨ 1 < arg ps 2) :
    setNoticeMask p ps s = refuse s .badParameter :=
  if_pos h

theorem byteOf_boolCode (b : Bool) : byteOf (boolCode b) = if b then 1 else 0 := by cases b <;> rfl

/-- The accepted SET_NOTICE_MASK: the masks and the line enable answered are those that the port held before the frame
was accepted. -/
theorem setNoticeMask_acceptFrame (length : ps.length = 3) (segBits : arg ps 0 ≤ 63) (devBits : arg ps 1 ≤ 31)
    (flag : arg ps 2 ≤ 1) :
    setNoticeMask p ps (s.acceptFrame p) =
      accept
        ((s.acceptFrame p).modPort p fun u =>
          { u with
            segMask := BitVec.ofNat 6 (arg ps 0)
            devMask := BitVec.ofNat 5 (arg ps 1)
            lineEnable := decide (arg ps 2 = 1) })
        [(s.port p).segMask.setWidth 8, (s.port p).devMask.setWidth 8, if (s.port p).lineEnable then 1 else 0] := by
  have kept := acceptFrame_portKept s p p
  have allowed : ¬(ps.length ≠ 3 ∨ 0x3F < arg ps 0 ∨ 0x1F < arg ps 1 ∨ 1 < arg ps 2) := by omega
  rw [setNoticeMask, if_neg allowed]
  simp only [kept.segMask, kept.devMask, kept.lineEnable, byteOf_boolCode, setWidth_argByte]

end

/-! ### The obligation -/

/-- Settles O49: each command is its answer on the accepted frame, which has the points, the rights and the masks of the
state before it. -/
theorem subscriptionsAndMasks : Obligations.SubscriptionsAndMasks := by
  intro s p tag ps takes
  rw [exec_subscribe, exec_unsubscribe, exec_setNoticeMask]
  refine ⟨fun bad => command_answers takes (subscribe_badParameter bad),
    fun bad => command_answers takes (unsubscribe_badParameter bad), fun stale => ⟨?_, ?_⟩, ?_,
    fun bad => command_answers takes (setNoticeMask_badParameter bad),
    fun length segBits devBits flag =>
      command_answers takes (setNoticeMask_acceptFrame length segBits devBits flag)⟩
  · intro length nonzero inMask
    have refused : HandleRefused s p ps .read .staleHandle := .inl ⟨stale, rfl⟩
    exact command_answers takes (subscribe_refuses length nonzero inMask refused.acceptFrame)
  · rw [← handleOk_acceptFrame s p] at stale
    exact fun length => command_answers takes (unsubscribe_staleHandle length stale)
  · rintro i handle rfl
    refine ⟨fun length nonzero inMask lacking => ?_, fun length nonzero inMask right => ?_, fun length => ?_⟩
    · have refused : HandleRefused s p ps .read .noRight := .inr ⟨handle, lacking, rfl⟩
      exact command_answers takes (subscribe_refuses length nonzero inMask refused.acceptFrame)
    · have entitled : Entitled s p ps .read (argHandle ps 0).idx := ⟨handle, rfl, right⟩
      exact command_answers takes
        ((subscribe_accept length nonzero inMask entitled.acceptFrame).trans (setMask_acceptFrame s p _ _))
    · rw [← handleOk_acceptFrame s p] at handle
      exact command_answers takes ((unsubscribe_accept length handle).trans (setMask_acceptFrame s p _ _))

end Sys2Proof.Machine
end

section
/-! PROOF. NOOP, READ_IDENTITY, SET_SUPERVISION and READ_RIGHTS (R166, R169, R172): what the four commands answer on
the accepted frame, whose rights and supervision period are those of the state before it. -/

namespace Sys2Proof.Machine

/-! ### The commands' arms -/

theorem exec_noop (p : Port) (tag : Byte) (ps : List Byte) (s : State) :
    exec (.noop p tag ps) s = command 0x00 p tag ps (noop ps) s := rfl

theorem exec_readIdentity (p : Port) (tag : Byte) (ps : List Byte) (s : State) :
    exec (.readIdentity p tag ps) s = command 0x01 p tag ps (readIdentity ps) s := rfl

theorem exec_setSupervision (p : Port) (tag : Byte) (ps : List Byte) (s : State) :
    exec (.setSupervision p tag ps) s = command 0x02 p tag ps (setSupervision p ps) s := rfl

theorem exec_readRights (p : Port) (tag : Byte) (ps : List Byte) (s : State) :
    exec (.readRights p tag ps) s = command 0x04 p tag ps (readRights ps) s := rfl

/-! ### NOOP and READ_IDENTITY (R172) -/

theorem noop_badParameter {ps : List Byte} {s : State} (h : ps ≠ []) : noop ps s = refuse s .badParameter :=
  if_pos (List.length_eq_zero_iff.not.mpr h)

theorem readIdentity_badParameter {ps : List Byte} {s : State} (h : ps ≠ []) :
    readIdentity ps s = refuse s .badParameter :=
  if_pos (List.length_eq_zero_iff.not.mpr h)

theorem identityBytes_eq : identityBytes = [0x48, 0x52, 0x56, 0x42, 1, 0, 1, 4, 96, 30, 8, 5] := by decide

/-! ### SET_SUPERVISION (R169) -/

theorem setSupervision_badParameter {p : Port} {ps : List Byte} {s : State} (h : ps.length ≠ 1) :
    setSupervision p ps s = refuse s .badParameter :=
  if_pos h

/-- The period answered is the one that the port held before the frame was accepted. -/
theorem setSupervision_acceptFrame (s : State) (p : Port) (n : Byte) :
    setSupervision p [n] (s.acceptFrame p) =
      accept
        ((s.acceptFrame p).modPort p fun u =>
          { u with supPeriod := n.toNat, supTimer := if n.toNat = 0 then none else some 0 })
        [byteOf (s.port p).supPeriod] := by
  rw [← (acceptFrame_portKept s p p).supPeriod]
  rfl

/-! ### READ_RIGHTS (R166) -/

/-- A port's parameter byte is 0 or 1. -/
theorem portOf_eq_none_iff (n : Nat) : portOf n = none ↔ 1 < n := by
  match n with
  | 0 | 1 => simp [portOf]
  | n + 2 => simp [portOf]

theorem portOf_code (q : Port) : portOf q.code = some q := by cases q <;> rfl

theorem arg_byteOf_code (q : Port) : arg [byteOf q.code] 0 = q.code := by cases q <;> rfl

/-- An accepted frame leaves the rights of both ports, here as the bytes that a reply carries. -/
theorem rightsBytes_acceptFrame (s : State) (p q : Port) :
    ((s.acceptFrame p).port q).rightsBytes =
      (s.port q).rights.toList.map (fun r => r.setWidth 8) ++ [(s.port q).device.setWidth 8] := by
  have kept := acceptFrame_portKept s p q
  rw [PortUnit.rightsBytes, kept.rights, kept.device]

theorem readRights_badParameter {ps : List Byte} {s : State} (h : ps.length ≠ 1 ∨ 1 < arg ps 0) :
    readRights ps s = refuse s .badParameter := by
  unfold readRights
  cases target : portOf (arg ps 0) with
  | none => rfl
  | some q =>
    have known : ¬1 < arg ps 0 := (portOf_eq_none_iff _).not.mp (by simp [target])
    exact if_pos (h.resolve_right known)

theorem readRights_accept (s : State) (q : Port) :
    readRights [byteOf q.code] s = accept s (s.port q).rightsBytes := by
  rw [readRights, arg_byteOf_code, portOf_code]
  rfl

/-! ### The obligation -/

/-- Settles O6: each command is its answer on the accepted frame, which has the rights and the supervision period of
the state before it. -/
theorem portCommands : Obligations.PortCommands := by
  refine ⟨fun s p tag ps takes => ⟨?_, fun bad => ?_⟩, fun s p tag ps takes => ?_⟩
  · rintro rfl
    rw [exec_noop, exec_readIdentity, ← identityBytes_eq]
    exact ⟨command_takes takes, command_takes takes⟩
  · rw [exec_noop, exec_readIdentity]
    exact ⟨command_answers takes (noop_badParameter bad), command_answers takes (readIdentity_badParameter bad)⟩
  · rw [exec_setSupervision, exec_readRights]
    refine ⟨?_, fun bad => command_answers takes (setSupervision_badParameter bad), ?_,
      fun bad => command_answers takes (readRights_badParameter bad)⟩
    · rintro n rfl
      exact command_answers takes (setSupervision_acceptFrame s p n)
    · rintro q rfl
      rw [← rightsBytes_acceptFrame s p q]
      exact command_answers takes (readRights_accept _ q)

end Sys2Proof.Machine
end

section
/-! PROOF. SET_RIGHTS (R151, R167, R168): its checks read as facts about the parameter bytes, and the rights,
subscriptions and reason that the accepted command leaves. -/

namespace Sys2Proof.Machine

theorem exec_setRights (p : Port) (tag : Byte) (ps : List Byte) (s : State) :
    exec (.setRights p tag ps) s = command 0x03 p tag ps (setRights p ps) s := rfl

/-! ### The parameter bytes (R167) -/

theorem rightsCoded_iff (ps : List Byte) : rightsCoded ps = true ↔ ∀ k, 1 ≤ k → k ≤ 17 → arg ps k ≤ 7 := by
  simp only [rightsCoded, List.all_eq_true, List.mem_range, decide_eq_true_eq]
  constructor
  · intro coded k low high
    have below := coded (k - 1) (by omega)
    rw [Nat.sub_add_cancel low] at below
    exact Nat.le_of_lt_succ below
  · exact fun coded k inRange => Nat.lt_succ_of_le (coded (k + 1) (by omega) (by omega))

/-- The device right RIGHTS is the highest of the three bits. -/
theorem deviceRightsOf_rights {ps : List Byte} (coded : arg ps 17 ≤ 7) :
    (deviceRightsOf ps).getLsbD DeviceRight.rights.bit = decide (4 ≤ arg ps 17) := by
  have bit2 : (deviceRightsOf ps).getLsbD DeviceRight.rights.bit = (arg ps 17).testBit 2 :=
    BitVec.getLsbD_setWidth 3 (argByte ps 17) 2
  rw [bit2, Nat.testBit_eq_decide_div_mod_eq, decide_eq_decide]
  omega

/-- The group right READ is the lowest bit of the group's byte. -/
theorem rightsOf_read (ps : List Byte) (k : Fin 16) :
    (rightsOf ps)[k.val].getLsbD GroupRight.read.bit = (argByte ps (k.val + 1)).getLsbD 0 := by
  simp [rightsOf, GroupRight.bit]

/-! ### The rights replaced (R151, R168) -/

/-- The rights and the subscriptions that SET_RIGHTS leaves: a group's READ is lost against the rights that the target
held before the frame was accepted. -/
theorem replaceRights_acceptFrame (s : State) (p q : Port) (ps : List Byte) :
    (s.acceptFrame p).replaceRights q (rightsOf ps) (deviceRightsOf ps) =
      (((s.acceptFrame p).modPort q fun u =>
          { u with
            rights := Vector.ofFn fun k => (argByte ps (k.val + 1)).setWidth 3
            device := (argByte ps 17).setWidth 3 }).mapPoints fun t =>
          if (t.life = .live ∨ t.life = .retiring) ∧ s.hasGroup q .read t.group = true ∧
              (argByte ps (t.group.val + 1)).getLsbD 0 = false then
            { t with subs := t.subs.set q 0 }
          else t).raiseDev q .rightsChanged := by
  simp only [State.replaceRights, Point.loseRead, hasGroup_acceptFrame, rightsOf_read, Bool.and_eq_true,
    Bool.not_eq_true']
  rfl

/-! ### The checks, in their order (R167, R168) -/

theorem setRights_badParameter {p : Port} {ps : List Byte} {s : State}
    (h : ps.length ≠ 18 ∨ 1 < arg ps 0 ∨ ∃ k, 1 ≤ k ∧ k ≤ 17 ∧ 7 < arg ps k) :
    setRights p ps s = refuse s .badParameter := by
  unfold setRights
  cases target : portOf (arg ps 0) with
  | none => rfl
  | some q =>
    refine if_pos (h.imp_right fun outside => ?_)
    have known : ¬1 < arg ps 0 := (portOf_eq_none_iff _).not.mp (by simp [target])
    obtain ⟨k, low, high, big⟩ := outside.resolve_left known
    rw [← Bool.not_eq_true, rightsCoded_iff]
    exact fun coded => Nat.not_lt.mpr (coded k low high) big

section
variable {s : State} {p q : Port} {ps : List Byte} (length : ps.length = 18) (target : arg ps 0 = q.code)
  (coded : ∀ k, 1 ≤ k → k ≤ 17 → arg ps k ≤ 7)
include length target coded

/-- With its parameters in order, SET_RIGHTS asks for the right RIGHTS, and then for a port that holds it
afterwards. -/
theorem setRights_eq :
    setRights p ps s =
      if s.hasDevice p .rights = false then refuse s .noRight
      else if arg ps 17 < 4 ∧ s.hasDevice q.other .rights = false then refuse s .lastAuthority
      else accept (s.replaceRights q (rightsOf ps) (deviceRightsOf ps)) (s.port q).rightsBytes := by
  have inCoding : ¬(ps.length ≠ 18 ∨ rightsCoded ps = false) := by simp [length, (rightsCoded_iff ps).mpr coded]
  have known : portOf (arg ps 0) = some q := by rw [target, portOf_code]
  simp only [setRights, known, if_neg inCoding, deviceRightsOf_rights (coded 17 (by decide) (by decide)),
    decide_eq_false_iff_not, Nat.not_le]

theorem setRights_noRight (lacking : s.hasDevice p .rights = false) : setRights p ps s = refuse s .noRight :=
  (setRights_eq length target coded).trans (if_pos lacking)

section
variable (holds : s.hasDevice p .rights = true)
include holds

theorem setRights_lastAuthority (gives : arg ps 17 < 4) (alone : s.hasDevice q.other .rights = false) :
    setRights p ps s = refuse s .lastAuthority :=
  (setRights_eq length target coded).trans ((if_neg (by simp [holds])).trans (if_pos ⟨gives, alone⟩))

theorem setRights_accept (remains : 4 ≤ arg ps 17 ∨ s.hasDevice q.other .rights = true) :
    setRights p ps s =
      accept (s.replaceRights q (rightsOf ps) (deviceRightsOf ps)) (s.port q).rightsBytes := by
  have someAuthority : ¬(arg ps 17 < 4 ∧ s.hasDevice q.other .rights = false) := by
    rw [not_and_or, Nat.not_lt, Bool.not_eq_false]
    exact remains
  exact (setRights_eq length target coded).trans ((if_neg (by simp [holds])).trans (if_neg someAuthority))

end

end

end Sys2Proof.Machine

/-! ### The obligation -/

namespace Sys2Proof

open Machine

/-- Settles O7: the checks and the answer are those of the accepted frame, which has the rights of the state before
it. -/
theorem setRights : Obligations.SetRights := by
  intro s p q tag ps takes
  rw [exec_setRights]
  refine ⟨fun bad => command_answers takes (setRights_badParameter bad), fun length target coded => ?_⟩
  simp only [← hasDevice_acceptFrame s p]
  refine ⟨fun lacking => command_answers takes (setRights_noRight length target coded lacking),
    fun holds gives alone => command_answers takes (setRights_lastAuthority length target coded holds gives alone),
    fun holds remains => ?_⟩
  rw [← replaceRights_acceptFrame, ← rightsBytes_acceptFrame s p q]
  exact command_answers takes (setRights_accept length target coded holds remains)

end Sys2Proof
end

section
/-! PROOF. RESET_PORT (R23, R24, R161, R173): the step is the port taken out of every set, then the closure tests of the
points that its list named, then its supervision; each part of the device is read after each of the three. -/

namespace Sys2Proof.Machine

theorem exec_resetPort (p : Port) (tag : Byte) (ps : List Byte) (s : State) :
    exec (.resetPort p tag ps) s = command 0x05 p tag ps (resetPort p ps) s := rfl

/-! ### The points that a list names (R152) -/

/-- Whether a list names a record depends on the list and on the record's generation. -/
theorem named_congr {s t : State} {p : Port} {i : PointIdx} (list : (t.port p).attention = (s.port p).attention)
    (generation : (t.point i).generation = (s.point i).generation) : t.named p i = s.named p i := by
  rw [State.named, State.named, list, generation]

theorem named_eq_isSome_find (s : State) (p : Port) (i : PointIdx) :
    s.named p i = ((s.port p).attention.find? (Entry.isPoint i (s.point i).generation)).isSome := by
  rw [State.named, Bool.eq_iff_iff, List.find?_isSome, List.any_eq_true]

theorem named_raiseDev (s : State) (p q : Port) (i : PointIdx) (r : DevReason) :
    (s.raiseDev p r).named q i = s.named q i := by
  unfold State.raiseDev
  split
  · rw [named_eq_isSome_find, named_eq_isSome_find, point_modPort,
      find_attention_merge_other (fun e k => by obtain ⟨n, rfl⟩ := isDevice_eq k; rfl)
        (fun e k => by obtain ⟨n, rfl⟩ := isDevice_eq k; rfl) rfl s p q]
  · rfl

/-- A port's change outside its list. -/
theorem attention_modPort_kept {f : PortUnit → PortUnit} (keeps : ∀ u, (f u).attention = u.attention) (s : State)
    (p q : Port) : ((s.modPort p f).port q).attention = (s.port q).attention := by
  rw [port_modPort]
  split
  · next same => rw [same, keeps]
  · rfl

/-- An accepted frame raises no reason of a point (R163, R171). -/
@[simp] theorem named_acceptFrame (s : State) (p q : Port) (i : PointIdx) :
    (s.acceptFrame p).named q i = s.named q i := by
  have resumed : (s.resume p).named q i = s.named q i := by
    unfold State.resume
    split
    · exact (named_raiseDev _ _ q i _).trans
        (named_congr (attention_modPort_kept (by exact fun _ => rfl) s p q) (by simp))
    · rfl
  exact (named_congr (attention_modPort_kept (by exact fun _ => rfl) _ p q) (by simp)).trans resumed

/-! ### The ports of an accepted frame (R163, R171) -/

/-- What a device reason does to its target port depends on that port alone. -/
theorem port_raiseDev_congr {s t : State} {p : Port} (same : t.port p = s.port p) (r : DevReason) :
    (t.raiseDev p r).port p = (s.raiseDev p r).port p := by
  simp only [State.raiseDev, same]
  split
  · rw [port_modPort_same, port_modPort_same, same]
  · exact same

/-- An accepted frame reaches the other port only where the calling one resumes. -/
theorem port_acceptFrame_other (s : State) (p : Port) :
    (s.acceptFrame p).port p.other =
      if (s.port p).lapsed then (s.raiseDev p.other .peerResumed).port p.other else s.port p.other := by
  rw [State.acceptFrame, port_modPort, if_neg p.other_ne, State.resume]
  split
  · exact port_raiseDev_congr (by rw [port_modPort, if_neg p.other_ne]) _
  · rfl

theorem resetSeen_acceptFrame (s : State) (p : Port) : ((s.acceptFrame p).port p).resetSeen = false := by
  rw [State.acceptFrame, port_modPort_same]

/-- A port reset whole, its frame accepted first: what the frame changed is set again (R161, R173). -/
theorem port_acceptFrame_reset (s : State) (p : Port) :
    { (s.acceptFrame p).port p with
        reply := none, attention := [], supPeriod := 0, supTimer := none, lapsed := false } =
      { s.port p with
        reply := none, resetSeen := false, attention := [], supPeriod := 0, supTimer := none, lapsed := false } := by
  have kept := acceptFrame_portKept s p p
  rw [PortUnit.mk.injEq]
  exact ⟨rfl, resetSeen_acceptFrame s p, rfl, rfl, rfl, rfl, kept.segMask, kept.devMask, kept.lineEnable, kept.rights,
    kept.device, kept.miso, kept.select⟩

/-! ### Closure tests (R17) -/

/-- Only point records change. -/
structure PointsOnly (s t : State) : Prop where
  pending : t.pending = s.pending
  inReset : t.inReset = s.inReset
  segs : t.segs = s.segs
  ports : t.ports = s.ports
  trigs : t.trigs = s.trigs
  supply : t.supply = s.supply
  temperature : t.temperature = s.temperature

theorem PointsOnly.refl (s : State) : PointsOnly s s := ⟨rfl, rfl, rfl, rfl, rfl, rfl, rfl⟩

theorem PointsOnly.trans {s t u : State} (h : PointsOnly s t) (k : PointsOnly t u) : PointsOnly s u :=
  ⟨k.pending.trans h.pending, k.inReset.trans h.inReset, k.segs.trans h.segs, k.ports.trans h.ports,
    k.trigs.trans h.trigs, k.supply.trans h.supply, k.temperature.trans h.temperature⟩

theorem PointsOnly.port {s t : State} (h : PointsOnly s t) (p : Port) : t.port p = s.port p := by
  simp only [State.port, h.ports]

theorem PointsOnly.seg {s t : State} (h : PointsOnly s t) (g : Seg) : t.seg g = s.seg g := by
  simp only [State.seg, h.segs]

theorem closureTest_pointsOnly (s : State) (i : PointIdx) : PointsOnly s (s.closureTest i) := by
  unfold State.closureTest
  split
  · exact ⟨rfl, rfl, rfl, rfl, rfl, rfl, rfl⟩
  · exact .refl s

/-- The closure condition of a record: it is CLOSED, and neither list names it (R17). -/
abbrev State.Forgotten (s : State) (i : PointIdx) : Prop :=
  (s.point i).life = .closed ∧ s.named .a i = false ∧ s.named .b i = false

theorem forgotten_iff (s : State) (p : Port) (i : PointIdx) :
    s.Forgotten i ↔ (s.point i).life = .closed ∧ s.named p i = false ∧ s.named p.other i = false := by
  cases p with
  | a => exact Iff.rfl
  | b => exact and_congr_right fun _ => and_comm

theorem closureTest_of_forgotten {s : State} {i : PointIdx} (h : s.Forgotten i) :
    s.closureTest i = s.setPoint i (Point.cleared ((s.point i).generation + 1)) :=
  if_pos h

theorem closureTest_of_not_forgotten {s : State} {i : PointIdx} (h : ¬s.Forgotten i) : s.closureTest i = s :=
  if_neg h

/-- The closure test of one record leaves every other record, and whether a list names it. -/
theorem closureTest_ne (s : State) {i j : PointIdx} (other : j ≠ i) :
    (s.closureTest i).point j = s.point j ∧ ((s.closureTest i).Forgotten j ↔ s.Forgotten j) := by
  have record : (s.closureTest i).point j = s.point j := by
    unfold State.closureTest
    split
    · exact point_setPoint_ne s _ other
    · rfl
  have named (q : Port) : (s.closureTest i).named q j = s.named q j :=
    named_congr (by rw [(closureTest_pointsOnly s i).port]) (by rw [record])
  exact ⟨record, by rw [State.Forgotten, record, named, named]⟩

/-- A FREE record is not CLOSED, so a second test changes nothing. -/
theorem not_forgotten_closureTest (s : State) (i : PointIdx) : ¬(s.closureTest i).Forgotten i := by
  by_cases h : s.Forgotten i
  · simp [closureTest_of_forgotten h, State.Forgotten, Point.cleared]
  · rwa [closureTest_of_not_forgotten h]

theorem closureTests_pointsOnly (is : List PointIdx) (s : State) :
    PointsOnly s (s.forPoints is fun i s => s.closureTest i) := by
  induction is generalizing s with
  | nil => exact .refl s
  | cons i is ih => exact (closureTest_pointsOnly s i).trans (ih (s.closureTest i))

/-- Closure tests of some points free exactly those of them that meet the closure condition at the start: a test of one
decides nothing for another. -/
theorem point_closureTests (is : List PointIdx) (s : State) (j : PointIdx) :
    (s.forPoints is fun i s => s.closureTest i).point j =
      if j ∈ is ∧ s.Forgotten j then Point.cleared ((s.point j).generation + 1) else s.point j := by
  induction is generalizing s with
  | nil => simp [State.forPoints]
  | cons i is ih =>
    refine (ih (s.closureTest i)).trans ?_
    by_cases same : j = i
    · subst same
      rw [if_neg fun h => not_forgotten_closureTest s j h.2]
      by_cases h : s.Forgotten j
      · rw [if_pos ⟨List.mem_cons_self, h⟩, closureTest_of_forgotten h, point_setPoint_same]
      · rw [if_neg fun both => h both.2, closureTest_of_not_forgotten h]
    · obtain ⟨record, forgotten⟩ := closureTest_ne s same
      simp only [record, forgotten, List.mem_cons, same, false_or]

/-! ### The port out of every set (R23, R73) -/

/-- RESET_PORT before its closure tests: the port's slot and list are empty, and no point and no demand entry has it. -/
def State.withoutPort (s : State) (p : Port) : State :=
  Seg.all.foldl (fun s g => s.modSched g fun c => c.leavePort p)
    ((s.modPort p fun u => { u with reply := none, attention := [] }).mapPoints fun t => t.leavePort p)

theorem resetPort_eq (s : State) (p : Port) :
    s.resetPort p =
      ((s.withoutPort p).forPoints (allPoints.filter (s.named p)) fun i s => s.closureTest i).modPort p fun u =>
        { u with supPeriod := 0, supTimer := none, lapsed := false } := rfl

section
variable (s : State) (p : Port)

theorem port_withoutPort (q : Port) :
    (s.withoutPort p).port q = if q = p then { s.port p with reply := none, attention := [] } else s.port q :=
  port_modPort s p q fun u => { u with reply := none, attention := [] }

theorem point_withoutPort (i : PointIdx) : (s.withoutPort p).point i = (s.point i).leavePort p :=
  point_mapPoints _ _ i

theorem seg_withoutPort (g : Seg) :
    (s.withoutPort p).seg g = { s.seg g with sched := (s.sched g).leavePort p } := by
  cases g <;> rfl

/-- With its list emptied, the port names no record. -/
theorem named_withoutPort_self (i : PointIdx) : (s.withoutPort p).named p i = false := by
  rw [State.named, port_withoutPort, if_pos rfl]
  rfl

theorem named_withoutPort_other (i : PointIdx) : (s.withoutPort p).named p.other i = s.named p.other i :=
  named_congr (by rw [port_withoutPort, if_neg p.other_ne]) (by rw [point_withoutPort]; rfl)

theorem forgotten_withoutPort (i : PointIdx) :
    (s.withoutPort p).Forgotten i ↔ (s.point i).life = .closed ∧ s.named p.other i = false := by
  rw [forgotten_iff _ p, named_withoutPort_self, named_withoutPort_other, point_withoutPort, eq_self, true_and]
  rfl

/-! ### What RESET_PORT leaves (R173) -/

theorem port_resetPort_self :
    (s.resetPort p).port p =
      { s.port p with reply := none, attention := [], supPeriod := 0, supTimer := none, lapsed := false } := by
  rw [resetPort_eq, port_modPort_same, (closureTests_pointsOnly _ _).port, port_withoutPort, if_pos rfl]

theorem port_resetPort_other : (s.resetPort p).port p.other = s.port p.other := by
  rw [resetPort_eq, port_modPort, if_neg p.other_ne, (closureTests_pointsOnly _ _).port, port_withoutPort,
    if_neg p.other_ne]

/-- The CLOSED records that the port's list alone named are FREE, and every other record is without the port. -/
theorem point_resetPort (i : PointIdx) :
    (s.resetPort p).point i =
      if (s.point i).life = .closed ∧ s.named p i = true ∧ s.named p.other i = false then
        Point.cleared ((s.point i).generation + 1)
      else (s.point i).leavePort p := by
  have freed : i ∈ allPoints.filter (s.named p) ∧ (s.withoutPort p).Forgotten i ↔
      (s.point i).life = .closed ∧ s.named p i = true ∧ s.named p.other i = false := by
    rw [forgotten_withoutPort, and_left_comm]
    simp [allPoints]
  rw [resetPort_eq, point_modPort, point_closureTests]
  simp only [freed, point_withoutPort]
  rfl

theorem seg_resetPort (g : Seg) :
    (s.resetPort p).seg g = { s.seg g with sched := (s.sched g).leavePort p } := by
  rw [resetPort_eq, seg_modPort, (closureTests_pointsOnly _ _).seg, seg_withoutPort]

theorem resetPort_keeps :
    (s.resetPort p).trigs = s.trigs ∧ (s.resetPort p).supply = s.supply ∧
      (s.resetPort p).temperature = s.temperature ∧ (s.resetPort p).pending = s.pending ∧
      (s.resetPort p).inReset = s.inReset := by
  have kept := closureTests_pointsOnly (allPoints.filter (s.named p)) (s.withoutPort p)
  exact ⟨kept.trigs, kept.supply, kept.temperature, kept.pending, kept.inReset⟩

end

end Sys2Proof.Machine

/-! ### The obligation -/

namespace Sys2Proof

open Machine

/-- Settles O8: RESET_PORT is carried out on the accepted frame; what the frame changed at the calling port is set
again, and what it raised for the other port is PEER_RESUMED. -/
theorem resetPort : Obligations.ResetPort := by
  intro s p tag hears
  refine ⟨fun ps fits bad => ?_, (s.acceptFrame p).resetPort p, ?_, ?_, ?_, fun i => ?_, fun g => ?_, ?_⟩
  · exact command_answers ⟨hears, fits⟩ (if_pos (List.length_eq_zero_iff.not.mpr bad))
  · have takes : Takes s p [] := ⟨hears, Nat.zero_le _⟩
    exact command_takes takes
  · exact (port_resetPort_self _ p).trans (port_acceptFrame_reset s p)
  · exact (port_resetPort_other _ p).trans (port_acceptFrame_other s p)
  · refine (point_resetPort _ p i).trans ?_
    simp only [point_acceptFrame, named_acceptFrame]
    rfl
  · refine (seg_resetPort _ p g).trans ?_
    simp only [seg_acceptFrame, sched_acceptFrame]
    rfl
  · obtain ⟨trigs, supply, temperature, pending, inReset⟩ := resetPort_keeps (s.acceptFrame p) p
    have framed := acceptFrame_portsOnly s p
    exact ⟨trigs.trans framed.trigs, supply.trans framed.supply, temperature.trans framed.temperature,
      pending.trans framed.pending, inReset.trans framed.inReset⟩

end Sys2Proof
end

section
/-! PROOF. Rows and steps (R1, R147, R163, R174): what each row's command answers and what each row's event does, and
from them what one step can do. -/

namespace Sys2Proof.Machine

/-- The answer of a command row to the state of its accepted frame. RESET_DEVICE stands here as it is refused. -/
def answerOf : Instr → State → Answer
  | .noop _ _ ps => noop ps
  | .readIdentity _ _ ps => readIdentity ps
  | .setSupervision p _ ps => setSupervision p ps
  | .setRights p _ ps => setRights p ps
  | .readRights _ _ ps => readRights ps
  | .resetPort p _ ps => resetPort p ps
  | .resetDevice _ _ ps _ => fun t => refuse t (if ps.length ≠ 0 then .badParameter else .noRight)
  | .unknownCommand _ _ _ _ => fun t => refuse t .unknownCommand
  | .definePoint p _ ps => definePoint p ps
  | .retirePoint p _ ps e => retirePoint p ps e
  | .modifyPoint p _ ps e => modifyPoint p ps e
  | .listPoints p _ ps => listPoints p ps
  | .readPoint p _ ps => readPoint p ps
  | .readBlock p _ ps => readBlock p ps
  | .demandRead p _ ps e => demandRead p ps e
  | .setBand p _ ps => setBand p ps
  | .clearBand p _ ps => clearBand p ps
  | .setDeadband p _ ps => setDeadband p ps
  | .writePoint p _ ps e => writePoint p ps e
  | .cancelWrite p _ ps => cancelWrite p ps
  | .setSafeValue p _ ps => setSafeValue p ps
  | .configureScan p _ ps => configureScan p ps
  | .startScan p _ ps e => startScan p ps e
  | .stopScan p _ ps => stopScan p ps
  | .finishScan p _ ps => finishScan p ps
  | .fireTrigger p _ ps e => fireTrigger p ps e
  | .configureTriggerInput p _ ps => configureTriggerInput p ps
  | .configureLink p _ ps => configureLink p ps
  | .recoverLine p _ ps => recoverLine p ps
  | .readNodes p _ ps => readNodes p ps
  | .releaseNode p _ ps => releaseNode p ps
  | .configureTally p _ ps => configureTally p ps
  | .readTally p _ ps => readTally p ps
  | .configureFeed p _ ps => configureFeed p ps
  | .feedOn p _ ps => feedOn p ps
  | .feedOff p _ ps e => feedOff p ps e
  | .readFeeds p _ ps => readFeeds p ps
  | .subscribe p _ ps => subscribe p ps
  | .unsubscribe p _ ps => unsubscribe p ps
  | .takeAttention p _ ps => takeAttention p ps
  | .setNoticeMask p _ ps => setNoticeMask p ps
  | _ => fun t => accept t []

/-- What an event row does outside a device reset; the causes of a reset and RESET_EXIT are none of these. -/
def effectOf : Instr → State → State
  | .supervisionLapse p e => fun s => if (s.port p).supDue then s.lapse p e else s
  | .ageTick => fun s => ((s.mapPoints Point.tick).modPort .a PortUnit.tick).modPort .b PortUnit.tick
  | .staleExpiry i => fun s =>
    if (s.point i).life = .live ∧ (s.point i).expired = true then s.setQuality i .stale else s
  | .periodBoundary g e => fun s => if (s.sched g).periodTimer.isSome then s.boundary g e else s
  | .deferredStart g e => fun s => if (s.sched g).deferred then s.deferredStart g e else s
  | .triggerInputEdge t level e => fun s => if (s.trigs.get t).level = level then s else s.edge t level e
  | .requestSent g => fun s => s.requestSent g
  | .responseStartBit g => fun s => s.responseStart g
  | .responseWindowExpiry g e => fun s => s.windowExpiry g e
  | .responseFrameEnd g frame e => fun s => s.responseEnd g frame e
  | .tenthCharacter g e => fun s => s.tenthCharacter g e
  | .backoffExpiry g e => fun s => s.backoffExpiry g e
  | .idleWaitLineIdle g => fun s => s.idleWaitIdle g
  | .idleWaitExpiry g => fun s => s.idleWaitExpiry g
  | .transmitterCurrentLimit g => fun s => if (s.link g).driving then s.lineFault g else s
  | .gapEnd g e => fun s => if (s.link g).state = .gap then s.enterReady g e else s
  | .recoveryExpiry g e => fun s => s.recoveryExpiry g e
  | .recoveryLineIdle g => fun s => s.recoveryIdle g
  | .clampBegin g => fun s => s.modFeed g Feed.clampBegin
  | .clampEnd g => fun s => s.modFeed g Feed.clampEnd
  | .feedTrip g ticks low e => fun s => if (s.feed g).tripDue ticks low then s.feedTrips g e.order else s
  | .startTimerExpiry g e => fun s =>
    if (s.feed g).state = .starting ∧ (s.feed g).startTimer.isSome = true then s.feedSettles g e else s
  | .settleTimerExpiry g e => fun s =>
    if (s.feed g).state = .settling ∧ (s.feed g).settleTimer.isSome = true then s.feedEntersOn g e else s
  | .retryTimerExpiry g => fun s =>
    if (s.feed g).state = .tripped ∧ (s.feed g).retryTimer.isSome = true then
      s.modFeed g fun f => { f.start with retryTimer := none }
    else s
  | .supplyLevelChange mv e => fun s =>
    if s.supply.judge mv = s.supply then s else s.monitorChange (s.supply.judge mv) s.temperature .supply e.order
  | .temperatureLevelChange mc e => fun s =>
    if s.temperature.judge mc = s.temperature then s
    else s.monitorChange s.supply (s.temperature.judge mc) .thermal e.order
  | _ => id

/-- Rows whose meaning is more than a command's answer or an event's effect: RESET_DEVICE, the causes of a device reset
and its end, and the falling chip-select. -/
def Instr.apart : Instr → Bool
  | .resetDevice _ _ _ _ => true
  | .resetExit _ => true
  | .vddBrownout => true
  | .powerOn => true
  | .resetPin => true
  | .fetch _ .falls => true
  | _ => false

theorem exec_event {i : Instr} (row : portOfInstr i = none) (plain : Instr.apart i = false) (s : State) :
    exec i s = event (effectOf i) s := by
  cases i with
  | fetch p cs => cases cs <;> first | simp [portOfInstr] at row; done | simp [Instr.apart] at plain
  | _ => first | rfl | simp [portOfInstr] at row; done | simp [Instr.apart] at plain

theorem exec_command {i : Instr} {p : Port} {code tag : Byte} {ps : List Byte}
    (parts : commandParts i = some (p, code, tag, ps)) (plain : Instr.apart i = false)
    (unnamed : ∀ q c b xs, i = .unknownCommand q c b xs → c.toNat ∉ commandCodes) (s : State) :
    exec i s = command code p tag ps (answerOf i) s := by
  cases i <;> simp [Instr.apart, commandParts] at plain parts
  case unknownCommand q c b xs =>
    obtain ⟨rfl, rfl, rfl, rfl⟩ := parts
    exact if_neg (unnamed _ _ _ _ rfl)
  all_goals
    obtain ⟨rfl, rfl, rfl, rfl⟩ := parts
    rfl

/-! ### What one step can do -/

/-- Nothing changes but the queue and what a port holds beside its attention list and its rights. -/
structure Calm (s t : State) : Prop where
  inReset : t.inReset = s.inReset
  points : t.points = s.points
  segs : t.segs = s.segs
  trigs : t.trigs = s.trigs
  supply : t.supply = s.supply
  temperature : t.temperature = s.temperature
  attention : ∀ p, (t.port p).attention = (s.port p).attention
  rights : ∀ p, (t.port p).rights = (s.port p).rights
  device : ∀ p, (t.port p).device = (s.port p).device

theorem Calm.refl (s : State) : Calm s s :=
  ⟨rfl, rfl, rfl, rfl, rfl, rfl, fun _ => rfl, fun _ => rfl, fun _ => rfl⟩

theorem Calm.trans {s t u : State} (h : Calm s t) (k : Calm t u) : Calm s u :=
  ⟨k.inReset.trans h.inReset, k.points.trans h.points, k.segs.trans h.segs, k.trigs.trans h.trigs,
    k.supply.trans h.supply, k.temperature.trans h.temperature, fun p => (k.attention p).trans (h.attention p),
    fun p => (k.rights p).trans (h.rights p), fun p => (k.device p).trans (h.device p)⟩

theorem calm_pending (s : State) (l : List Instr) : Calm s { s with pending := l } :=
  ⟨rfl, rfl, rfl, rfl, rfl, rfl, fun _ => rfl, fun _ => rfl, fun _ => rfl⟩

theorem calm_modPort {f : PortUnit → PortUnit} (s : State) (p : Port)
    (keeps : ∀ u, (f u).attention = u.attention ∧ (f u).rights = u.rights ∧ (f u).device = u.device := by
      exact fun _ => ⟨rfl, rfl, rfl⟩) : Calm s (s.modPort p f) := by
  have kept (q : Port) : ((s.modPort p f).port q).attention = (s.port q).attention ∧
      ((s.modPort p f).port q).rights = (s.port q).rights ∧ ((s.modPort p f).port q).device = (s.port q).device := by
    rw [port_modPort]
    split
    · next same => exact same ▸ keeps _
    · exact ⟨rfl, rfl, rfl⟩
  exact ⟨rfl, rfl, rfl, rfl, rfl, rfl, fun q => (kept q).1, fun q => (kept q).2.1, fun q => (kept q).2.2⟩

theorem calm_selectRises (s : State) (p : Port) : Calm s (s.selectRises p) :=
  calm_modPort s p

theorem calm_shiftOut (s : State) (p : Port) (bytes : List Byte) : Calm s (s.shiftOut p bytes) :=
  calm_modPort s p

theorem calm_putReply (s : State) (p : Port) (r : Reply) : Calm s (s.putReply p r) :=
  calm_modPort s p

theorem calm_fetch (s : State) (p : Port) (n : Nat) : Calm s (s.fetch p n) := by
  unfold State.fetch
  dsimp only
  split
  · exact (calm_shiftOut s p _).trans (calm_modPort _ p)
  · exact calm_shiftOut s p _

/-- Every block at its reset values, but for what the outside gives: the queue, the monitor's levels and the trigger
levels, and what a port holds beside its list and its rights. -/
structure ResetDone (t : State) : Prop where
  points : t.points = State.reset.points
  segs : t.segs = State.reset.segs
  attention : ∀ p, (t.port p).attention = []
  device : ∀ p, (t.port p).device = (State.reset.port p).device

theorem resetDone_holdReset (s : State) : ResetDone s.holdReset :=
  ⟨rfl, rfl, fun p => by cases p <;> rfl, fun p => by cases p <;> rfl⟩

theorem resetDone_afterReset (s : State) (x : Samples) : ResetDone (s.afterReset x) :=
  ⟨rfl, rfl, fun p => by cases p <;> rfl, fun p => by cases p <;> rfl⟩

theorem ResetDone.calm {s t : State} (h : ResetDone s) (k : Calm s t) : ResetDone t :=
  ⟨k.points.trans h.points, k.segs.trans h.segs, fun p => (k.attention p).trans (h.attention p),
    fun p => (k.device p).trans (h.device p)⟩

/-- What a step does, up to the queue and the ports' own fields: nothing, an answer to an accepted frame, an event's
effect, or a device reset. -/
inductive Course (s t : State) : Prop
  | calm (h : Calm s t)
  | answers (i : Instr) (p : Port) (u : State) (before : Calm s u)
      (after : Calm (answerOf i (u.acceptFrame p)).state t)
  | effect (i : Instr) (u : State) (before : Calm s u) (after : t = effectOf i u)
  | reset (h : ResetDone t)

theorem Course.after_calm {s u t : State} (h : Calm s u) : Course u t → Course s t
  | .calm k => .calm (h.trans k)
  | .answers i p v before after => .answers i p v (h.trans before) after
  | .effect i v before after => .effect i v (h.trans before) after
  | .reset k => .reset k

theorem course_transfer {p : Port} {body : State → State} {s t : State} (h : transfer p body s = .next t)
    (taken : ∀ u, Calm (body s) u → Course s u) : Course s t := by
  cases h
  split
  · exact taken _ (calm_selectRises _ p)
  · exact .calm (calm_selectRises s p)

theorem course_command {i : Instr} {code : Byte} {p : Port} {tag : Byte} {ps : List Byte} {s t : State}
    (h : command code p tag ps (answerOf i) s = .next t) : Course s t := by
  unfold command at h
  split at h
  · cases h
    exact .calm (.refl s)
  · exact course_transfer h fun u k =>
      .answers i p s (.refl s) (((calm_putReply _ p _).trans (calm_shiftOut _ p _)).trans k)

theorem course_event {i : Instr} {s t : State} (h : event (effectOf i) s = .next t) : Course s t := by
  unfold event at h
  split at h
  · cases h
    exact .calm (.refl s)
  · cases h
    exact .effect i s (.refl s) rfl

theorem course_frameRejected {p : Port} {bytes : List Byte} {s t : State}
    (h : execFrameRejected p bytes s = .next t) : Course s t := by
  unfold execFrameRejected at h
  split at h
  · refine course_transfer h fun u k => .calm (Calm.trans ?_ k)
    split
    · exact (calm_putReply s p _).trans (calm_shiftOut _ p _)
    · exact .refl s
  · cases h
    exact .calm (.refl s)

theorem calm_selectFalls (s : State) (p : Port) : Calm s (s.selectFalls p) :=
  calm_modPort s p

theorem course_fetch {p : Port} {cs : ChipSelect} {s t : State} (h : execFetch p cs s = .next t) : Course s t := by
  cases cs with
  | falls =>
    cases h
    exact .calm (calm_selectFalls s p)
  | rises n =>
    have h : transfer p (fun s => if n = 0 then s else s.fetch p n) s = .next t := h
    refine course_transfer h fun u k => .calm (Calm.trans ?_ k)
    split
    · exact .refl s
    · exact calm_fetch s p n

theorem course_resetDevice {p : Port} {tag : Byte} {ps : List Byte} {x : Samples} {s t : State}
    (h : execResetDevice p tag ps x s = .next t) : Course s t := by
  unfold execResetDevice at h
  split at h
  · cases h
    exact .reset ((resetDone_afterReset _ x).calm (calm_shiftOut _ p _))
  · exact course_command (i := .resetDevice p tag ps x) h

theorem course_unknownCommand {p : Port} {code tag : Byte} {ps : List Byte} {s t : State}
    (h : execUnknownCommand p code tag ps s = .next t) : Course s t := by
  unfold execUnknownCommand at h
  split at h
  · cases h
    exact .calm (.refl s)
  · exact course_command (i := .unknownCommand p code tag ps) h

theorem exec_course {i : Instr} {s t : State} (h : exec i s = .next t) : Course s t := by
  by_cases plain : Instr.apart i = false
  · by_cases unknown : ∃ q c b xs, i = .unknownCommand q c b xs
    · obtain ⟨q, c, b, xs, rfl⟩ := unknown
      exact course_unknownCommand h
    · cases parts : commandParts i with
      | some row =>
        obtain ⟨p, code, tag, ps⟩ := row
        rw [exec_command parts plain fun q c b xs same => absurd ⟨q, c, b, xs, same⟩ unknown] at h
        exact course_command h
      | none =>
        cases row : portOfInstr i with
        | none =>
          rw [exec_event row plain] at h
          exact course_event h
        | some p =>
          cases i with
          | frameRejected q bytes => exact course_frameRejected h
          | fetch q cs => exact course_fetch h
          | _ => first | simp [commandParts] at parts; done | simp [portOfInstr] at row
  · cases i with
    | resetDevice p tag ps x => exact course_resetDevice h
    | resetExit x =>
      cases h
      split
      · exact .reset (resetDone_afterReset s x)
      · exact .calm (.refl s)
    | vddBrownout | powerOn | resetPin =>
      cases h
      exact .reset (resetDone_holdReset s)
    | fetch q cs => exact course_fetch h
    | _ => exact absurd rfl plain

theorem step_course {s t : State} (h : step s = .next t) : Course s t := by
  unfold step at h
  split at h
  · cases h
    exact .calm (.refl s)
  · exact (exec_course h).after_calm (calm_pending s _)

/-- A predicate that every answer and every effect keeps, that no calm change touches and that a device reset
establishes is kept by every step. -/
theorem Course.keeps {P : State → Prop} {s t : State} (c : Course s t) (calm : ∀ s t, Calm s t → P s → P t)
    (frame : ∀ s p, P s → P (s.acceptFrame p)) (answer : ∀ i s, P s → P (answerOf i s).state)
    (effect : ∀ i s, P s → P (effectOf i s)) (reset : ∀ t, ResetDone t → P t) (h : P s) : P t := by
  cases c with
  | calm k => exact calm s t k h
  | answers i p u before after => exact calm _ t after (answer i _ (frame u p (calm s u before h)))
  | effect i u before after => exact after ▸ effect i u (calm s u before h)
  | reset k => exact reset t k

end Sys2Proof.Machine
end

section
/-! PROOF. What every block keeps (R8, R14, R73 to R76, R95, R107, R120, R152, R166): one relation between a state and a
later one that carries all the invariants, and the updates that the blocks are made of. -/

namespace Sys2Proof.Machine

/-! ### The laws in parts -/

/-- A scan list names LIVE points of its segment, each once, and its cursor is one of them or END. -/
def ListsOwn (s : State) : Prop :=
  ∀ g, (s.sched g).list.Nodup ∧ (∀ i ∈ (s.sched g).list, (s.point i).life = .live ∧ (s.point i).seg = g) ∧
    ∀ i, (s.sched g).cursor = some i → i ∈ (s.sched g).list

/-- A demand queue names LIVE points of its segment, each once (R95). -/
def QueuesOwn (s : State) : Prop :=
  ∀ g, ((s.sched g).queue.map DemandEntry.point).Nodup ∧
    ∀ i ∈ (s.sched g).queue.map DemandEntry.point, (s.point i).life = .live ∧ (s.point i).seg = g

/-- Where the exchange's target is in use, it is a point of the segment at the exchange's node. -/
def Aimed (s : State) (g : Seg) (x : Exchange) : Prop :=
  (s.point x.target).inUse → (s.point x.target).seg = g ∧ (s.point x.target).node = x.node

/-- Every exchange in flight is aimed at its segment and node. -/
def AllAimed (s : State) : Prop := ∀ g x, (s.link g).exchange = some x → Aimed s g x

/-- The segment's exchange in flight serves a point in use. -/
def Engaged (s : State) (g : Seg) : Prop := ∀ x, (s.link g).exchange = some x → (s.point x.target).inUse

/-- While the segment's feed is not ON, its link is OFF, its queue empty and its scan quiet. -/
def Asleep (s : State) (g : Seg) : Prop :=
  (s.feed g).state ≠ .on → (s.link g).state = .off ∧ (s.sched g).queue = [] ∧ (s.sched g).scan.quiet

/-- While the segment's feed is not ON, its LIVE points are UNPOWERED. -/
def Dark (s : State) (g : Seg) : Prop :=
  (s.feed g).state ≠ .on → ∀ i, (s.point i).life = .live → (s.point i).seg = g → (s.point i).quality = .unpowered

theorem listsOwn_of_sound {s : State} (h : ScanListsSound s) : ListsOwn s := fun g => by
  obtain ⟨once, members, cursor⟩ := h g
  exact ⟨once, fun i => (members i).mp, cursor⟩

theorem segmentLaw_iff (s : State) :
    SegmentLaw s ↔ QueuesOwn s ∧ AllAimed s ∧ (∀ g, Engaged s g) ∧ ∀ g, Asleep s g ∧ Dark s g := by
  constructor
  · intro law
    refine ⟨fun g => ?_, fun g x hx _ => ?_, fun g x hx => ?_, fun g => ⟨fun off => ?_, fun off => ?_⟩⟩
    · obtain ⟨once, own, -, -⟩ := law g
      exact ⟨once, fun i hi => by
        obtain ⟨d, hd, rfl⟩ := List.mem_map.mp hi
        exact own d hd⟩
    · obtain ⟨-, -, serves, -⟩ := law g
      obtain ⟨seg, node, -⟩ := serves x hx
      exact ⟨seg, node⟩
    · obtain ⟨-, -, serves, -⟩ := law g
      obtain ⟨-, -, used⟩ := serves x hx
      exact used
    · obtain ⟨-, -, -, quiet⟩ := law g
      obtain ⟨link, queue, scan, -⟩ := quiet off
      exact ⟨link, queue, scan⟩
    · obtain ⟨-, -, -, quiet⟩ := law g
      obtain ⟨-, -, -, dark⟩ := quiet off
      exact dark
  · rintro ⟨queues, aimed, engaged, rest⟩ g
    obtain ⟨asleep, dark⟩ := rest g
    refine ⟨(queues g).1, fun d hd => (queues g).2 _ (List.mem_map_of_mem hd), fun x hx => ?_, fun off => ?_⟩
    · obtain ⟨seg, node⟩ := aimed g x hx (engaged g x hx)
      exact ⟨seg, node, engaged g x hx⟩
    · obtain ⟨link, queue, scan⟩ := asleep off
      exact ⟨link, queue, scan, dark off⟩

/-! ### The relation -/

/-- What a change is allowed: what it may assume of the laws, the segments whose state and points it may change, those
whose exchange may lose its target, and those whose demand queue may get new entries. -/
structure Scope where
  assume : Prop
  reach : Seg → Prop
  close : Seg → Prop
  join : Seg → Prop

/-- From `s` to `t`, every invariant that held still holds; scan lists, and which points are LIVE, do not change, and a
point in use keeps its place. -/
structure Steady (c : Scope) (s t : State) : Prop where
  device : ∀ p, (t.port p).device = (s.port p).device
  merged : ListsMerged s → ListsMerged t
  fit : QueuesFit s → QueuesFit t
  counts : SchedCounts s → SchedCounts t
  list : ∀ g, (t.sched g).list = (s.sched g).list
  live : ∀ i, (t.point i).life = .live ↔ (s.point i).life = .live
  place : ∀ i, (t.point i).inUse →
    (s.point i).inUse ∧ (t.point i).seg = (s.point i).seg ∧ (t.point i).node = (s.point i).node
  lists : ListsOwn s → ListsOwn t
  nodes : ListsOwn s → NodeCounts s → NodeCounts t
  queues : c.assume → QueuesOwn s → QueuesOwn t
  aimed : c.assume → ListsOwn s → QueuesOwn s → AllAimed s → AllAimed t
  engaged : c.assume → ListsOwn s → QueuesOwn s → AllAimed s → ∀ g, ¬ c.close g → Engaged s g → Engaged t g
  seg : c.assume → ListsOwn s → QueuesOwn s → ∀ g, ¬ c.reach g → t.seg g = s.seg g
  point : c.assume → ListsOwn s → QueuesOwn s → ∀ i, ¬ c.reach (s.point i).seg → t.point i = s.point i
  joins : ∀ g, ¬ c.join g → (t.sched g).queue.map DemandEntry.point ⊆ (s.sched g).queue.map DemandEntry.point
  target : ∀ g, ¬ c.join g → ∀ y, (t.link g).exchange = some y →
    (∃ x, (s.link g).exchange = some x ∧ y.target = x.target) ∨ y.target ∈ (s.sched g).list ∨
      y.target ∈ (s.sched g).queue.map DemandEntry.point

section
variable {c : Scope} {g : Seg}

theorem Steady.refl (s : State) : Steady c s s where
  device _ := rfl
  merged := id
  fit := id
  counts := id
  list _ := rfl
  live _ := Iff.rfl
  place _ h := ⟨h, rfl, rfl⟩
  lists := id
  nodes _ := id
  queues _ := id
  aimed _ _ _ := id
  engaged _ _ _ _ _ _ := id
  seg _ _ _ _ _ := rfl
  point _ _ _ _ _ := rfl
  joins _ _ := fun _ => id
  target _ _ y h := .inl ⟨y, h, rfl⟩

theorem Steady.trans {s t u : State} (h : Steady c s t) (k : Steady c t u) : Steady c s u where
  device p := (k.device p).trans (h.device p)
  merged := k.merged ∘ h.merged
  fit := k.fit ∘ h.fit
  counts := k.counts ∘ h.counts
  list g := (k.list g).trans (h.list g)
  live i := (k.live i).trans (h.live i)
  place i used := by
    obtain ⟨used, seg, node⟩ := k.place i used
    obtain ⟨used, seg', node'⟩ := h.place i used
    exact ⟨used, seg.trans seg', node.trans node'⟩
  lists := k.lists ∘ h.lists
  nodes l n := k.nodes (h.lists l) (h.nodes l n)
  queues a q := k.queues a (h.queues a q)
  aimed a l q m := k.aimed a (h.lists l) (h.queues a q) (h.aimed a l q m)
  engaged a l q m g hg b :=
    k.engaged a (h.lists l) (h.queues a q) (h.aimed a l q m) g hg (h.engaged a l q m g hg b)
  seg a l q g hg := (k.seg a (h.lists l) (h.queues a q) g hg).trans (h.seg a l q g hg)
  point a l q i hi := by
    have same := h.point a l q i hi
    rw [k.point a (h.lists l) (h.queues a q) i (same ▸ hi), same]
  joins g hg := fun _ hi => h.joins g hg (k.joins g hg hi)
  target g hg y hy := by
    rcases k.target g hg y hy with ⟨x, hx, same⟩ | listed | queued
    · rw [same]
      exact h.target g hg x hx
    · exact .inr (.inl (h.list g ▸ listed))
    · exact .inr (.inr (h.joins g hg queued))

/-- A change that is made or not. -/
theorem Steady.ite {s t : State} {p : Prop} [Decidable p] (h : p → Steady c s t) :
    Steady c s (if p then t else s) := by
  split
  · next made => exact h made
  · exact .refl s

/-- Changes in turn, each steady wherever the ones before it have led. -/
theorem steady_foldl {α : Type} {op : State → α → State} {l : List α} {s : State}
    (h : ∀ a ∈ l, ∀ t, Steady c s t → Steady c t (op t a)) : Steady c s (l.foldl op s) :=
  List.foldlRecOn l op (.refl s) fun t ht a ha => ht.trans (h a ha t ht)

/-- A target stays aimed at. -/
theorem Steady.stays {s t : State} (h : Steady c s t) {x : Exchange} (m : Aimed s g x) : Aimed t g x := fun used => by
  obtain ⟨used, seg, node⟩ := h.place _ used
  rw [seg, node]
  exact m used

/-! ### Updates that keep every place -/

/-- Life, segment and node of a record are as they were. -/
structure Point.Kept (t u : Point) : Prop where
  life : u.life = t.life
  seg : u.seg = t.seg
  node : u.node = t.node

theorem Point.Kept.refl (t : Point) : t.Kept t := ⟨rfl, rfl, rfl⟩

theorem Point.Kept.trans {t u v : Point} (h : t.Kept u) (k : u.Kept v) : t.Kept v :=
  ⟨k.life.trans h.life, k.seg.trans h.seg, k.node.trans h.node⟩

theorem Point.Kept.inUse {t u : Point} (h : t.Kept u) : u.inUse ↔ t.inUse := by
  simp only [Point.inUse, h.life]

/-- The list is as it was, the cursor moves only along it, entries only leave the queue, and the counts stay in their
ranges. -/
structure Scheduler.Kept (c d : Scheduler) : Prop where
  list : d.list = c.list
  cursor : ∀ i, d.cursor = some i → c.cursor = some i ∨ i ∈ c.list
  queue : (d.queue.map DemandEntry.point).Sublist (c.queue.map DemandEntry.point)
  cyclesEnded : c.cyclesEnded ≤ Config.countMax → d.cyclesEnded ≤ Config.countMax
  overruns : c.overruns ≤ Config.countMax → d.overruns ≤ Config.countMax
  backToBack : c.backToBack ≤ Config.backToBackMax → d.backToBack ≤ Config.backToBackMax

theorem Scheduler.Kept.refl (c : Scheduler) : c.Kept c := ⟨rfl, fun _ => .inl, .refl _, id, id, id⟩

/-- The count of points is as it was, and IDLE stays what it is. -/
structure NodeRec.Kept (m n : NodeRec) : Prop where
  refs : n.refs = m.refs
  idle : n.state = .idle ↔ m.state = .idle
  clear : m.state = .idle → m.failures = 0 ∧ m.probe = false → n.failures = 0 ∧ n.probe = false

theorem NodeRec.Kept.refl (n : NodeRec) : n.Kept n := ⟨rfl, Iff.rfl, fun _ => id⟩

theorem NodeCounts.kept {s t : State} (points : ∀ i, (s.point i).Kept (t.point i))
    (nodes : ∀ g n, (s.node g n).Kept (t.node g n)) (h : NodeCounts s) : NodeCounts t := by
  have counted (i : PointIdx) :
      ((t.point i).life = .live ∨ (t.point i).life = .retiring) =
        ((s.point i).life = .live ∨ (s.point i).life = .retiring) := by rw [(points i).life]
  obtain ⟨records, full⟩ := h
  refine ⟨fun g n => ?_, fun g => ?_⟩
  · obtain ⟨refs, idle, clear⟩ := records g n
    simp only [counted, (points _).seg, (points _).node, (nodes g n).refs, (nodes g n).idle]
    exact ⟨refs, idle, fun h => (nodes g n).clear h (clear h)⟩
  · simp only [counted, (points _).seg]
    exact full g

/-- An update that keeps the place of every point. A link may get an exchange only with a point of its segment's list or
queue, at that point's node. -/
theorem steady_of_kept {s t : State} (device : ∀ p, (t.port p).device = (s.port p).device)
    (merged : ListsMerged s → ListsMerged t) (points : ∀ i, (s.point i).Kept (t.point i))
    (scheds : ∀ h, (s.sched h).Kept (t.sched h))
    (links : ∀ h y, (t.link h).exchange = some y →
      (∃ x, (s.link h).exchange = some x ∧ y.target = x.target ∧ y.node = x.node) ∨
      (y.target ∈ (s.sched h).list ∨ y.target ∈ (s.sched h).queue.map DemandEntry.point) ∧
        y.node = (s.point y.target).node)
    (nodes : ListsOwn s → NodeCounts s → ∀ h n, (s.node h n).Kept (t.node h n))
    (seg : c.assume → ListsOwn s → QueuesOwn s → ∀ h, ¬ c.reach h → t.seg h = s.seg h)
    (point : c.assume → ListsOwn s → QueuesOwn s → ∀ i, ¬ c.reach (s.point i).seg → t.point i = s.point i) :
    Steady c s t where
  device := device
  merged := merged
  fit h g := by
    have le := (scheds g).queue.length_le
    simp only [List.length_map] at le
    exact le.trans (h g)
  counts h g := by
    obtain ⟨cycles, overruns, back⟩ := h g
    exact ⟨(scheds g).cyclesEnded cycles, (scheds g).overruns overruns, (scheds g).backToBack back⟩
  list g := (scheds g).list
  live i := by rw [(points i).life]
  place i used := ⟨(points i).inUse.mp used, (points i).seg, (points i).node⟩
  lists h g := by
    obtain ⟨once, own, cursor⟩ := h g
    rw [(scheds g).list]
    refine ⟨once, fun i hi => ?_, fun i hi => ((scheds g).cursor i hi).elim (cursor i) id⟩
    rw [(points i).life, (points i).seg]
    exact own i hi
  nodes l := fun h => h.kept points (nodes l h)
  queues _ h g := by
    obtain ⟨once, own⟩ := h g
    refine ⟨once.sublist (scheds g).queue, fun i hi => ?_⟩
    rw [(points i).life, (points i).seg]
    exact own i ((scheds g).queue.subset hi)
  aimed _ l q h g y hy used := by
    rw [(points _).seg, (points _).node]
    rcases links g y hy with ⟨x, hx, target, node⟩ | ⟨listed | queued, node⟩
    · rw [target, node]
      exact h g x hx (target ▸ (points _).inUse.mp used)
    · exact ⟨((l g).2.1 _ listed).2, node.symm⟩
    · exact ⟨((q g).2 _ queued).2, node.symm⟩
  engaged _ l q _ g _ h y hy := by
    rw [(points _).inUse]
    rcases links g y hy with ⟨x, hx, target, -⟩ | ⟨listed | queued, -⟩
    · exact target ▸ h x hx
    · exact .inl ((l g).2.1 _ listed).1
    · exact .inl ((q g).2 _ queued).1
  seg := seg
  point := point
  joins g _ := (scheds g).queue.subset
  target g _ y hy := (links g y hy).imp (fun ⟨x, hx, same, _⟩ => ⟨x, hx, same⟩) And.left

end

end Sys2Proof.Machine
end

section
/-! PROOF. The single updates that the blocks are made of, as steady changes: notices, a record, a segment's blocks, a new
demand entry, a grant, and the closure of a RETIRING point. -/

namespace Sys2Proof.Machine

theorem node_modNode (s : State) (g h : Seg) (n m : NodeIdx) (f : NodeRec → NodeRec) :
    (s.modNode g n f).node h m = if h = g ∧ m = n then f (s.node h m) else s.node h m := by
  by_cases hg : h = g
  · subst hg
    by_cases hn : m = n
    · subst hn
      simp
    · have ne : n.val ≠ m.val := fun e => hn (Fin.ext e.symm)
      rw [if_neg fun both => hn both.2, State.node, State.modNode, seg_modSeg_same, Vector.getElem_set_ne _ _ ne]
      rfl
  · rw [if_neg fun both => hg both.1, State.node, State.modNode, seg_modSeg, if_neg hg]
    rfl

/-! ### Notices (R152) -/

/-- Only attention lists change, and each still holds at most one entry for a thing. -/
structure Notices (s t : State) : Prop extends NoticesOnly s t where
  merged : ListsMerged s → ListsMerged t

theorem Notices.refl (s : State) : Notices s s := ⟨.refl s, id⟩

theorem Notices.trans {s t u : State} (h : Notices s t) (k : Notices t u) : Notices s u :=
  ⟨h.toNoticesOnly.trans k.toNoticesOnly, k.merged ∘ h.merged⟩

theorem Notices.ite {s t : State} {p : Prop} [Decidable p] (h : Notices s t) : Notices s (if p then t else s) := by
  split
  · exact h
  · exact .refl s

theorem notices_merge {same : Entry → Bool} {add : Entry → Entry} {fresh : Entry}
    (names : ∀ e, same e = true ↔ e.thing = fresh.thing) (keeps : ∀ e, (add e).thing = e.thing) (s : State)
    (p : Port) : Notices s (s.modPort p fun u => { u with attention := mergeEntry same add fresh u.attention }) := by
  refine ⟨noticesOnly_list s p _, fun h q => ?_⟩
  rw [attention_modPort]
  split
  · exact nodup_mergeEntry _ names keeps (h q)
  · exact h q

theorem isPoint_iff_thing (i : PointIdx) (gen : Byte) (e : Entry) :
    e.isPoint i gen = true ↔ e.thing = .point i gen := by
  cases e <;> simp [Entry.isPoint, Entry.thing]

theorem isSegment_iff_thing (g : Seg) (e : Entry) : e.isSegment g = true ↔ e.thing = .segment g := by
  cases e <;> simp [Entry.isSegment, Entry.thing]

theorem isDevice_iff_thing (e : Entry) : e.isDevice = true ↔ e.thing = .device := by
  cases e <;> simp [Entry.isDevice, Entry.thing]

theorem notices_notePoint (s : State) (p : Port) (i : PointIdx) (r : PointReason) : Notices s (s.notePoint p i r) :=
  notices_merge (fun e => isPoint_iff_thing i _ e) (fun e => by cases e <;> rfl) s p

theorem notices_raisePoint (s : State) (i : PointIdx) (r : PointReason) (dst : PortSet) :
    Notices s (s.raisePoint i r dst) :=
  (Notices.ite (notices_notePoint s .a i r)).trans (.ite (notices_notePoint _ .b i r))

theorem notices_noteSeg (s : State) (p : Port) (g : Seg) (r : SegReason) : Notices s (s.noteSeg p g r) :=
  .ite (notices_merge (fun e => isSegment_iff_thing g e) (fun e => by cases e <;> rfl) s p)

theorem notices_raiseSeg (s : State) (g : Seg) (r : SegReason) : Notices s (s.raiseSeg g r) :=
  (notices_noteSeg s .a g r).trans (notices_noteSeg _ .b g r)

theorem notices_raiseDev (s : State) (p : Port) (r : DevReason) : Notices s (s.raiseDev p r) :=
  .ite (notices_merge (fun e => isDevice_iff_thing e) (fun e => by cases e <;> rfl) s p)

theorem notices_raiseWrite (s : State) (i : PointIdx) (r : WriteResult) (w : Writer) :
    Notices s (s.raiseWrite i r w) := notices_raisePoint s i _ _

theorem NoticesOnly.device {s t : State} (h : NoticesOnly s t) (p : Port) : (t.port p).device = (s.port p).device :=
  (PortUnit.mk.inj (h.ports p)).2.2.2.2.2.2.2.2.2.2.1

/-! ### Changes of one record -/

/-- One record changes and keeps its place; beside it only attention lists change. -/
structure Tells (i : PointIdx) (s t : State) : Prop where
  device : ∀ p, (t.port p).device = (s.port p).device
  merged : ListsMerged s → ListsMerged t
  segs : t.segs = s.segs
  others : ∀ j, j ≠ i → t.point j = s.point j
  kept : (s.point i).Kept (t.point i)

section
variable {i : PointIdx}

theorem Tells.refl (s : State) : Tells i s s := ⟨fun _ => rfl, id, rfl, fun _ _ => rfl, .refl _⟩

theorem Tells.trans {s t u : State} (h : Tells i s t) (k : Tells i t u) : Tells i s u :=
  ⟨fun p => (k.device p).trans (h.device p), k.merged ∘ h.merged, k.segs.trans h.segs,
    fun j hj => (k.others j hj).trans (h.others j hj), h.kept.trans k.kept⟩

theorem Tells.ite {s t : State} {p : Prop} [Decidable p] (h : Tells i s t) : Tells i s (if p then t else s) := by
  split
  · exact h
  · exact .refl s

theorem Notices.tells {s t : State} (h : Notices s t) : Tells i s t :=
  ⟨h.device, h.merged, h.segs, fun j _ => h.point j, h.point i ▸ .refl _⟩

theorem tells_modPoint {f : Point → Point} (s : State)
    (kept : ∀ t : Point, t.Kept (f t) := by exact fun _ => ⟨rfl, rfl, rfl⟩) : Tells i s (s.modPoint i f) :=
  ⟨fun _ => rfl, id, rfl, fun _ hj => point_modPoint_ne s f hj, (point_modPoint_same s i f).symm ▸ kept _⟩

theorem tells_raisePoint (s : State) (r : PointReason) (dst : PortSet) : Tells i s (s.raisePoint i r dst) :=
  (notices_raisePoint s i r dst).tells

theorem tells_raiseWrite (s : State) (r : WriteResult) (w : Writer) : Tells i s (s.raiseWrite i r w) :=
  (notices_raiseWrite s i r w).tells

theorem tells_setQuality (s : State) (q : Quality) : Tells i s (s.setQuality i q) := by
  unfold State.setQuality
  split
  · exact .refl s
  · exact (tells_modPoint s).trans (tells_raisePoint _ _ _)

theorem tells_judgeChange (s : State) (old : Option Int) (v : Int) : Tells i s (s.judgeChange i old v) :=
  .ite ((tells_modPoint s).trans (tells_raisePoint _ _ _))

theorem tells_judgeBand (s : State) (v : Int) : Tells i s (s.judgeBand i v) := by
  unfold State.judgeBand
  split
  · exact .refl s
  · exact (tells_modPoint s).trans (.ite (tells_raisePoint _ _ _))

theorem tells_evaluate (s : State) (old : Option Int) (v : Int) : Tells i s (s.evaluate i old v) :=
  (tells_judgeChange s old v).trans (tells_judgeBand _ v)

theorem tells_readOk (s : State) (v : Int) : Tells i s (s.readOk i v) := by
  unfold State.readOk
  dsimp only
  split
  · split
    · exact (tells_modPoint s).trans (tells_setQuality _ _)
    · exact (tells_modPoint s).trans (tells_setQuality _ _)
  · exact ((tells_modPoint s).trans (tells_setQuality _ _)).trans (tells_evaluate _ _ _)
  · exact ((tells_modPoint s).trans (tells_setQuality _ _)).trans (tells_evaluate _ _ _)

theorem tells_deliver (s : State) : Tells i s (s.deliver i) := by
  unfold State.deliver
  dsimp only
  split
  · exact .refl s
  · exact (((tells_modPoint s).trans (tells_setQuality _ _)).trans (tells_evaluate _ _ _)).trans
      (tells_raiseWrite _ _ _)

theorem tells_writeRefused (s : State) : Tells i s (s.writeRefused i) := by
  unfold State.writeRefused
  split
  · exact .refl s
  · exact (tells_modPoint s).trans (tells_raiseWrite _ _ _)

theorem tells_outcomeRetiring (s : State) (o : ExchangeOutcome) : Tells i s (s.outcomeRetiring i o) := by
  unfold State.outcomeRetiring
  dsimp only
  split
  · exact .refl s
  · exact (tells_modPoint s).trans (tells_raisePoint _ _ _)

theorem tells_tellDemanders (s : State) (o : DemandOutcome) : Tells i s (s.tellDemanders i o) :=
  .ite ((tells_raisePoint s _ _).trans (tells_modPoint _))

theorem tells_placeValue (s : State) (f : Slot) : Tells i s (s.placeValue i f) := by
  unfold State.placeValue
  split
  · exact (tells_modPoint s).trans (tells_raiseWrite _ _ _)
  · exact tells_modPoint s

end

/-! ### Updates as steady changes -/

section
variable {c : Scope} {g : Seg}

theorem Notices.steady {s t : State} (h : Notices s t) : Steady c s t :=
  steady_of_kept h.device h.merged (fun i => h.point i ▸ .refl _) (fun g => h.sched g ▸ .refl _)
    (fun g y hy => .inl ⟨y, h.link g ▸ hy, rfl, rfl⟩) (fun _ _ g n => h.node g n ▸ .refl _)
    (fun _ _ _ g _ => h.seg g) fun _ _ _ i _ => h.point i

theorem Tells.steady {s t : State} {i : PointIdx} (h : Tells i s t)
    (within : c.assume → ListsOwn s → QueuesOwn s → c.reach (s.point i).seg) : Steady c s t := by
  have seg (g : Seg) : t.seg g = s.seg g := congrArg (·.get g) h.segs
  refine steady_of_kept h.device h.merged (fun j => ?_) (fun g => ?_) (fun g y hy => .inl ⟨y, ?_, rfl, rfl⟩)
    (fun _ _ g n => ?_) (fun _ _ _ g _ => seg g) fun a l q j hj => ?_
  · by_cases same : j = i
    · exact same ▸ h.kept
    · exact h.others j same ▸ .refl _
  · rw [State.sched, State.sched, seg]
    exact .refl _
  · rwa [State.link, seg] at hy
  · rw [State.node, State.node, seg]
    exact .refl _
  · exact h.others j fun same => hj (same ▸ within a l q)

theorem steady_mapPoints {f : Point → Point} (s : State) (kept : ∀ t : Point, t.Kept (f t))
    (within : c.assume → ∀ t : Point, ¬ c.reach t.seg → f t = t) : Steady c s (s.mapPoints f) :=
  steady_of_kept (fun _ => rfl) id (fun i => (point_mapPoints s f i).symm ▸ kept _) (fun _ => .refl _)
    (fun _ y hy => .inl ⟨y, hy, rfl, rfl⟩) (fun _ _ _ _ => .refl _) (fun _ _ _ _ _ => rfl)
    fun a _ _ i hi => (point_mapPoints s f i).trans (within a _ hi)

/-- An update of one segment. -/
theorem steady_modSeg (hg : c.reach g) {f : Segment → Segment} {s : State}
    (sched : (s.sched g).Kept (f (s.seg g)).sched)
    (link : ∀ y, (f (s.seg g)).link.exchange = some y →
      (∃ x, (s.link g).exchange = some x ∧ y.target = x.target ∧ y.node = x.node) ∨
      (y.target ∈ (s.sched g).list ∨ y.target ∈ (s.sched g).queue.map DemandEntry.point) ∧
        y.node = (s.point y.target).node)
    (nodes : ListsOwn s → NodeCounts s → ∀ n : NodeIdx, (s.node g n).Kept (f (s.seg g)).nodes[n.val]) :
    Steady c s (s.modSeg g f) := by
  have read (h : Seg) : (s.modSeg g f).seg h = f (s.seg g) ∧ h = g ∨ (s.modSeg g f).seg h = s.seg h ∧ h ≠ g := by
    rw [seg_modSeg]
    by_cases same : h = g
    · simp [same]
    · simp [same]
  refine steady_of_kept (fun _ => rfl) id (fun _ => .refl _) (fun h => ?_) (fun h y hy => ?_) (fun l k h n => ?_)
    (fun _ _ _ h hh => ?_) fun _ _ _ _ _ => rfl
  · rcases read h with ⟨at_g, rfl⟩ | ⟨off_g, -⟩
    · rw [State.sched, State.sched, at_g]
      exact sched
    · rw [State.sched, State.sched, off_g]
      exact .refl _
  · rcases read h with ⟨at_g, rfl⟩ | ⟨off_g, -⟩
    · rw [State.link, at_g] at hy
      exact link y hy
    · rw [State.link, off_g] at hy
      exact .inl ⟨y, hy, rfl, rfl⟩
  · rcases read h with ⟨at_g, rfl⟩ | ⟨off_g, -⟩
    · rw [State.node, State.node, at_g]
      exact nodes l k n
    · rw [State.node, State.node, off_g]
      exact .refl _
  · rcases read h with ⟨-, rfl⟩ | ⟨off_g, -⟩
    · exact absurd hg hh
    · exact off_g

theorem steady_modSched (hg : c.reach g) {f : Scheduler → Scheduler} {s : State}
    (kept : (s.sched g).Kept (f (s.sched g))) : Steady c s (s.modSched g f) :=
  steady_modSeg hg kept (fun y hy => .inl ⟨y, hy, rfl, rfl⟩) fun _ _ _ => .refl _

theorem steady_modLink (hg : c.reach g) {f : Link → Link} {s : State}
    (link : ∀ y, (f (s.link g)).exchange = some y →
      ∃ x, (s.link g).exchange = some x ∧ y.target = x.target ∧ y.node = x.node) :
    Steady c s (s.modLink g f) :=
  steady_modSeg hg (.refl _) (fun y hy => .inl (link y hy)) fun _ _ _ => .refl _

/-- A link that is left without an exchange. -/
theorem steady_modLink_free (hg : c.reach g) {f : Link → Link} {s : State}
    (free : (f (s.link g)).exchange = none := by rfl) : Steady c s (s.modLink g f) :=
  steady_modLink hg fun y hy => by
    rw [free] at hy
    cases hy

theorem steady_modLink_same (hg : c.reach g) {f : Link → Link} (s : State)
    (same : ∀ l : Link, (f l).exchange = l.exchange := by exact fun _ => rfl) : Steady c s (s.modLink g f) :=
  steady_modLink hg fun y hy => ⟨y, same _ ▸ hy, rfl, rfl⟩

theorem steady_modFeed (hg : c.reach g) (f : Feed → Feed) (s : State) : Steady c s (s.modFeed g f) :=
  steady_modSeg hg (.refl _) (fun y hy => .inl ⟨y, hy, rfl, rfl⟩) fun _ _ _ => .refl _

theorem steady_modNode (hg : c.reach g) {n : NodeIdx} {f : NodeRec → NodeRec} {s : State}
    (kept : ListsOwn s → NodeCounts s → (s.node g n).Kept (f (s.node g n))) : Steady c s (s.modNode g n f) :=
  steady_modSeg hg (.refl _) (fun y hy => .inl ⟨y, hy, rfl, rfl⟩) fun l k m => by
    rw [Vector.getElem_set]
    split
    · next same =>
      obtain rfl : n = m := Fin.ext same
      exact kept l k
    · exact .refl _

theorem steady_mapNodes (hg : c.reach g) {f : NodeRec → NodeRec} (s : State)
    (kept : NodeCounts s → ∀ n, (s.node g n).Kept (f (s.node g n))) : Steady c s (s.mapNodes g f) :=
  steady_modSeg hg (.refl _) (fun y hy => .inl ⟨y, hy, rfl, rfl⟩) fun _ k n => by
    rw [Vector.getElem_map]
    exact kept k n

theorem steady_tally (hg : c.reach g) (s : State) (evs : List TallyEvent) (node : Option NodeIdx) :
    Steady c s (s.tally g evs node) :=
  ((steady_modSeg hg (.refl _) (fun y hy => .inl ⟨y, hy, rfl, rfl⟩) fun _ _ _ => .refl _).trans
    (.ite fun _ => (notices_raiseSeg _ g _).steady)).trans (.ite fun _ => (notices_raiseSeg _ g _).steady)

/-- A new entry joins a demand queue with room, for a LIVE point of the segment that has none (R95). -/
theorem steady_joinQueue (hg : c.reach g) (hj : c.join g) {i : PointIdx} {s : State} (ports : PortSet)
    (room : (s.sched g).room = true) (new : (s.sched g).entry i = none)
    (own : c.assume → (s.point i).life = .live ∧ (s.point i).seg = g) : Steady c s (s.joinQueue g i ports) := by
  have fresh : i ∉ (s.sched g).queue.map DemandEntry.point := fun listed => by
    obtain ⟨d, hd, rfl⟩ := List.mem_map.mp listed
    exact absurd (List.find?_eq_none.mp new d hd) (by simp)
  have read (h : Seg) : (s.joinQueue g i ports).sched h =
      if h = g then { s.sched g with queue := (s.sched g).queue ++ [⟨i, ports, false⟩] } else s.sched h :=
    sched_modSched s g h _
  have link (h : Seg) : (s.joinQueue g i ports).link h = s.link h := link_modSched s g _ h
  have node (h : Seg) (n : NodeIdx) : (s.joinQueue g i ports).node h n = s.node h n := node_modSched s g _ h n
  have list (h : Seg) : ((s.joinQueue g i ports).sched h).list = (s.sched h).list := by
    rw [read]
    split
    · next same => rw [same]
    · rfl
  refine
    { device := fun _ => rfl, merged := id, fit := fun k h => ?_, counts := fun k h => ?_, list := list
      live := fun _ => Iff.rfl, place := fun _ used => ⟨used, rfl, rfl⟩, lists := fun k h => ?_
      nodes := fun _ k => ?_, queues := fun a k h => ?_, aimed := fun _ _ _ k h x hx => ?_
      engaged := fun _ _ _ _ h _ k x hx => ?_, seg := fun _ _ _ h hh => ?_, point := fun _ _ _ _ _ => rfl
      joins := fun h hh => ?_, target := fun h _ y hy => .inl ⟨y, link h ▸ hy, rfl⟩ }
  · rw [read]
    split
    · rw [List.length_append]
      exact of_decide_eq_true room
    · exact k h
  · rw [read]
    split
    · exact k g
    · exact k h
  · rw [read]
    split
    · next same => exact same ▸ k h
    · exact k h
  · exact NodeCounts.kept (s := s) (fun _ => .refl _) (fun h n => node h n ▸ .refl _) k
  · rw [read]
    split
    · next same =>
      obtain ⟨once, mine⟩ := k g
      rw [List.map_append, same]
      refine ⟨List.nodup_append.mpr ⟨once, List.nodup_singleton _, fun j hj k hk same => ?_⟩, fun j hj => ?_⟩
      · rw [List.map_cons, List.map_nil, List.mem_singleton] at hk
        subst same hk
        exact fresh hj
      · rw [List.map_cons, List.map_nil, List.mem_append, List.mem_singleton] at hj
        exact hj.elim (mine j) fun same => same ▸ own a
    · exact k h
  · exact k h x (link h ▸ hx)
  · exact k x (link h ▸ hx)
  · exact (seg_modSeg s g h _).trans (if_neg fun same : h = g => hh (same ▸ hg))
  · rw [read, if_neg fun same : h = g => hh (same ▸ hj)]
    exact fun _ => id

/-- A new exchange begins for a point of the list or the queue (R105, R107). -/
theorem steady_beginAttempt_new (hg : c.reach g) {s : State} {x : Exchange} (idle : Bool)
    (listed : x.target ∈ (s.sched g).list ∨ x.target ∈ (s.sched g).queue.map DemandEntry.point)
    (node : x.node = (s.point x.target).node) : Steady c s (s.beginAttempt g x idle) := by
  unfold State.beginAttempt State.modLink
  refine steady_modSeg hg (.refl _) (fun y hy => .inr ?_) fun _ _ _ => .refl _
  obtain rfl : { x with attempts := x.attempts + 1 } = y := Option.some.inj hy
  exact ⟨listed, node⟩

/-- Another attempt of the exchange in flight begins (R108). -/
theorem steady_beginAttempt (hg : c.reach g) {s : State} {x y : Exchange} (idle : Bool)
    (flying : (s.link g).exchange = some x) (target : y.target = x.target) (node : y.node = x.node) :
    Steady c s (s.beginAttempt g y idle) := by
  refine steady_modLink hg fun z hz => ⟨x, flying, ?_⟩
  obtain rfl : { y with attempts := y.attempts + 1 } = z := Option.some.inj hz
  exact ⟨target, node⟩

/-! ### Closure (R16, R17, R120) -/

theorem notices_of_closePoint (s : State) (i : PointIdx) :
    ∃ u, Notices (s.modNode (s.point i).seg (s.point i).node NodeRec.leave) u ∧
      s.closePoint i = (u.modPoint i Point.close).closureTest i :=
  ⟨_, notices_raisePoint _ i _ _, rfl⟩

/-- A record that enters CLOSED: CLOSED or FREE, every other as it was, its node's count lower; no scan list, no queue,
no link, and beside them attention lists alone. -/
theorem closePoint_reads (s : State) (i : PointIdx) :
    ¬ ((s.closePoint i).point i).inUse ∧ (∀ j, j ≠ i → (s.closePoint i).point j = s.point j) ∧
      (s.closePoint i).segs = (s.modNode (s.point i).seg (s.point i).node NodeRec.leave).segs ∧
      (∀ p, ((s.closePoint i).port p).device = (s.port p).device) ∧
      (ListsMerged s → ListsMerged (s.closePoint i)) := by
  obtain ⟨u, told, eq⟩ := notices_of_closePoint s i
  obtain ⟨v, closed, left⟩ := closureTest_modPoint u i Point.close
  rw [eq, closed]
  refine ⟨?_, fun j hj => (point_setPoint_ne u v hj).trans (told.point j), told.segs, told.device,
    told.merged⟩
  rw [point_setPoint_same]
  exact left.elim (fun h => not_inUse_of_closed (h ▸ rfl)) not_inUse_of_free

/-- The points that a node record counts (R120). -/
abbrev State.countedAt (s : State) (g : Seg) (n : NodeIdx) : Finset PointIdx :=
  Finset.univ.filter fun i =>
    ((s.point i).life = .live ∨ (s.point i).life = .retiring) ∧ (s.point i).seg = g ∧ (s.point i).node = n

/-- The points that a segment counts (R8). -/
abbrev State.countedIn (s : State) (g : Seg) : Finset PointIdx :=
  Finset.univ.filter fun i => ((s.point i).life = .live ∨ (s.point i).life = .retiring) ∧ (s.point i).seg = g

/-- With a point no longer in use, the records and the segments count one point fewer where it was. -/
theorem NodeCounts.leave {s t : State} {i : PointIdx} (used : (s.point i).inUse) (idle : ¬ (t.point i).inUse)
    (others : ∀ j, j ≠ i → t.point j = s.point j)
    (segs : t.segs = (s.modNode (s.point i).seg (s.point i).node NodeRec.leave).segs) (h : NodeCounts s) :
    NodeCounts t := by
  obtain ⟨records, full⟩ := h
  have same (j : PointIdx) (hj : j ≠ i) : (t.point j) = s.point j := others j hj
  have gone : ¬ ((t.point i).life = .live ∨ (t.point i).life = .retiring) := idle
  have node (g : Seg) (n : NodeIdx) : t.node g n =
      if g = (s.point i).seg ∧ n = (s.point i).node then (s.node g n).leave else s.node g n := by
    have read : t.seg g = (s.modNode (s.point i).seg (s.point i).node NodeRec.leave).seg g := congrArg (·.get g) segs
    have : t.node g n = (s.modNode (s.point i).seg (s.point i).node NodeRec.leave).node g n := by
      rw [State.node, State.node, read]
    rw [this]
    exact node_modNode s _ _ _ _ _
  have erased (g : Seg) (n : NodeIdx) : t.countedAt g n = (s.countedAt g n).erase i := by
    ext j
    by_cases hj : j = i
    · subst hj
      simp [gone]
    · simp [hj, same j hj]
  have erased' (g : Seg) : t.countedIn g = (s.countedIn g).erase i := by
    ext j
    by_cases hj : j = i
    · subst hj
      simp [gone]
    · simp [hj, same j hj]
  refine ⟨fun g n => ?_, fun g => ?_⟩
  · obtain ⟨refs, idle, clear⟩ := records g n
    have count : (s.node g n).refs = (s.countedAt g n).card := refs
    suffices (t.node g n).refs = (t.countedAt g n).card ∧ ((t.node g n).state = .idle ↔ (t.node g n).refs = 0) ∧
        ((t.node g n).state = .idle → (t.node g n).failures = 0 ∧ (t.node g n).probe = false) from this
    rw [node, erased]
    split
    · next here =>
      obtain ⟨rfl, rfl⟩ := here
      have member : i ∈ s.countedAt (s.point i).seg (s.point i).node := by
        simp only [Finset.mem_filter, Finset.mem_univ, true_and, and_true]
        exact used
      have pos := Finset.card_pos.mpr ⟨i, member⟩
      rw [Finset.card_erase_of_mem member, ← count]
      rw [← count] at pos
      unfold NodeRec.leave
      split
      · next last => exact ⟨show 0 = _ by omega, by simp, fun _ => ⟨rfl, rfl⟩⟩
      · next more =>
        refine ⟨rfl, ?_, fun h => clear h⟩
        have busy : (s.node (s.point i).seg (s.point i).node).state ≠ .idle := fun h => by
          have := idle.mp h
          omega
        simp only [busy, false_iff]
        omega
    · next elsewhere =>
      have absent : i ∉ s.countedAt g n := fun member => by
        obtain ⟨-, -, seg, node⟩ := Finset.mem_filter.mp member
        exact elsewhere ⟨seg.symm, node.symm⟩
      rw [Finset.erase_eq_of_notMem absent]
      exact ⟨count, idle, clear⟩
  · suffices (t.countedIn g).card ≤ Config.segmentPoints from this
    rw [erased']
    exact (Finset.card_le_card (Finset.erase_subset i _)).trans (full g)

/-- A RETIRING point enters CLOSED, where its segment may lose an exchange's target. -/
theorem steady_closePoint {s : State} {i : PointIdx} (retiring : (s.point i).life = .retiring)
    (within : c.assume → c.reach (s.point i).seg ∧ c.close (s.point i).seg) : Steady c s (s.closePoint i) := by
  obtain ⟨idle, others, segs, device, merged⟩ := closePoint_reads s i
  have used : (s.point i).inUse := .inr retiring
  have seg (h : Seg) : (s.closePoint i).seg h = (s.modNode (s.point i).seg (s.point i).node NodeRec.leave).seg h :=
    congrArg (·.get h) segs
  have sched (h : Seg) : (s.closePoint i).sched h = s.sched h := by
    rw [State.sched, seg]
    exact sched_modNode s _ _ _ h
  have link (h : Seg) : (s.closePoint i).link h = s.link h := by
    rw [State.link, seg]
    exact link_modNode s _ _ _ h
  have live (j : PointIdx) : ((s.closePoint i).point j).life = .live ↔ (s.point j).life = .live := by
    by_cases hj : j = i
    · subst hj
      exact iff_of_false (fun h => idle (.inl h)) (by simp [retiring])
    · rw [others j hj]
  have place (j : PointIdx) (hj : ((s.closePoint i).point j).inUse) :
      (s.point j).inUse ∧ ((s.closePoint i).point j).seg = (s.point j).seg ∧
        ((s.closePoint i).point j).node = (s.point j).node := by
    have ne : j ≠ i := fun same => idle (same ▸ hj)
    rw [others j ne] at hj ⊢
    exact ⟨hj, rfl, rfl⟩
  have stays {j : PointIdx} {h : Seg} (k : (s.point j).life = .live ∧ (s.point j).seg = h) :
      ((s.closePoint i).point j).life = .live ∧ ((s.closePoint i).point j).seg = h := by
    have lives := (live j).mpr k.1
    exact ⟨lives, (place j (.inl lives)).2.1.trans k.2⟩
  refine
    { device := device, merged := merged, fit := fun k h => sched h ▸ k h, counts := fun k h => sched h ▸ k h
      list := fun h => by rw [sched], live := live, place := place, lists := fun k h => ?_
      nodes := fun _ => NodeCounts.leave used idle others segs, queues := fun _ k h => ?_
      aimed := fun _ _ _ k h x hx n => ?_, engaged := fun a _ _ m h hh k x hx => ?_
      seg := fun a _ _ h hh => ?_, point := fun a _ _ j hj => ?_, joins := fun h _ => by rw [sched]; exact fun _ => id
      target := fun h _ y hy => .inl ⟨y, link h ▸ hy, rfl⟩ }
  · rw [sched]
    obtain ⟨once, own, cursor⟩ := k h
    exact ⟨once, fun j hj => stays (own j hj), cursor⟩
  · rw [sched]
    obtain ⟨once, own⟩ := k h
    exact ⟨once, fun j hj => stays (own j hj)⟩
  · obtain ⟨used, seg, node⟩ := place _ n
    rw [seg, node]
    exact k h x (link h ▸ hx) used
  · rw [link] at hx
    by_cases same : x.target = i
    · have home := (m h x hx (same ▸ used)).1
      rw [same] at home
      exact absurd (home ▸ (within a).2) hh
    · rw [others _ same]
      exact k x hx
  · rw [seg]
    exact (seg_modSeg s _ h _).trans (if_neg fun same : h = _ => hh (same ▸ (within a).1))
  · exact others j fun same => hj (same ▸ (within a).1)

end

end Sys2Proof.Machine
end

section
/-! PROOF. The operations of the Scheduler, the outcomes, the Link Engine and the Feed Controller as steady changes: one
lemma per operation, in the order of the model. -/

namespace Sys2Proof.Machine

section
variable {c : Scope} {g : Seg}

/-! ### Stopping, halting, cycles (R81 to R83, R91) -/

theorem Scheduler.kept_stop (c : Scheduler) : c.Kept c.stop :=
  ⟨rfl, fun _ h => (nomatch h), .refl _, id, id, id⟩

theorem Scheduler.kept_halt (c : Scheduler) (why : ScanState) : c.Kept (c.halt why) :=
  ⟨rfl, fun _ h => .inr (List.mem_of_head? h), .refl _, id, id, id⟩

theorem steady_stop (hg : c.reach g) (s : State) : Steady c s (s.modSched g Scheduler.stop) :=
  steady_modSched hg (Scheduler.kept_stop _)

theorem steady_endScan (hg : c.reach g) (s : State) : Steady c s (s.endScan g) :=
  (steady_stop hg s).trans (notices_raiseSeg _ g _).steady

theorem steady_beginCycle (hg : c.reach g) (s : State) : Steady c s (s.beginCycle g) :=
  (steady_modSched hg ⟨rfl, fun _ h => .inr (List.mem_of_head? h), .refl _, id, id, id⟩).trans
    (steady_mapNodes hg _ fun _ _ => ⟨rfl, Iff.rfl, fun _ h => ⟨h.1, rfl⟩⟩)

theorem steady_completeOnce (hg : c.reach g) (s : State) : Steady c s (s.completeOnce g).1 := by
  have counted : Steady c s (s.modSched g fun d => { d with cyclesEnded := (s.sched g).counted }) :=
    steady_modSched hg ⟨rfl, fun _ => .inl, .refl _, fun _ => Nat.min_le_right _ _, id, id⟩
  unfold State.completeOnce
  dsimp only
  split
  · exact counted.trans (steady_endScan hg _)
  · dsimp only
    exact counted.trans (steady_modSched hg ⟨rfl, fun _ => .inl, .refl _, id, id, id⟩)

theorem steady_startCycle (hg : c.reach g) (s : State) : Steady c s (s.startCycle g) := by
  unfold State.startCycle
  dsimp only
  split
  · exact (steady_beginCycle hg s).trans (steady_completeOnce hg _)
  · exact steady_beginCycle hg s

theorem steady_complete (hg : c.reach g) (s : State) : Steady c s (s.complete g) := by
  unfold State.complete
  dsimp only
  split
  · exact (steady_completeOnce hg s).trans (steady_startCycle hg _)
  · exact steady_completeOnce hg s

theorem Scheduler.cut_count_le (c : Scheduler) (h : c.cyclesEnded ≤ Config.countMax) :
    (if c.scan.inCycle then c.counted else c.cyclesEnded) ≤ Config.countMax := by
  split
  · exact Nat.min_le_right _ _
  · exact h

theorem steady_applyCut (hg : c.reach g) (s : State) : Steady c s (s.applyCut g) := by
  have counted : Steady c s (s.modSched g fun d =>
      { d with
        cut := false
        cyclesEnded := if (s.sched g).scan.inCycle then (s.sched g).counted else (s.sched g).cyclesEnded }) :=
    steady_modSched hg ⟨rfl, fun _ => .inl, .refl _, (s.sched g).cut_count_le, id, id⟩
  unfold State.applyCut
  dsimp only
  generalize (if (s.sched g).scan.inCycle then (s.sched g).counted else (s.sched g).cyclesEnded) = n at counted ⊢
  split
  · split
    · exact counted.trans (steady_endScan hg _)
    · exact counted.trans (steady_startCycle hg _)
  · exact counted

/-! ### Grants, visits, walks (R77, R78, R98, R126) -/

/-- A point that the segment's list or queue names. -/
def Scheduler.names (c : Scheduler) (i : PointIdx) : Prop := i ∈ c.list ∨ i ∈ c.queue.map DemandEntry.point

theorem home_of_names {s : State} {i : PointIdx} (l : ListsOwn s) (q : QueuesOwn s) (h : (s.sched g).names i) :
    (s.point i).life = .live ∧ (s.point i).seg = g :=
  h.elim ((l g).2.1 i) ((q g).2 i)

theorem steady_grant (hg : c.reach g) {s : State} {i : PointIdx} (named : (s.sched g).names i) (f : Func)
    (k : GrantKind) (e : Env) : Steady c s (s.grant g i f k e) := by
  unfold State.grant
  cases f with
  | read => exact steady_beginAttempt_new hg _ named rfl
  | write =>
    have taken := (tells_modPoint (i := i) (f := fun t => { t with inFlight := t.slot, slot := none }) s).steady (c := c)
      fun _ l q => (home_of_names l q named).2 ▸ hg
    exact taken.trans (steady_beginAttempt_new hg _ named (by rw [show Exchange.target _ = i from rfl]; simp; rfl))

theorem refs_pos_of_home {s : State} {i : PointIdx} (k : NodeCounts s) (used : (s.point i).inUse) :
    1 ≤ (s.node (s.point i).seg (s.point i).node).refs ∧
      (s.node (s.point i).seg (s.point i).node).state ≠ .idle := by
  obtain ⟨refs, idle, -⟩ := k.1 (s.point i).seg (s.point i).node
  have member : i ∈ s.countedAt (s.point i).seg (s.point i).node := by
    simp only [Finset.mem_filter, Finset.mem_univ, true_and, and_true]
    exact used
  have pos : 1 ≤ (s.node (s.point i).seg (s.point i).node).refs := refs ▸ Finset.card_pos.mpr ⟨i, member⟩
  exact ⟨pos, fun h => by have := idle.mp h; omega⟩

theorem steady_grantScan (hg : c.reach g) {s : State} {i : PointIdx} (listed : i ∈ (s.sched g).list) (f : Func)
    (e : Env) : Steady c s (s.grantScan g i f e) := by
  have marked : Steady c s (s.modSched g fun d => { d with cycleMark := true, backToBack := 0 }) :=
    steady_modSched hg ⟨rfl, fun _ => .inl, .refl _, id, id, fun _ => Nat.zero_le _⟩
  have listed' : i ∈ ((s.modSched g fun d => { d with cycleMark := true, backToBack := 0 }).sched g).list :=
    marked.list g ▸ listed
  refine (marked.trans (steady_modNode hg fun l k => ?_)).trans (steady_grant hg (.inl ?_) f .scan e)
  · have home := (l g).2.1 i listed'
    have busy := (refs_pos_of_home k (.inl home.1)).2
    rw [home.2] at busy
    exact ⟨rfl, Iff.rfl, fun h => absurd h busy⟩
  · rw [sched_modNode]
    exact listed'

theorem steady_grantHead (hg : c.reach g) (s : State) (e : Env) : Steady c s (s.grantHead g e) := by
  unfold State.grantHead
  split
  · exact .refl s
  · next d ds queue =>
    have same : ({ d with granted := true } :: ds).map DemandEntry.point =
        (s.sched g).queue.map DemandEntry.point := by rw [queue]; rfl
    refine (steady_modSched hg ⟨rfl, fun _ => .inl, ?_, id, id, fun _ => Nat.min_le_right _ _⟩).trans
      (steady_grant hg (.inr ?_) _ _ e)
    · rw [← same]
    · rw [sched_modSched_same]
      exact List.mem_cons_self

theorem mem_of_successor {l : List PointIdx} {i j : PointIdx} (h : successor l i = some j) : j ∈ l := by
  induction l with
  | nil => cases h
  | cons x xs ih =>
    unfold successor at h
    split at h
    · exact List.mem_cons_of_mem _ (List.mem_of_head? h)
    · exact List.mem_cons_of_mem _ (ih h)

theorem mem_of_remaining {l : List PointIdx} {cursor : Option PointIdx} {i : PointIdx}
    (h : i ∈ remaining l cursor) : i ∈ l := by
  cases cursor with
  | none => cases h
  | some j => exact (List.dropWhile_sublist _).subset h

theorem steady_visit (hg : c.reach g) {s : State} {i : PointIdx} (listed : i ∈ (s.sched g).list) :
    Steady c s (s.visit g i).1 := by
  have moved : Steady c s (s.modSched g fun d => { d with cursor := successor d.list i }) :=
    steady_modSched hg ⟨rfl, fun _ h => .inr (mem_of_successor h), .refl _, id, id, id⟩
  have listed' : i ∈ ((s.modSched g fun d => { d with cursor := successor d.list i }).sched g).list :=
    moved.list g ▸ listed
  have phase {f : Point → Point} (kept : ∀ t : Point, t.Kept (f t) := by exact fun _ => ⟨rfl, rfl, rfl⟩) :
      Steady c s ((s.modSched g fun d => { d with cursor := successor d.list i }).modPoint i f) :=
    moved.trans ((tells_modPoint _ kept).steady fun _ l _ => ((l g).2.1 i listed').2 ▸ hg)
  unfold State.visit
  dsimp only
  split
  · dsimp only
    exact phase
  · split
    · dsimp only
      exact phase
    · dsimp only
      exact phase

theorem steady_visitAll (hg : c.reach g) (e : Env) (is : List PointIdx) {s : State}
    (listed : ∀ i ∈ is, i ∈ (s.sched g).list) : Steady c s (State.visitAll g e is s).1 := by
  induction is generalizing s with
  | nil => exact .refl s
  | cons i is ih =>
    have visited := steady_visit hg (c := c) (listed i List.mem_cons_self)
    have later (j : PointIdx) (hj : j ∈ i :: is) : j ∈ ((s.visit g i).1.sched g).list :=
      visited.list g ▸ listed j hj
    unfold State.visitAll
    split
    · next t f eq =>
      rw [eq] at visited later
      exact visited.trans (steady_grantScan hg (later i List.mem_cons_self) f e)
    · next t eq =>
      rw [eq] at visited later
      exact visited.trans (ih fun j hj => later j (List.mem_cons_of_mem i hj))

theorem steady_visitOn (hg : c.reach g) (s : State) (e : Env) : Steady c s (s.visitOn g e).1 :=
  steady_visitAll hg e _ fun _ => mem_of_remaining

theorem steady_walk (hg : c.reach g) (s : State) (e : Env) : Steady c s (s.walk g e).1 := by
  have visited := steady_visitOn hg s e (c := c)
  have completed := visited.trans (steady_complete hg (s.visitOn g e).1)
  unfold State.walk
  dsimp only
  split
  · exact visited
  · split
    · split
      · exact completed.trans (steady_visitOn hg _ e)
      · exact (completed.trans (steady_visitOn hg _ e)).trans (steady_complete hg _)
    · exact completed

theorem steady_arbitrate (hg : c.reach g) (s : State) (e : Env) : Steady c s (s.arbitrate g e) := by
  unfold State.arbitrate
  dsimp only
  split
  · split
    · exact steady_grantHead hg s e
    · split
      · split
        · exact steady_walk hg s e
        · exact (steady_walk hg s e).trans (steady_grantHead hg _ e)
      · exact steady_grantHead hg s e
  · exact .refl s

/-! ### The demand queue (R57, R58, R95) -/

theorem urgentCode_eq_one_iff (s : State) (g : Seg) (i : PointIdx) :
    s.urgentCode g i = 1 ↔ s.powered g = true ∧ (s.sched g).entry i = none ∧ (s.sched g).room = true := by
  unfold State.urgentCode
  cases s.powered g with
  | false => simp
  | true =>
    cases (s.sched g).entry i with
    | none => cases (s.sched g).room <;> simp
    | some d =>
      simp only [if_true]
      split <;> simp

theorem steady_offerUrgent (hg : c.reach g) (hj : c.join g) {s : State} {i : PointIdx}
    (own : c.assume → (s.point i).life = .live ∧ (s.point i).seg = g) : Steady c s (s.offerUrgent g i) :=
  .ite fun one =>
    have ⟨_, new, room⟩ := (urgentCode_eq_one_iff s g i).mp one
    steady_joinQueue hg hj noPorts room new own

theorem steady_offerAgain (hg : c.reach g) (hj : c.join g) {s : State} {i : PointIdx}
    (home : c.assume → (s.point i).life = .live → (s.point i).seg = g) : Steady c s (s.offerAgain g i) :=
  .ite fun due => by
    rw [Bool.and_eq_true, decide_eq_true_eq] at due
    exact steady_offerUrgent hg hj fun a => ⟨due.1, home a due.1⟩

/-! ### Overruns, triggers and the exit from HALTED (R84, R86, R89 to R91, R94, R99) -/

theorem steady_overrun (hg : c.reach g) (s : State) (e : Env) : Steady c s (s.overrun g e) := by
  have counted : Steady c s (((s.modSched g fun d =>
      { d with overruns := min (d.overruns + 1) Config.countMax }).raiseSeg g .overrun).tally g [.overruns] none) :=
    ((steady_modSched hg ⟨rfl, fun _ => .inl, .refl _, id, fun _ => Nat.min_le_right _ _, id⟩).trans
      (notices_raiseSeg _ g _).steady).trans (steady_tally hg _ _ _)
  unfold State.overrun
  dsimp only
  split
  · split
    · exact counted.trans (steady_modSched hg ⟨rfl, fun _ => .inl, .refl _, id, id, id⟩)
    · exact (counted.trans (steady_applyCut hg _)).trans (steady_arbitrate hg _ e)
  · exact counted

theorem steady_triggerAt (hg : c.reach g) (s : State) (v : Fin 16) (e : Env) :
    Steady c s (s.triggerAt g v e).1 := by
  unfold State.triggerAt
  split
  · split
    · exact (steady_startCycle hg s).trans (steady_arbitrate hg _ e)
    · exact steady_overrun hg s e
    · exact steady_overrun hg s e
    · exact .refl s
  · exact .refl s

theorem steady_setGoing (hg : c.reach g) (s : State) : Steady c s (s.setGoing g) := by
  have waiting : Steady c s (s.modSched g fun d => { d with scan := .waiting }) :=
    steady_modSched hg ⟨rfl, fun _ => .inl, .refl _, id, id, id⟩
  unfold State.setGoing
  dsimp only
  split
  · exact (waiting.trans (steady_modSched hg ⟨rfl, fun _ => .inl, .refl _, id, id, id⟩)).trans
      (steady_startCycle hg _)
  · exact waiting.trans (.ite fun _ => steady_startCycle hg _)

theorem steady_linkReady (hg : c.reach g) (s : State) (e : Env) : Steady c s (s.linkReady g e) :=
  (Steady.ite fun _ => steady_setGoing hg s).trans (steady_arbitrate hg _ e)

/-! ### Outcomes at the point and the node (R26 to R32, R61 to R63, R121, R130) -/

theorem steady_writeNotFinal (hg : c.reach g) (hj : c.join g) {s : State} {i : PointIdx}
    (home : c.assume → (s.point i).seg = g) (k : GrantKind) : Steady c s (s.writeNotFinal g i k) := by
  unfold State.writeNotFinal
  dsimp only
  split
  · exact .refl s
  · have told : ∀ {t : State}, Tells i s t → Steady c s
        (if (k = .scan && (s.point i).slot.isNone) = true then t.offerAgain g i else t) := fun h =>
      (h.steady fun a _ _ => home a ▸ hg).trans
        (.ite fun _ => steady_offerAgain hg hj fun a _ => h.kept.seg.trans (home a))
    exact told (((tells_modPoint s).trans (.ite (tells_raiseWrite _ _ _))).trans (.ite (tells_raiseWrite _ _ _)))

theorem steady_outcomeLive (hg : c.reach g) (hj : c.join g) {s : State} {x : Exchange}
    (home : c.assume → (s.point x.target).seg = g) (o : ExchangeOutcome) (received : Option Int) :
    Steady c s (s.outcomeLive g x o received) := by
  have told : ∀ {t : State}, Tells x.target s t → Steady c s t := fun h => h.steady fun a _ _ => home a ▸ hg
  unfold State.outcomeLive
  split
  · split
    · exact told (tells_readOk s _)
    · exact .refl s
  · exact told (tells_deliver s)
  · exact told (tells_setQuality s _)
  · exact told ((tells_setQuality s _).trans (tells_writeRefused _))
  · exact .refl s
  · exact steady_writeNotFinal hg hj home _

theorem steady_outcomePoint (hg : c.reach g) (hj : c.join g) {s : State} {x : Exchange}
    (aim : c.assume → Aimed s g x) (o : ExchangeOutcome) (received : Option Int) :
    Steady c s (s.outcomePoint g x o received) := by
  unfold State.outcomePoint
  split
  · next live => exact steady_outcomeLive hg hj (fun a => (aim a (.inl live)).1) o received
  · next retiring => exact (tells_outcomeRetiring s o).steady fun a _ _ => (aim a (.inr retiring)).1 ▸ hg
  · exact .refl s

theorem mem_livePoints (s : State) (g : Seg) (i : PointIdx) :
    i ∈ s.livePoints g ↔ (s.point i).life = .live ∧ (s.point i).seg = g := by
  simp [State.livePoints, allPoints]

/-- A LIVE point stays in its segment. -/
theorem Steady.seg_of_live {s t : State} (h : Steady c s t) {i : PointIdx} (live : (s.point i).life = .live) :
    (t.point i).seg = (s.point i).seg :=
  (h.place i (.inl ((h.live i).mpr live))).2.1

theorem steady_nodeLost (hg : c.reach g) (s : State) (n : NodeIdx) : Steady c s (s.nodeLost g n) :=
  steady_foldl fun i hi t h => .ite fun _ => (tells_setQuality t _).steady fun _ _ _ => by
    obtain ⟨live, seg⟩ := (mem_livePoints s g i).mp hi
    rw [h.seg_of_live live, seg]
    exact hg

theorem NodeRec.kept_judge (n : NodeRec) (o : ExchangeOutcome) (limit : Nat) : n.Kept (n.judge o limit) := by
  unfold NodeRec.judge
  split
  · exact .refl n
  · next busy =>
    cases o with
    | ok | refused | deferred =>
      exact ⟨rfl, iff_of_false (by simp) busy, fun h => absurd h busy⟩
    | failed =>
      refine ⟨rfl, iff_of_false ?_ busy, fun h => absurd h busy⟩
      dsimp only
      split <;> simp
    | lineFault | abandoned => exact .refl n

theorem steady_outcomeNode (hg : c.reach g) (s : State) (x : Exchange) (o : ExchangeOutcome) (order : List Part) :
    Steady c s (s.outcomeNode g x o order) := by
  refine ((steady_modNode hg fun _ _ => NodeRec.kept_judge _ o _).trans (steady_tally hg _ _ _)).trans
    (steady_foldl fun part _ t _ => ?_)
  cases part with
  | nodes h => exact .ite fun _ => (notices_raiseSeg _ g _).steady
  | points h => exact .ite fun _ => steady_nodeLost hg _ _
  | _ => exact .refl t

theorem steady_outcomeClose (hg : c.reach g) (hc : c.close g) {s : State} {x : Exchange}
    (aim : c.assume → Aimed s g x) : Steady c s (s.outcomeClose x.target) :=
  .ite fun retiring => steady_closePoint retiring fun a => (aim a (.inr retiring)).1 ▸ ⟨hg, hc⟩

theorem steady_applyOutcome (hg : c.reach g) (hc : c.close g) (hj : c.join g) {s : State} {x : Exchange}
    (aim : c.assume → Aimed s g x) (o : ExchangeOutcome) (received : Option Int) (order : List Part) :
    Steady c s (s.applyOutcome g x o received order) :=
  have judged := (steady_outcomePoint hg hj aim o received).trans (steady_outcomeNode hg _ x o order)
  judged.trans (steady_outcomeClose hg hc fun a => judged.stays (aim a))

/-! ### Outcomes at the Scheduler (R40, R58, R79) -/

theorem steady_tellDemanders (hg : c.reach g) {s : State} {i : PointIdx}
    (home : c.assume → (s.point i).life = .live → (s.point i).seg = g) (o : DemandOutcome) :
    Steady c s (s.tellDemanders i o) := by
  by_cases live : (s.point i).life = .live
  · exact (tells_tellDemanders s o).steady fun a _ _ => home a live ▸ hg
  · rw [State.tellDemanders, if_neg live]
    exact .refl s

theorem Scheduler.kept_filter (c : Scheduler) (p : DemandEntry → Bool) :
    c.Kept { c with queue := c.queue.filter p } :=
  ⟨rfl, fun _ => .inl, List.filter_sublist.map _, id, id, id⟩

theorem steady_endDemand (hg : c.reach g) (hj : c.join g) {s : State} {i : PointIdx}
    (home : c.assume → (s.point i).life = .live → (s.point i).seg = g) (o : ExchangeOutcome) :
    Steady c s (s.endDemand g i o) := by
  have told := (steady_tellDemanders hg home o.demandOutcome).trans
    (steady_modSched hg (f := fun d => { d with queue := d.queue.filter fun x => !(decide (x.point = i) && x.granted) })
      (Scheduler.kept_filter _ _))
  refine told.trans (steady_offerAgain hg hj fun a live => ?_)
  have lived := (told.live i).mp live
  exact (told.seg_of_live lived).trans (home a lived)

theorem steady_outcomeSched (hg : c.reach g) (hj : c.join g) {s : State} {x : Exchange}
    (aim : c.assume → Aimed s g x) (o : ExchangeOutcome) : Steady c s (s.outcomeSched g x o) := by
  have ended : Steady c s (if x.kind = .demand then s.endDemand g x.target o else s) :=
    .ite fun _ => steady_endDemand hg hj (fun a live => (aim a (.inl live)).1) o
  unfold State.outcomeSched
  dsimp only
  generalize (if x.kind = .demand then s.endDemand g x.target o else s) = s1 at ended ⊢
  have stopped := ended.trans (Steady.ite (p := (s1.sched g).scan = .stopping) fun _ => steady_stop hg s1)
  generalize (if (s1.sched g).scan = .stopping then s1.modSched g Scheduler.stop else s1) = s2 at stopped ⊢
  split
  · exact stopped
  · split
    · exact stopped.trans (steady_applyCut hg _)
    · exact stopped.trans (.ite fun _ => steady_complete hg _)

theorem steady_hand (hg : c.reach g) (hc : c.close g) (hj : c.join g) {s : State} {x : Exchange}
    (aim : c.assume → Aimed s g x) (o : ExchangeOutcome) (received : Option Int) (order : List Part) :
    Steady c s (s.hand g x o received order) :=
  have applied := steady_applyOutcome hg hc hj aim o received order
  applied.trans (steady_outcomeSched hg hj (fun a => applied.stays (aim a)) o)

/-! ### The Link Engine (R108 to R115) -/

theorem steady_settle (hg : c.reach g) (hc : c.close g) (hj : c.join g) {s : State} {x : Exchange}
    (aim : c.assume → Aimed s g x) (o : ExchangeOutcome) (received : Option Int) (order : List Part) :
    Steady c s (s.settle g x o received order) :=
  (steady_hand hg hc hj aim o received order).trans (steady_modLink_free hg)

theorem link_tally (s : State) (g : Seg) (evs : List TallyEvent) (node : Option NodeIdx) (h : Seg) :
    (s.tally g evs node).link h = s.link h :=
  (touches_tally (F := noSeg) (L := noSeg) (G := fun _ => True) trivial s evs node).link h id

theorem steady_endAttempt (hg : c.reach g) (hc : c.close g) (hj : c.join g) {s : State} {x : Exchange}
    (flying : (s.link g).exchange = some x) (aim : c.assume → Aimed s g x) (r : AttemptResult) (received : Option Int)
    (idle : Bool) (order : List Part) : Steady c s (s.endAttempt g x r received idle order) := by
  have report := steady_tally hg s (attemptEvents x r) (some x.node) (c := c)
  have flying' : ((s.tally g (attemptEvents x r) (some x.node)).link g).exchange = some x := by rwa [link_tally]
  have settle (o : ExchangeOutcome) (v : Option Int) : Steady c s
      ((s.tally g (attemptEvents x r) (some x.node)).settle g { x with last := some r } o v order) :=
    report.trans (steady_settle hg hc hj (fun a => report.stays (x := { x with last := some r }) (aim a)) o v order)
  have again : Steady c s ((s.tally g (attemptEvents x r) (some x.node)).beginAttempt g { x with last := some r } idle) :=
    report.trans (steady_beginAttempt hg idle flying' rfl rfl)
  unfold State.endAttempt
  dsimp only
  split
  · exact settle _ _
  · exact settle _ _
  · exact settle _ _
  · exact settle _ _
  · split
    · exact again
    · exact settle _ _
  · split
    · exact again
    · exact settle _ _
  · split
    · refine report.trans (steady_modLink hg fun y hy => ⟨x, flying', ?_⟩)
      obtain rfl : { x with last := some .busy } = y := Option.some.inj hy
      exact ⟨rfl, rfl⟩
    · exact settle _ _

theorem Scheduler.kept_lineDown (c : Scheduler) : c.Kept c.lineDown := by
  unfold Scheduler.lineDown
  split
  · exact c.kept_halt _
  · exact c.kept_halt _
  · exact c.kept_halt _
  · exact c.kept_stop
  · exact .refl c

theorem steady_lineFault (hg : c.reach g) (hc : c.close g) (hj : c.join g) {s : State}
    (aim : c.assume → ∀ x, (s.link g).exchange = some x → Aimed s g x) : Steady c s (s.lineFault g) := by
  have ended : Steady c s (match (s.link g).exchange with
      | some x => s.hand g x .lineFault none []
      | none => s) := by
    split
    · next x flying => exact steady_hand hg hc hj (fun a => aim a x flying) .lineFault none []
    · exact .refl s
  have counted (t : State) (n : Nat) : Steady c t
      (((t.modLink g fun l => { l with faults := n }).raiseSeg g .line).tally g [.lineFaults] none) :=
    ((steady_modLink_same hg t).trans (notices_raiseSeg _ g _).steady).trans (steady_tally hg _ _ _)
  unfold State.lineFault
  dsimp only
  have faulted := ended.trans (counted _ (min ((s.link g).faults + 1) Config.faultsMax))
  split
  · exact faulted.trans (steady_modLink_free hg)
  · exact faulted.trans (((steady_modLink_free hg).trans (notices_raiseSeg _ g _).steady).trans
      (steady_modSched hg (Scheduler.kept_lineDown _)))

theorem steady_enterReady (hg : c.reach g) (s : State) (e : Env) : Steady c s (s.enterReady g e) :=
  (steady_modLink_free hg).trans (steady_linkReady hg _ e)

/-! ### Entry into ON (R66, R68, R94, R118, R139) -/

theorem Point.kept_reassert (g : Seg) (t : Point) : t.Kept (t.reassert g) := by
  unfold Point.reassert
  split
  · split
    · exact ⟨rfl, rfl, rfl⟩
    · exact .refl t
  · exact .refl t

theorem reassert_of_seg_ne {t : Point} (h : t.seg ≠ g) : t.reassert g = t := by
  unfold Point.reassert
  split
  · exact if_neg h
  · rfl

theorem steady_feedEntersOn (hg : c.reach g) (hj : c.join g) (s : State) (e : Env) :
    Steady c s (s.feedEntersOn g e) := by
  have on := ((steady_modFeed hg (fun f => { f with state := .on, startTimer := none, settleTimer := none }) s).trans
    (notices_raiseSeg _ g .feed).steady).trans (steady_modLink_free hg (f := Link.powerUp))
  refine ((on.trans (steady_mapPoints _ (Point.kept_reassert g) fun _ t out =>
    reassert_of_seg_ne fun same => out (same ▸ hg))).trans ?_).trans (steady_linkReady hg _ e)
  refine steady_foldl fun i hi t h => steady_offerAgain hg hj fun _ live => ?_
  obtain ⟨lives, seg⟩ := (mem_livePoints _ g i).mp (List.mem_filter.mp hi).1
  exact (h.seg_of_live lives).trans seg

theorem steady_feedSettles (hg : c.reach g) (hj : c.join g) (s : State) (e : Env) :
    Steady c s (s.feedSettles g e) := by
  unfold State.feedSettles
  split
  · exact steady_feedEntersOn hg hj s e
  · exact steady_modFeed hg _ s

/-! ### The loss of a feed (R33, R92, R117, R123, R141) -/

theorem steady_linkLosesFeed (hg : c.reach g) (s : State) : Steady c s (s.linkLosesFeed g) :=
  (Steady.ite fun _ => (notices_raiseSeg s g _).steady).trans (steady_modLink_free hg)

theorem Scheduler.kept_feedLost (c : Scheduler) : c.Kept c.feedLost := by
  unfold Scheduler.feedLost
  split
  · exact c.kept_halt _
  · exact c.kept_halt _
  · exact c.kept_halt _
  · exact c.kept_halt _
  · exact c.kept_stop
  · exact .refl c

theorem Scheduler.Kept.trans {a b d : Scheduler} (h : a.Kept b) (k : b.Kept d) : a.Kept d :=
  ⟨k.list.trans h.list, fun i hi => (k.cursor i hi).elim (h.cursor i) fun m => .inr (h.list ▸ m),
    k.queue.trans h.queue, k.cyclesEnded ∘ h.cyclesEnded, k.overruns ∘ h.overruns, k.backToBack ∘ h.backToBack⟩

theorem mem_queue_of_entry {d : Scheduler} {i : PointIdx} (h : (d.entry i).isSome = true) :
    i ∈ d.queue.map DemandEntry.point := by
  obtain ⟨x, entry⟩ := Option.isSome_iff_exists.mp h
  have named : x.point = i := by simpa using List.find?_some (show d.queue.find? _ = some x from entry)
  exact named ▸ List.mem_map_of_mem (List.mem_of_find?_eq_some (show d.queue.find? _ = some x from entry))

theorem steady_schedLosesFeed (hg : c.reach g) {s : State} (own : c.assume → QueuesOwn s) :
    Steady c s (s.schedLosesFeed g) := by
  have told : Steady c s (s.forPoints (allPoints.filter fun i => ((s.sched g).entry i).isSome) fun i s =>
      s.tellDemanders i .abandoned) :=
    steady_foldl fun i hi t h => steady_tellDemanders hg (fun a _ => by
      obtain ⟨live, seg⟩ := (own a g).2 i (mem_queue_of_entry (List.mem_filter.mp hi).2)
      exact (h.seg_of_live live).trans seg) _
  have emptied (d : Scheduler) : d.Kept { d with queue := [], backToBack := 0 } :=
    ⟨rfl, fun _ => .inl, List.nil_sublist _, id, id, fun _ => Nat.zero_le _⟩
  unfold State.schedLosesFeed
  exact told.trans (steady_modSched hg ((emptied _).trans (Scheduler.kept_feedLost _)))

/-- The exchange, where there is one, is aimed at the segment. -/
def EndedAimed (s : State) (g : Seg) (x : Option Exchange) : Prop := ∀ y, x = some y → Aimed s g y

theorem Steady.endedAimed {s t : State} {x : Option Exchange} (h : Steady c s t) (k : EndedAimed s g x) :
    EndedAimed t g x :=
  fun y hy => h.stays (k y hy)

theorem steady_abandon (hg : c.reach g) (hc : c.close g) (hj : c.join g) {s : State} {x : Option Exchange}
    (aim : c.assume → EndedAimed s g x) (life : Life) : Steady c s (s.abandon g x life) := by
  unfold State.abandon
  split
  · exact .ite fun _ => steady_applyOutcome hg hc hj (fun a => aim a _ rfl) _ _ _
  · exact .refl s

theorem steady_pointLosesFeed (hg : c.reach g) (hc : c.close g) (hj : c.join g) {s : State} {x : Option Exchange}
    {i : PointIdx} (home : c.assume → (s.point i).life = .live → (s.point i).seg = g)
    (aim : c.assume → EndedAimed s g x) : Steady c s (State.pointLosesFeed g x i s) := by
  unfold State.pointLosesFeed
  split
  · next live => exact (tells_setQuality s _).steady fun a _ _ => home a live ▸ hg
  · exact steady_abandon hg hc hj aim _
  · exact .refl s

theorem steady_pointsLoseFeed (hg : c.reach g) (hc : c.close g) (hj : c.join g) {s : State} {x : Option Exchange}
    (aim : c.assume → EndedAimed s g x) : Steady c s (s.pointsLoseFeed g x) := by
  refine steady_foldl fun i hi t h => steady_pointLosesFeed hg hc hj (fun a live => ?_) fun a => h.endedAimed (aim a)
  have lived := (h.live i).mp live
  simp only [List.mem_filter, Bool.or_eq_true, decide_eq_true_eq, Option.map_eq_some_iff] at hi
  obtain ⟨-, ⟨-, seg⟩ | ⟨y, hy, rfl⟩⟩ := hi
  · exact (h.seg_of_live lived).trans seg
  · exact (h.stays (aim a y hy) (.inl live)).1

theorem steady_nodesLoseFeed (hg : c.reach g) (s : State) : Steady c s (s.nodesLoseFeed g) := by
  refine steady_mapNodes hg s fun k n => ?_
  obtain ⟨-, idle, -⟩ := k.1 g n
  unfold NodeRec.feedLost
  split
  · exact .refl _
  · next used =>
    have busy : (s.node g n).state ≠ .idle := fun h => used (idle.mp h)
    exact ⟨rfl, iff_of_false (by simp) busy, fun h => absurd h busy⟩

/-- A part of a feed event, for the segments whose feed has left ON. -/
theorem steady_feedPart {leaves notice : Seg → Bool} {ended : Seg → Option Exchange} {change : Option DevReason}
    {s : State} (within : ∀ h, leaves h = true → c.reach h ∧ c.close h ∧ c.join h) (own : c.assume → QueuesOwn s)
    (aim : c.assume → ∀ h, leaves h = true → EndedAimed s h (ended h)) (part : Part) :
    Steady c s (State.feedPart leaves notice ended change part s) := by
  cases part with
  | monitor =>
    cases change with
    | none => exact .refl s
    | some r => exact ((notices_raiseDev s .a r).trans (notices_raiseDev _ .b r)).steady
  | feed h => exact .ite fun _ => (notices_raiseSeg s h _).steady
  | link h => exact .ite fun left => steady_linkLosesFeed (within h left).1 s
  | sched h => exact .ite fun left => steady_schedLosesFeed (within h left).1 own
  | points h =>
    refine .ite fun left => ?_
    obtain ⟨hg, hc, hj⟩ := within h left
    exact steady_pointsLoseFeed hg hc hj fun a => aim a h left
  | slots h =>
    refine .ite fun left => ?_
    obtain ⟨hg, hc, hj⟩ := within h left
    exact steady_abandon hg hc hj (fun a => aim a h left) .live
  | nodes h => exact .ite fun left => steady_nodesLoseFeed (within h left).1 s

/-- The parts of a feed event in turn. -/
theorem steady_feedParts {leaves notice : Seg → Bool} {ended : Seg → Option Exchange} {change : Option DevReason}
    {s : State} (within : ∀ h, leaves h = true → c.reach h ∧ c.close h ∧ c.join h) (own : c.assume → QueuesOwn s)
    (aim : c.assume → ∀ h, leaves h = true → EndedAimed s h (ended h)) (parts : List Part) :
    Steady c s (s.takeParts (State.feedPart leaves notice ended change) parts) :=
  steady_foldl fun part _ _ h => steady_feedPart within (fun a => h.queues a (own a))
    (fun a k left => h.endedAimed (aim a k left)) part

theorem steady_feedLeaves (hg : c.reach g) (hc : c.close g) (hj : c.join g) {s : State}
    (own : c.assume → QueuesOwn s) (aim : c.assume → AllAimed s) (wasOn notice : Bool) (order : List Part) :
    Steady c s (s.feedLeaves g wasOn notice order) := by
  refine steady_feedParts (fun h left => ?_) own (fun a h _ y hy => aim a h y hy) _
  obtain rfl : h = g := of_decide_eq_true (Bool.and_eq_true_iff.mp left).1
  exact ⟨hg, hc, hj⟩

/-- The feed takes a new state, and its segment's blocks take their parts where it has left ON. -/
theorem steady_feedChange (hg : c.reach g) (hc : c.close g) (hj : c.join g) {s : State}
    (own : c.assume → QueuesOwn s) (aim : c.assume → AllAimed s) (f : Feed → Feed) (wasOn notice : Bool)
    (order : List Part) : Steady c s ((s.modFeed g f).feedLeaves g wasOn notice order) :=
  have changed := steady_modFeed hg f s (c := c)
  changed.trans (steady_feedLeaves hg hc hj (fun a => changed.queues a (own a))
    (fun a h y hy => changed.stays (aim a h y ((link_modFeed s g f h) ▸ hy))) wasOn notice order)

/-- The segments that a change of the monitor's levels takes from ON (R146). -/
def State.monitorLeaves (s : State) (sl : SupplyLevel) (tl : TempLevel) (g : Seg) : Bool :=
  !s.held && holds sl tl && (s.feed g).forced && s.powered g

theorem steady_monitorChange (hg : ∀ g, c.reach g) {s : State} {sl : SupplyLevel} {tl : TempLevel}
    (leaves : ∀ g, s.monitorLeaves sl tl g = true → c.close g ∧ c.join g)
    (own : c.assume → QueuesOwn s) (aim : c.assume → AllAimed s) (r : DevReason)
    (order : List Part) : Steady c s (s.monitorChange sl tl r order) := by
  have levels : Steady c s { s with supply := sl, temperature := tl } :=
    steady_of_kept (fun _ => rfl) id (fun _ => .refl _) (fun _ => .refl _) (fun _ y hy => .inl ⟨y, hy, rfl, rfl⟩)
      (fun _ _ _ _ => .refl _) (fun _ _ _ _ _ => rfl) fun _ _ _ _ _ => rfl
  have changed (f : Feed → Feed) : Steady c s
      (Seg.all.foldl (fun s g => s.modFeed g f) { s with supply := sl, temperature := tl }) :=
    levels.trans (steady_foldl fun h _ t _ => steady_modFeed (hg h) f t)
  exact (changed _).trans (steady_feedParts (fun h left => ⟨hg h, leaves h left⟩)
    (fun a => (changed _).queues a (own a)) (fun a h _ y hy => (changed _).stays (aim a h y hy)) _)

end

end Sys2Proof.Machine
end

section
/-! PROOF. What a command or an event keeps: all the invariants at once, from the steadiness of its operations, what it
does to a segment without power, and whether an exchange in flight still has its target. -/

namespace Sys2Proof.Machine

/-- From `s` to `t`, every invariant that held still holds. -/
structure Sound (s t : State) : Prop where
  rights : RightsHeld s → RightsHeld t
  merged : ListsMerged s → ListsMerged t
  fit : QueuesFit s → QueuesFit t
  counts : SchedCounts s → SchedCounts t
  scan : ScanListsSound s → ScanListsSound t
  nodes : ScanListsSound s → NodeCounts s → NodeCounts t
  quiet : UnpoweredQuiet s → UnpoweredQuiet t
  law : ScanListsSound s → SegmentLaw s → SegmentLaw t

theorem Sound.refl (s : State) : Sound s s := ⟨id, id, id, id, id, fun _ => id, id, fun _ => id⟩

theorem Sound.trans {s t u : State} (h : Sound s t) (k : Sound t u) : Sound s u :=
  ⟨k.rights ∘ h.rights, k.merged ∘ h.merged, k.fit ∘ h.fit, k.counts ∘ h.counts, k.scan ∘ h.scan,
    fun l n => k.nodes (h.scan l) (h.nodes l n), k.quiet ∘ h.quiet, fun l w => k.law (h.scan l) (h.law l w)⟩

theorem Sound.ite {s t : State} {p : Prop} [Decidable p] (h : p → Sound s t) : Sound s (if p then t else s) := by
  split
  · next made => exact h made
  · exact .refl s

theorem sound_foldl {α : Type} {op : State → α → State} {l : List α} {s : State}
    (h : ∀ a ∈ l, ∀ t, Sound t (op t a)) : Sound s (l.foldl op s) :=
  List.foldlRecOn l op (.refl s) fun t ht a ha => ht.trans (h a ha t)

/-! ### From steadiness -/

/-- The laws that a change may assume of the state it begins with. -/
def Lawful (s : State) : Prop := ListsOwn s ∧ QueuesOwn s ∧ AllAimed s

/-- The scope of a change at one segment of a state. -/
def near (s : State) (g : Seg) (close : Seg → Prop) : Scope := ⟨Lawful s, onlySeg g, close, onlySeg g⟩

theorem Steady.scanListsSound {c : Scope} {s t : State} (h : Steady c s t) (l : ScanListsSound s) :
    ScanListsSound t := fun g => by
  obtain ⟨once, members, -⟩ := l g
  obtain ⟨-, -, cursor⟩ := h.lists (listsOwn_of_sound l) g
  refine ⟨h.list g ▸ once, fun i => ?_, cursor⟩
  rw [h.list g, members i, h.live i]
  exact and_congr_right fun live => by rw [h.seg_of_live live]

theorem lawful_of_law {s : State} (l : ScanListsSound s) (law : SegmentLaw s) : Lawful s :=
  have ⟨queues, aimed, _⟩ := (segmentLaw_iff s).mp law
  ⟨listsOwn_of_sound l, queues, aimed⟩

/-- The segment law after a steady change: what remains is the target of an exchange that may have lost it, and the
segments that the change reaches. -/
theorem Steady.segmentLaw {c : Scope} {s t : State} (h : Steady c s t) (assume : c.assume) (l : ScanListsSound s)
    (law : SegmentLaw s) (engaged : ∀ g, c.close g → Engaged t g)
    (dim : ∀ g, c.reach g → Asleep t g ∧ Dark t g) : SegmentLaw t := by
  obtain ⟨lists, queues, aimed⟩ := lawful_of_law l law
  obtain ⟨-, -, busy, rest⟩ := (segmentLaw_iff s).mp law
  refine (segmentLaw_iff t).mpr ⟨h.queues assume queues, h.aimed assume lists queues aimed, fun g => ?_, fun g => ?_⟩
  · by_cases close : c.close g
    · exact engaged g close
    · exact h.engaged assume lists queues aimed g close (busy g)
  · by_cases reach : c.reach g
    · exact dim g reach
    · have seg := h.seg assume lists queues g reach
      obtain ⟨asleep, dark⟩ := rest g
      refine ⟨?_, fun off i live home => ?_⟩
      · rw [Asleep, State.feed, State.link, State.sched, seg]
        exact asleep
      · have lives := (h.live i).mp live
        have home' : (s.point i).seg = g := (h.seg_of_live lives) ▸ home
        rw [h.point assume lists queues i (home' ▸ reach)]
        exact dark (by rwa [State.feed, seg] at off) i lives home'

theorem rightsHeld_of_device {s t : State} (device : ∀ p, (t.port p).device = (s.port p).device)
    (h : RightsHeld s) : RightsHeld t := by
  simpa only [RightsHeld, State.hasDevice, device] using h

/-- A change at one segment whose feed stays as it is. A segment without power sleeps on, its points as they were. -/
theorem sound_near {s t : State} {g : Seg} {close : Seg → Prop} (steady : Steady (near s g close) s t)
    (touch : Touches noSeg (onlySeg g) (onlySeg g) s t) (only : ∀ h, close h → h = g)
    (engaged : close g → Engaged s g → Engaged t g)
    (still : (s.feed g).state ≠ .on → Asleep s g → Asleep t g ∧ ∀ i, t.point i = s.point i) : Sound s t := by
  have feed (h : Seg) : t.feed h = s.feed h := touch.feed h id
  have asleep (h : Seg) (k : Asleep s h) : Asleep t h := by
    by_cases same : h = g
    · subst same
      by_cases on : (s.feed h).state = .on
      · intro off
        rw [feed] at off
        exact absurd on off
      · exact (still on k).1
    · rw [Asleep, feed, touch.link h same, touch.sched h same]
      exact k
  refine ⟨rightsHeld_of_device steady.device, steady.merged, steady.fit, steady.counts, steady.scanListsSound,
    fun l => steady.nodes (listsOwn_of_sound l),
    fun k h => asleep h (k h), fun l law => ?_⟩
  obtain ⟨-, -, busy, rest⟩ := (segmentLaw_iff s).mp law
  refine steady.segmentLaw (lawful_of_law l law) l law (fun h closed => ?_) fun h reach => ?_
  · obtain rfl := only h closed
    exact engaged closed (busy h)
  · obtain rfl : h = g := reach
    refine ⟨asleep h (rest h).1, fun off i live home => ?_⟩
    rw [feed] at off
    obtain ⟨-, points⟩ := still off (rest h).1
    rw [points] at live home ⊢
    exact (rest h).2 off i live home

/-- A change that leaves a segment without power whole. -/
theorem sound_near_same {s t : State} {g : Seg} {close : Seg → Prop} (steady : Steady (near s g close) s t)
    (touch : Touches noSeg (onlySeg g) (onlySeg g) s t) (only : ∀ h, close h → h = g)
    (engaged : close g → Engaged s g → Engaged t g) (still : (s.feed g).state ≠ .on → Asleep s g → t = s) : Sound s t :=
  sound_near steady touch only engaged fun off k => by
    rw [still off k]
    exact ⟨k, fun _ => rfl⟩

/-- A change anywhere by which no exchange loses its target. -/
theorem sound_wide {s t : State} (steady : Steady ⟨Lawful s, fun _ => True, noSeg, fun _ => True⟩ s t)
    (asleep : ∀ g, Asleep s g → Asleep t g) (dark : ∀ g, Dark s g → Dark t g) : Sound s t := by
  refine ⟨rightsHeld_of_device steady.device, steady.merged, steady.fit, steady.counts, steady.scanListsSound,
    fun l => steady.nodes (listsOwn_of_sound l), fun k h => asleep h (k h), fun l law => ?_⟩
  obtain ⟨-, -, -, rest⟩ := (segmentLaw_iff s).mp law
  exact steady.segmentLaw (lawful_of_law l law) l law nofun fun g _ => ⟨asleep g (rest g).1, dark g (rest g).2⟩

/-- A change outside the points and the segments. -/
theorem sound_same {s t : State} (segs : t.segs = s.segs) (points : t.points = s.points)
    (rights : RightsHeld s → RightsHeld t) (merged : ListsMerged s → ListsMerged t) : Sound s t := by
  have seg (g : Seg) : t.seg g = s.seg g := congrArg (·.get g) segs
  have sched (g : Seg) : t.sched g = s.sched g := congrArg Segment.sched (seg g)
  have link (g : Seg) : t.link g = s.link g := congrArg Segment.link (seg g)
  have feed (g : Seg) : t.feed g = s.feed g := congrArg Segment.feed (seg g)
  have node (g : Seg) (n : NodeIdx) : t.node g n = s.node g n := by rw [State.node, State.node, seg]
  have point (i : PointIdx) : t.point i = s.point i := by rw [State.point, State.point, points]
  refine ⟨rights, merged, ?_, ?_, ?_, fun _ => ?_, ?_, fun _ => ?_⟩
  · simp only [QueuesFit, sched, imp_self]
  · simp only [SchedCounts, sched, imp_self]
  · simp only [ScanListsSound, sched, point, imp_self]
  · simp only [NodeCounts, node, point, imp_self]
  · simp only [UnpoweredQuiet, sched, link, feed, imp_self]
  · simp only [SegmentLaw, sched, link, feed, point, imp_self]

theorem Calm.sound {s t : State} (h : Calm s t) : Sound s t :=
  sound_same h.segs h.points (rightsHeld_of_device h.device) fun m p => h.attention p ▸ m p

theorem Notices.sound {s t : State} (h : Notices s t) : Sound s t :=
  sound_same h.segs h.points (rightsHeld_of_device h.device) h.merged

/-- A record with its place and quality as they were, where it is in use before or after. -/
def Point.Still (t u : Point) : Prop :=
  (t.Kept u ∧ (u.quality = t.quality ∨ t.quality = .good)) ∨ ¬ t.inUse ∧ ¬ u.inUse

/-- Records change, but not in their place, and not in the quality that a segment without power gives them. -/
theorem sound_points {s t : State} (device : ∀ p, (t.port p).device = (s.port p).device)
    (merged : ListsMerged s → ListsMerged t) (segs : t.segs = s.segs)
    (points : ∀ i, (s.point i).Still (t.point i)) : Sound s t := by
  have seg (g : Seg) : t.seg g = s.seg g := congrArg (·.get g) segs
  have sched (g : Seg) : t.sched g = s.sched g := congrArg Segment.sched (seg g)
  have link (g : Seg) : t.link g = s.link g := congrArg Segment.link (seg g)
  have feed (g : Seg) : t.feed g = s.feed g := congrArg Segment.feed (seg g)
  have node (g : Seg) (n : NodeIdx) : t.node g n = s.node g n := by rw [State.node, State.node, seg]
  have live (i : PointIdx) (g : Seg) : (t.point i).life = .live ∧ (t.point i).seg = g ↔
      (s.point i).life = .live ∧ (s.point i).seg = g := by
    rcases points i with ⟨kept, -⟩ | ⟨idle, idle'⟩
    · rw [kept.life, kept.seg]
    · exact iff_of_false (fun h => idle' (.inl h.1)) fun h => idle (.inl h.1)
  have used (i : PointIdx) (g : Seg) (n : NodeIdx) :
      ((t.point i).life = .live ∨ (t.point i).life = .retiring) ∧ (t.point i).seg = g ∧ (t.point i).node = n ↔
        ((s.point i).life = .live ∨ (s.point i).life = .retiring) ∧ (s.point i).seg = g ∧ (s.point i).node = n := by
    rcases points i with ⟨kept, -⟩ | ⟨idle, idle'⟩
    · rw [kept.life, kept.seg, kept.node]
    · exact iff_of_false (fun h => idle' h.1) fun h => idle h.1
  have used' (i : PointIdx) (g : Seg) :
      ((t.point i).life = .live ∨ (t.point i).life = .retiring) ∧ (t.point i).seg = g ↔
        ((s.point i).life = .live ∨ (s.point i).life = .retiring) ∧ (s.point i).seg = g := by
    have h := fun n => used i g n
    constructor
    · exact fun k => ⟨((h _).mp ⟨k.1, k.2, rfl⟩).1, ((h _).mp ⟨k.1, k.2, rfl⟩).2.1⟩
    · exact fun k => ⟨((h _).mpr ⟨k.1, k.2, rfl⟩).1, ((h _).mpr ⟨k.1, k.2, rfl⟩).2.1⟩
  refine ⟨rightsHeld_of_device device, merged, ?_, ?_, ?_, fun _ => ?_, ?_, fun _ law => ?_⟩
  · simp only [QueuesFit, sched, imp_self]
  · simp only [SchedCounts, sched, imp_self]
  · simp only [ScanListsSound, sched, live, imp_self]
  · simp only [NodeCounts, node, used, used', imp_self]
  · simp only [UnpoweredQuiet, sched, link, feed, imp_self]
  · intro g
    obtain ⟨once, own, serves, quiet⟩ := law g
    simp only [sched, link, feed, live]
    refine ⟨once, own, fun x hx => ?_, fun off => ?_⟩
    · obtain ⟨home, node, life⟩ := serves x hx
      have := (used x.target g x.node).mpr ⟨life, home, node⟩
      exact ⟨this.2.1, this.2.2, this.1⟩
    · obtain ⟨off, empty, scan, dark⟩ := quiet off
      refine ⟨off, empty, scan, fun i lives home => ?_⟩
      obtain ⟨lives', home'⟩ := (live i g).mp ⟨lives, home⟩
      have unpowered := dark i lives' home'
      rcases points i with ⟨-, same | good⟩ | ⟨idle, -⟩
      · exact same.trans unpowered
      · rw [good] at unpowered
        cases unpowered
      · exact absurd (.inl lives') idle

theorem Tells.sound {i : PointIdx} {s t : State} (h : Tells i s t)
    (quality : (t.point i).quality = (s.point i).quality ∨ (s.point i).quality = .good) : Sound s t :=
  sound_points h.device h.merged h.segs fun j => by
    by_cases same : j = i
    · exact same ▸ .inl ⟨h.kept, quality⟩
    · exact h.others j same ▸ .inl ⟨.refl _, .inl rfl⟩

theorem sound_modPoint {i : PointIdx} {f : Point → Point} (s : State)
    (kept : ∀ t : Point, t.Kept (f t) ∧ (f t).quality = t.quality := by exact fun _ => ⟨⟨rfl, rfl, rfl⟩, rfl⟩) :
    Sound s (s.modPoint i f) :=
  (tells_modPoint s fun t => (kept t).1).sound (.inl (by rw [point_modPoint_same, (kept _).2]))

theorem sound_mapPoints {f : Point → Point} (s : State)
    (kept : ∀ t : Point, t.Kept (f t) ∧ (f t).quality = t.quality) : Sound s (s.mapPoints f) :=
  sound_points (fun _ => rfl) id rfl fun i => by
    rw [point_mapPoints]
    exact .inl ⟨(kept _).1, .inl (kept _).2⟩

theorem sound_closureTest (s : State) (i : PointIdx) : Sound s (s.closureTest i) := by
  unfold State.closureTest
  split
  · next closed =>
    refine sound_points (fun _ => rfl) id rfl fun j => ?_
    rw [point_setPoint]
    split
    · next same =>
      subst same
      exact .inr ⟨not_inUse_of_closed closed.1, not_inUse_of_free rfl⟩
    · exact .inl ⟨.refl _, .inl rfl⟩
  · exact .refl s

theorem onlySeg_self (g : Seg) : onlySeg g g := rfl

/-- A Scheduler's change that neither fills an empty queue nor wakes a quiet scan. -/
theorem sound_modSched {g : Seg} {f : Scheduler → Scheduler} {s : State} (kept : (s.sched g).Kept (f (s.sched g)))
    (quiet : (s.sched g).scan.quiet → (f (s.sched g)).scan.quiet) : Sound s (s.modSched g f) := by
  refine sound_near (close := noSeg) (steady_modSched rfl kept) (touches_modSched (onlySeg_self g) s f) nofun nofun
    fun off k => ⟨fun _ => ?_, fun _ => rfl⟩
  obtain ⟨link, queue, scan⟩ := k off
  rw [sched_modSched_same, link_modSched]
  refine ⟨link, ?_, quiet scan⟩
  have nil := kept.queue
  rw [queue, List.map_nil, List.sublist_nil, List.map_eq_nil_iff] at nil
  exact nil

/-- A link's change without a new exchange that leaves an OFF link OFF. -/
theorem sound_modLink {g : Seg} {f : Link → Link} {s : State}
    (link : ∀ y, (f (s.link g)).exchange = some y → (s.link g).exchange = some y)
    (off : (s.link g).state = .off → (f (s.link g)).state = .off) : Sound s (s.modLink g f) := by
  refine sound_near (close := noSeg) (steady_modLink rfl fun y hy => ⟨y, link y hy, rfl, rfl⟩)
    (touches_modLink (onlySeg_self g) s f) nofun nofun fun unpowered k => ⟨fun _ => ?_, fun _ => rfl⟩
  obtain ⟨state, queue, scan⟩ := k unpowered
  rw [link_modLink_same, sched_modLink]
  exact ⟨off state, queue, scan⟩

/-- A change of node records and tallies alone. -/
theorem sound_modSeg {g : Seg} {f : Segment → Segment} {s : State}
    (same : (f (s.seg g)).sched = s.sched g ∧ (f (s.seg g)).link = s.link g ∧ (f (s.seg g)).feed = s.feed g)
    (nodes : ∀ n : NodeIdx, (s.node g n).Kept (f (s.seg g)).nodes[n.val]) : Sound s (s.modSeg g f) := by
  obtain ⟨sched, link, feed⟩ := same
  have read (h : Seg) : ((s.modSeg g f).sched h = s.sched h ∧ (s.modSeg g f).link h = s.link h) ∧
      (s.modSeg g f).feed h = s.feed h := by
    rw [State.sched, State.link, State.feed, seg_modSeg]
    split
    · next same =>
      subst same
      exact ⟨⟨sched, link⟩, feed⟩
    · exact ⟨⟨rfl, rfl⟩, rfl⟩
  refine sound_wide (steady_modSeg trivial (sched ▸ .refl _) (fun y hy => .inl ⟨y, link ▸ hy, rfl, rfl⟩)
    fun _ _ => nodes) (fun h k => ?_) fun h k => ?_
  · rw [Asleep, (read h).2, (read h).1.1, (read h).1.2]
    exact k
  · rw [Dark, (read h).2]
    exact k

/-- A feed's change that does not leave ON. -/
theorem sound_modFeed {g : Seg} {f : Feed → Feed} {s : State}
    (on : (s.feed g).state = .on → (f (s.feed g)).state = .on) : Sound s (s.modFeed g f) := by
  have off (h : Seg) (k : ((s.modFeed g f).feed h).state ≠ .on) : (s.feed h).state ≠ .on := by
    rw [feed_modFeed] at k
    split at k
    · next same => exact fun was => k (on (same ▸ was))
    · exact k
  refine sound_wide (steady_modFeed trivial f s) (fun h k now => ?_) fun h k now => k (off h now)
  rw [link_modFeed, sched_modFeed]
  exact k (off h now)

/-! ### The arbiter and the demand queue -/

theorem arbitrate_of_not_ready {s : State} {g : Seg} (h : (s.link g).state ≠ .ready) (e : Env) :
    s.arbitrate g e = s :=
  if_neg h

theorem sound_arbitrate (s : State) (g : Seg) (e : Env) : Sound s (s.arbitrate g e) :=
  sound_near_same (close := noSeg) (steady_arbitrate rfl s e) (touches_arbitrate (onlySeg_self g) (onlySeg_self g) s e)
    nofun nofun
    fun off k => arbitrate_of_not_ready (by rw [(k off).1]; nofun) e

theorem powered_eq_false_iff (s : State) (g : Seg) : s.powered g = false ↔ (s.feed g).state ≠ .on := by
  simp [State.powered]

theorem offerUrgent_of_not_powered {s : State} {g : Seg} (off : (s.feed g).state ≠ .on) (i : PointIdx) :
    s.offerUrgent g i = s :=
  if_neg fun one => by
    have on := ((urgentCode_eq_one_iff s g i).mp one).1
    rw [(powered_eq_false_iff s g).mpr off] at on
    cases on

theorem sound_offerUrgent {s : State} {g : Seg} {i : PointIdx} (live : (s.point i).life = .live)
    (home : (s.point i).seg = g) : Sound s (s.offerUrgent g i) :=
  sound_near_same (close := noSeg) (steady_offerUrgent rfl rfl fun _ => ⟨live, home⟩)
    (touches_offerUrgent (onlySeg_self g) s i) nofun nofun fun off _ => offerUrgent_of_not_powered off i

end Sys2Proof.Machine
end

section
/-! PROOF. What each command and each event keeps, but for those that change the set of LIVE points or take a feed from
ON: one lemma per operation. -/

namespace Sys2Proof.Machine

/-! ### A segment without power -/

theorem not_flying_of_off {s : State} {g : Seg} {x : Exchange} (flying : (s.link g).exchange = some x) :
    (s.link g).state ≠ .off := fun off => by
  rw [Link.exchange, off] at flying
  cases flying

theorem exchange_of_busy {l : Link} {sub : SubPhase} {x : Exchange} (busy : l.state = .busy sub x) :
    l.exchange = some x := by
  rw [Link.exchange, busy]

theorem engaged_of_free {s : State} {g : Seg} (free : (s.link g).exchange = none) : Engaged s g := fun x hx => by
  rw [free] at hx
  cases hx

/-- A segment without power stays as it is under an operation that does nothing to an OFF link. -/
theorem sound_awake {s t : State} {g : Seg} {close : Seg → Prop} (awake : (s.link g).state ≠ .off)
    (steady : Steady (near s g close) s t) (touch : Touches noSeg (onlySeg g) (onlySeg g) s t)
    (only : ∀ h, close h → h = g) (engaged : close g → Engaged s g → Engaged t g) : Sound s t :=
  sound_near_same steady touch only engaged fun off k => absurd (k off).1 awake

/-! ### Cycles, triggers and the scan commands (R80 to R102) -/

theorem ScanState.quiet_iff (c : ScanState) : c.quiet ↔ c ≠ .waiting ∧ c ≠ .running ∧ c ≠ .finishing := by
  cases c <;> simp [ScanState.quiet]

/-- What a segment without power keeps, where the scan must be in a cycle or WAITING for anything to happen. -/
theorem sound_loud {s t : State} {g : Seg} (steady : Steady (near s g noSeg) s t)
    (touch : Touches noSeg (onlySeg g) (onlySeg g) s t) (still : (s.sched g).scan.quiet → t = s) : Sound s t :=
  sound_near_same steady touch nofun nofun fun off k => still (k off).2.2

theorem triggerAt_of_quiet {s : State} {g : Seg} (h : (s.sched g).scan.quiet) (v : Fin 16) (e : Env) :
    (s.triggerAt g v e).1 = s := by
  obtain ⟨waiting, running, finishing⟩ := (ScanState.quiet_iff _).mp h
  unfold State.triggerAt
  split
  · split
    · contradiction
    · contradiction
    · contradiction
    · rfl
  · rfl

theorem sound_triggerAt (s : State) (g : Seg) (v : Fin 16) (e : Env) : Sound s (s.triggerAt g v e).1 :=
  sound_loud (steady_triggerAt rfl s v e) (touches_triggerAt (onlySeg_self g) (onlySeg_self g) s v e)
    fun quiet => triggerAt_of_quiet quiet v e

theorem sound_trigger (s : State) (v : Fin 16) (e : Env) : Sound s (s.trigger v e).1 :=
  (((sound_triggerAt s .s0 v e).trans (sound_triggerAt _ .s1 v e)).trans (sound_triggerAt _ .s2 v e)).trans
    (sound_triggerAt _ .s3 v e)

theorem sound_modTrg (s : State) (t : Trg) (f : TriggerInput → TriggerInput) : Sound s (s.modTrg t f) :=
  sound_same rfl rfl id id

theorem sound_edge (s : State) (t : Trg) (level : Bool) (e : Env) : Sound s (s.edge t level e) := by
  unfold State.edge
  dsimp only
  split
  · split
    · exact (sound_modTrg s t _).trans (sound_trigger _ _ e)
    · exact sound_modTrg s t _
  · exact sound_modTrg s t _

theorem boundary_of_quiet {s : State} {g : Seg} (h : (s.sched g).scan.quiet) (e : Env) : s.boundary g e = s := by
  obtain ⟨waiting, running, finishing⟩ := (ScanState.quiet_iff _).mp h
  unfold State.boundary
  split
  · contradiction
  · contradiction
  · contradiction
  · rfl

theorem sound_boundary (s : State) (g : Seg) (e : Env) : Sound s (s.boundary g e) := by
  have both : Steady (near s g noSeg) s (s.boundary g e) ∧
      Touches noSeg (onlySeg g) (onlySeg g) s (s.boundary g e) := by
    unfold State.boundary
    split
    · exact ⟨(steady_startCycle rfl s).trans (steady_arbitrate rfl _ e),
        (touches_startCycle (onlySeg_self g) s).trans (touches_arbitrate (onlySeg_self g) (onlySeg_self g) _ e)⟩
    · exact ⟨steady_overrun rfl s e, touches_overrun (onlySeg_self g) (onlySeg_self g) s e⟩
    · exact ⟨steady_overrun rfl s e, touches_overrun (onlySeg_self g) (onlySeg_self g) s e⟩
    · exact ⟨.refl s, .refl _ _ _ s⟩
  exact sound_loud both.1 both.2 fun quiet => boundary_of_quiet quiet e

theorem sound_startCycle_arbitrate {s : State} {g : Seg} (waiting : (s.sched g).scan = .waiting) (e : Env) :
    Sound s ((s.startCycle g).arbitrate g e) :=
  sound_loud ((steady_startCycle rfl s).trans (steady_arbitrate rfl _ e))
    ((touches_startCycle (onlySeg_self g) s).trans (touches_arbitrate (onlySeg_self g) (onlySeg_self g) _ e))
    fun quiet => absurd waiting ((ScanState.quiet_iff _).mp quiet).1

theorem sound_deferredStart (s : State) (g : Seg) (e : Env) : Sound s (s.deferredStart g e) := by
  have cleared : Sound s (s.modSched g fun c => { c with deferred := false }) :=
    sound_modSched ⟨rfl, fun _ => .inl, .refl _, id, id, id⟩ id
  unfold State.deferredStart
  dsimp only
  split
  · next due =>
    rw [Bool.and_eq_true, decide_eq_true_eq] at due
    exact cleared.trans (sound_startCycle_arbitrate (by rw [sched_modSched_same]; exact due.1) e)
  · exact cleared

theorem sound_startScan (s : State) (g : Seg) (e : Env) : Sound s (s.startScan g e) := by
  have zero : Sound s (s.modSched g fun c => { c with cyclesEnded := 0, overruns := 0 }) :=
    sound_modSched ⟨rfl, fun _ => .inl, .refl _, fun _ => Nat.zero_le _, fun _ => Nat.zero_le _, id⟩ id
  unfold State.startScan
  split
  · dsimp only
    split
    · exact zero.trans (sound_modSched (Scheduler.kept_halt _ _) fun _ => .inr (.inr (.inl rfl)))
    · next powered =>
      have on : (s.feed g).state = .on := by simpa [State.powered] using powered
      split
      · exact zero.trans (sound_modSched (Scheduler.kept_halt _ _) fun _ => .inr (.inr (.inr rfl)))
      · refine zero.trans (sound_near_same (close := noSeg) ((steady_setGoing rfl _).trans (steady_arbitrate rfl _ e))
          ((touches_setGoing (onlySeg_self g) _).trans (touches_arbitrate (onlySeg_self g) (onlySeg_self g) _ e))
          nofun nofun fun off => ?_)
        rw [feed_modSched] at off
        exact absurd on off
  · next finishing =>
    exact sound_modSched ⟨rfl, fun _ => .inl, .refl _, id, id, id⟩ fun quiet =>
      absurd finishing ((ScanState.quiet_iff _).mp quiet).2.2
  · exact .refl s

theorem sound_stop (s : State) (g : Seg) : Sound s (s.modSched g Scheduler.stop) :=
  sound_modSched (Scheduler.kept_stop _) fun _ => .inl rfl

theorem sound_endCycle (s : State) (g : Seg) (busy : Bool) : Sound s (s.modSched g (Scheduler.endCycle busy)) := by
  cases busy with
  | true =>
    exact sound_modSched (f := Scheduler.endCycle true) ⟨rfl, fun _ => .inl, .refl _, id, id, id⟩ fun _ =>
      .inr (.inl rfl)
  | false => exact sound_stop s g

theorem sound_stopScan (s : State) (g : Seg) : Sound s (s.stopScan g) := by
  unfold State.stopScan
  split
  · exact .refl s
  · exact .refl s
  · exact sound_endCycle s g _
  · exact sound_endCycle s g _
  · exact sound_stop s g

theorem sound_finish (s : State) (g : Seg) : Sound s (s.modSched g Scheduler.finish) := by
  refine sound_modSched ?_ fun quiet => ?_
  · unfold Scheduler.finish
    split
    · exact ⟨rfl, fun _ => .inl, .refl _, id, id, id⟩
    · exact Scheduler.kept_stop _
    · exact Scheduler.kept_stop _
    · exact Scheduler.kept_stop _
    · exact .refl _
  · unfold Scheduler.finish
    split
    · next running => exact absurd running ((ScanState.quiet_iff _).mp quiet).2.1
    · exact .inl rfl
    · exact .inl rfl
    · exact .inl rfl
    · exact quiet

/-! ### The demand queue (R39, R57, R95) -/

theorem sound_joinQueue {s : State} {g : Seg} {i : PointIdx} (ports : PortSet) (on : (s.feed g).state = .on)
    (room : (s.sched g).room = true) (new : (s.sched g).entry i = none) (live : (s.point i).life = .live)
    (home : (s.point i).seg = g) : Sound s (s.joinQueue g i ports) :=
  sound_near_same (close := noSeg) (steady_joinQueue rfl rfl ports room new fun _ => ⟨live, home⟩)
    (touches_joinQueue (onlySeg_self g) s i ports) nofun nofun fun off => absurd on off

theorem Scheduler.kept_mapQueue (c : Scheduler) {f : DemandEntry → DemandEntry} (same : ∀ d, (f d).point = d.point) :
    c.Kept { c with queue := c.queue.map f } := by
  have points : (c.queue.map f).map DemandEntry.point = c.queue.map DemandEntry.point := by
    rw [List.map_map]
    exact List.map_congr_left fun d _ => same d
  exact ⟨rfl, fun _ => .inl, points ▸ .refl _, id, id, id⟩

theorem sound_joinEntry (s : State) (g : Seg) (i : PointIdx) (p : Port) : Sound s (s.joinEntry g i p) :=
  sound_modSched (Scheduler.kept_mapQueue _ fun d => by split <;> rfl) id

/-! ### The Link Engine (R108 to R115) -/

theorem exchange_beginAttempt (s : State) (g : Seg) (x : Exchange) (idle : Bool) :
    ((s.beginAttempt g x idle).link g).exchange = some { x with attempts := x.attempts + 1 } := by
  rw [State.beginAttempt, link_modLink_same]
  rfl

theorem exchange_settle (s : State) (g : Seg) (x : Exchange) (o : ExchangeOutcome) (received : Option Int)
    (order : List Part) : ((s.settle g x o received order).link g).exchange = none := by
  rw [State.settle, link_modLink_same]
  rfl

theorem exchange_lineFault (s : State) (g : Seg) : ((s.lineFault g).link g).exchange = none := by
  unfold State.lineFault
  dsimp only
  split
  · rw [link_modLink_same]
    rfl
  · rw [link_modSched, (notices_raiseSeg _ g _).link, link_modLink_same]
    rfl

theorem point_tally (s : State) (g : Seg) (evs : List TallyEvent) (node : Option NodeIdx) (i : PointIdx) :
    (s.tally g evs node).point i = s.point i := by
  have once (t : State) (r : SegReason) : (t.raiseSeg g r).point i = t.point i := (notices_raiseSeg t g r).point i
  unfold State.tally
  dsimp only
  split
  · split
    · rw [once, once]
      rfl
    · rw [once]
      rfl
  · split
    · rw [once]
      rfl
    · rfl

theorem engaged_endAttempt {s : State} {g : Seg} {x : Exchange} (used : (s.point x.target).inUse) (r : AttemptResult)
    (received : Option Int) (idle : Bool) (order : List Part) : Engaged (s.endAttempt g x r received idle order) g := by
  have settle (y : Exchange) (o : ExchangeOutcome) (v : Option Int) :
      Engaged ((s.tally g (attemptEvents x r) (some x.node)).settle g y o v order) g :=
    engaged_of_free (exchange_settle _ g y o v order)
  have again : Engaged ((s.tally g (attemptEvents x r) (some x.node)).beginAttempt g { x with last := some r } idle) g :=
    fun y hy => by
      rw [exchange_beginAttempt] at hy
      cases hy
      rw [show (State.beginAttempt _ g _ idle).point x.target = s.point x.target from point_tally s g _ _ _]
      exact used
  unfold State.endAttempt
  dsimp only
  split
  · exact settle _ _ _
  · exact settle _ _ _
  · exact settle _ _ _
  · exact settle _ _ _
  · split
    · exact again
    · exact settle _ _ _
  · split
    · exact again
    · exact settle _ _ _
  · split
    · intro y hy
      rw [link_modLink_same] at hy
      obtain rfl : { x with last := some .busy } = y := Option.some.inj hy
      rw [point_modLink, point_tally]
      exact used
    · exact settle _ _ _

theorem sound_endAttempt {s : State} {g : Seg} {x : Exchange} (flying : (s.link g).exchange = some x)
    (r : AttemptResult) (received : Option Int) (idle : Bool) (order : List Part) :
    Sound s (s.endAttempt g x r received idle order) :=
  sound_awake (close := onlySeg g) (not_flying_of_off flying)
    (steady_endAttempt (c := near s g (onlySeg g)) rfl rfl rfl flying (fun lawful => lawful.2.2 g x flying) r
      received idle order)
    (touches_endAttempt (onlySeg_self g) (onlySeg_self g) s x r received idle order) (fun _ => id)
    fun _ busy => engaged_endAttempt (busy x flying) r received idle order

theorem sound_lineFault {s : State} {g : Seg} (awake : (s.link g).state ≠ .off) : Sound s (s.lineFault g) :=
  sound_awake (close := onlySeg g) awake
    (steady_lineFault (c := near s g (onlySeg g)) rfl rfl rfl fun lawful => lawful.2.2 g)
    (touches_lineFault (onlySeg_self g) (onlySeg_self g) s) (fun _ => id)
    fun _ _ => engaged_of_free (exchange_lineFault s g)

theorem sound_enterReady {s : State} {g : Seg} (awake : (s.link g).state ≠ .off) (e : Env) :
    Sound s (s.enterReady g e) :=
  sound_awake (close := noSeg) awake (steady_enterReady rfl s e)
    (touches_enterReady (onlySeg_self g) (onlySeg_self g) s e) nofun nofun

/-- The link keeps its exchange, and an OFF link stays OFF. -/
theorem sound_modLink_same {s : State} {g : Seg} {f : Link → Link}
    (same : (f (s.link g)).exchange = (s.link g).exchange)
    (off : (s.link g).state = .off → (f (s.link g)).state = .off) : Sound s (s.modLink g f) :=
  sound_modLink (fun _ hy => same ▸ hy) off

theorem sound_requestSent (s : State) (g : Seg) : Sound s (s.requestSent g) := by
  unfold State.requestSent
  split
  · next x busy =>
    refine Sound.ite fun _ => sound_modLink_same (exchange_of_busy busy).symm fun off => ?_
    rw [busy] at off
    cases off
  · exact .refl s

theorem sound_responseStart (s : State) (g : Seg) : Sound s (s.responseStart g) := by
  unfold State.responseStart
  split
  · next x busy =>
    refine sound_modLink_same (exchange_of_busy busy).symm fun off => ?_
    rw [busy] at off
    cases off
  · exact .refl s

theorem sound_windowExpiry (s : State) (g : Seg) (e : Env) : Sound s (s.windowExpiry g e) := by
  unfold State.windowExpiry
  split
  · next x busy =>
    refine (sound_modLink_same rfl id).trans (sound_endAttempt ?_ _ _ _ _)
    rw [link_modLink_same]
    exact exchange_of_busy busy
  · exact .refl s

theorem sound_responseEnd (s : State) (g : Seg) (frame : List RxChar) (e : Env) :
    Sound s (s.responseEnd g frame e) := by
  unfold State.responseEnd
  split
  · next x busy => exact sound_endAttempt (exchange_of_busy busy) _ _ _ _
  · exact .refl s

theorem sound_tenthCharacter (s : State) (g : Seg) (e : Env) : Sound s (s.tenthCharacter g e) := by
  unfold State.tenthCharacter
  split
  · next x busy => exact sound_endAttempt (exchange_of_busy busy) _ _ _ _
  · exact .refl s

theorem sound_backoffExpiry (s : State) (g : Seg) (e : Env) : Sound s (s.backoffExpiry g e) := by
  unfold State.backoffExpiry
  split
  · next x busy =>
    have flying := exchange_of_busy busy
    refine sound_awake (close := noSeg) (not_flying_of_off flying) (steady_beginAttempt rfl _ flying rfl rfl)
      (touches_beginAttempt (onlySeg_self g) s x _) nofun nofun
  · exact .refl s

theorem sound_idleWaitIdle (s : State) (g : Seg) : Sound s (s.idleWaitIdle g) := by
  unfold State.idleWaitIdle
  split
  · exact sound_modLink_same rfl id
  · exact .refl s

theorem sound_idleWaitExpiry (s : State) (g : Seg) : Sound s (s.idleWaitExpiry g) := by
  unfold State.idleWaitExpiry
  split
  · exact .refl s
  · split
    · next busy => exact sound_lineFault (by rw [busy]; nofun)
    · next recovering => exact sound_lineFault (by rw [recovering]; nofun)
    · exact .refl s

theorem not_off_of_driving {l : Link} (h : l.driving = true) : l.state ≠ .off := fun off => by
  rw [Link.driving, off] at h
  cases h

theorem sound_currentLimit (s : State) (g : Seg) : Sound s (if (s.link g).driving then s.lineFault g else s) :=
  .ite fun driving => sound_lineFault (not_off_of_driving driving)

theorem sound_gapEnd (s : State) (g : Seg) (e : Env) :
    Sound s (if (s.link g).state = .gap then s.enterReady g e else s) :=
  .ite fun gap => sound_enterReady (by rw [gap]; nofun) e

theorem sound_recoveryExpiry (s : State) (g : Seg) (e : Env) : Sound s (s.recoveryExpiry g e) := by
  unfold State.recoveryExpiry
  split
  · next due =>
    split
    · exact sound_enterReady (by rw [due.1]; nofun) e
    · exact sound_modLink_same rfl id
  · exact .refl s

theorem sound_recoveryIdle (s : State) (g : Seg) : Sound s (s.recoveryIdle g) :=
  .ite fun due => sound_enterReady (by rw [due.1]; nofun) allIdle

theorem sound_recoverLine (s : State) (g : Seg) : Sound s (s.recoverLine g) := by
  refine .ite fun down => Sound.trans ?_ (notices_raiseSeg _ g _).sound
  refine sound_modLink (fun y hy => ?_) fun off => ?_
  · cases hy
  · rw [down] at off
    cases off

/-! ### Nodes and tallies (R124, R131, R132) -/

theorem sound_releaseNode (s : State) (g : Seg) (n : NodeIdx) : Sound s (s.releaseNode g n) := by
  refine .ite fun lost => Sound.trans ?_ (notices_raiseSeg _ g _).sound
  refine sound_modSeg ⟨rfl, rfl, rfl⟩ fun m => ?_
  rw [Vector.getElem_set]
  split
  · next same =>
    obtain rfl : n = m := Fin.ext same
    refine ⟨rfl, iff_of_false (by simp) ?_, fun idle => ?_⟩
    · rw [lost]
      nofun
    · rw [lost] at idle
      cases idle
  · exact .refl _

theorem sound_setTally (s : State) (g : Seg) (second : Bool) (t : Tally) :
    Sound s (s.modSeg g fun v => v.setTally second t) := by
  cases second with
  | true => exact sound_modSeg (f := fun v => v.setTally true t) ⟨rfl, rfl, rfl⟩ fun _ => .refl _
  | false => exact sound_modSeg (f := fun v => v.setTally false t) ⟨rfl, rfl, rfl⟩ fun _ => .refl _

theorem sound_clearTallies (s : State) (g : Seg) : Sound s (s.modSeg g Segment.clearTallies) :=
  sound_modSeg ⟨rfl, rfl, rfl⟩ fun _ => .refl _

/-! ### Feeds that do not leave ON (R134 to R140) -/

theorem sound_feedAsked {s : State} {g : Seg} (off : (s.feed g).state ≠ .on) : Sound s (s.feedAsked g) := by
  unfold State.feedAsked
  split
  · exact (sound_modFeed fun on => absurd on off).trans (notices_raiseSeg _ g _).sound
  · exact sound_modFeed fun on => absurd on off

theorem sound_feedOn (s : State) (g : Seg) : Sound s (s.feedOn g) := by
  unfold State.feedOn
  split
  · next off => exact sound_feedAsked (by rw [off]; nofun)
  · next latched => exact sound_feedAsked (by rw [latched]; nofun)
  · next tripped =>
    refine sound_modFeed fun on => ?_
    rw [tripped] at on
    cases on
  · exact .refl s

theorem sound_clampBegin (s : State) (g : Seg) : Sound s (s.modFeed g Feed.clampBegin) :=
  sound_modFeed fun on => by
    unfold Feed.clampBegin
    split
    · exact on
    · exact on

theorem sound_retry (s : State) (g : Seg) :
    Sound s (if (s.feed g).state = .tripped ∧ (s.feed g).retryTimer.isSome = true then
      s.modFeed g fun f => { f.start with retryTimer := none } else s) :=
  .ite fun due => sound_modFeed fun on => by
    rw [due.1] at on
    cases on

theorem feed_feedEntersOn (s : State) (g : Seg) (e : Env) : ((s.feedEntersOn g e).feed g).state = .on := by
  have rest : Touches noSeg (onlySeg g) (onlySeg g)
      (s.modFeed g fun f => { f with state := .on, startTimer := none, settleTimer := none }) (s.feedEntersOn g e) :=
    ((((touches_raiseSeg _ g _).trans (touches_modLink (onlySeg_self g) _ _)).trans (touches_mapPoints _ _)).trans
      (touches_forPoints _ (fun i t => touches_offerAgain (onlySeg_self g) t i) _ _)).trans
      (touches_linkReady (onlySeg_self g) (onlySeg_self g) _ e)
  rw [rest.feed g id, feed_modFeed_same]

/-- The feed enters ON from a state in which its segment was asleep: nothing is asked of it any more. -/
theorem sound_feedEntersOn {s : State} {g : Seg} (off : (s.feed g).state ≠ .on) (e : Env) :
    Sound s (s.feedEntersOn g e) := by
  have steady : Steady (near s g noSeg) s (s.feedEntersOn g e) := steady_feedEntersOn rfl rfl s e
  have touch := touches_feedEntersOn (onlySeg_self g) (onlySeg_self g) (onlySeg_self g) s e
  have on := feed_feedEntersOn s g e
  have asleep (h : Seg) (k : Asleep s h) : Asleep (s.feedEntersOn g e) h := by
    by_cases same : h = g
    · subst same
      exact fun now => absurd on now
    · rw [Asleep, touch.feed h same, touch.link h same, touch.sched h same]
      exact k
  refine ⟨rightsHeld_of_device steady.device, steady.merged, steady.fit, steady.counts, steady.scanListsSound,
    fun l => steady.nodes (listsOwn_of_sound l), fun k h => asleep h (k h), fun l law => ?_⟩
  obtain ⟨-, -, -, rest⟩ := (segmentLaw_iff s).mp law
  refine steady.segmentLaw (lawful_of_law l law) l law nofun fun h reach => ?_
  obtain rfl : h = g := reach
  exact ⟨asleep h (rest h).1, fun now => absurd on now⟩

theorem sound_feedSettles {s : State} {g : Seg} (off : (s.feed g).state ≠ .on) (e : Env) :
    Sound s (s.feedSettles g e) := by
  unfold State.feedSettles
  split
  · exact sound_feedEntersOn off e
  · exact sound_modFeed fun on => absurd on off

/-! ### Records (R45 to R56, R149, R150, R168) -/

theorem quality_raisePoint (s : State) (i j : PointIdx) (r : PointReason) (dst : PortSet) :
    (s.raisePoint i r dst).point j = s.point j :=
  (notices_raisePoint s i r dst).point j

theorem quality_judgeBand (s : State) (i : PointIdx) (v : Int) :
    ((s.judgeBand i v).point i).quality = (s.point i).quality := by
  unfold State.judgeBand
  split
  · rfl
  · dsimp only
    split
    · rw [quality_raisePoint, point_modPoint_same]
    · rw [point_modPoint_same]

theorem sound_judgeBand (s : State) (i : PointIdx) (v : Int) : Sound s (s.judgeBand i v) :=
  (tells_judgeBand s v).sound (.inl (quality_judgeBand s i v))

theorem sound_placeBand (s : State) (i : PointIdx) (b : Band) : Sound s (s.placeBand i b) := by
  unfold State.placeBand
  dsimp only
  split
  · exact (sound_modPoint s).trans (sound_judgeBand _ i _)
  · exact sound_modPoint s

theorem sound_raiseWrite (s : State) (i : PointIdx) (r : WriteResult) (w : Writer) : Sound s (s.raiseWrite i r w) :=
  (notices_raiseWrite s i r w).sound

theorem sound_placeValue (s : State) (i : PointIdx) (f : Slot) : Sound s (s.placeValue i f) := by
  unfold State.placeValue
  dsimp only
  split
  · exact (sound_modPoint s).trans (sound_raiseWrite _ i _ _)
  · exact sound_modPoint s

theorem sound_offerWrite {s : State} {g : Seg} {i : PointIdx} (live : (s.point i).life = .live)
    (home : (s.point i).seg = g) (urgent : Bool) (e : Env) : Sound s (s.offerWrite g i urgent e).1 := by
  unfold State.offerWrite
  split
  · dsimp only
    split
    · exact (sound_offerUrgent live home).trans (sound_arbitrate _ g e)
    · exact .refl s
  · exact .refl s

theorem kept_placeValue (s : State) (i : PointIdx) (f : Slot) (j : PointIdx) :
    (s.point j).Kept ((s.placeValue i f).point j) := by
  have told := tells_placeValue (i := i) s f
  by_cases same : j = i
  · exact same ▸ told.kept
  · exact told.others j same ▸ .refl _

theorem sound_cancel (s : State) (i : PointIdx) (f : Slot) : Sound s (s.cancel i f) :=
  ((sound_modPoint s).trans (sound_raiseWrite _ i _ _)).trans (sound_modSched (Scheduler.kept_filter _ _) id)

theorem sound_setMask (s : State) (p : Port) (i : PointIdx) (mask : BitVec 4) : Sound s (s.setMask p i mask).state :=
  sound_modPoint (f := fun t => { t with subs := t.subs.set p mask }) s

theorem sound_setStale {s : State} {i : PointIdx} (good : (s.point i).quality = .good) :
    Sound s (s.setQuality i .stale) :=
  (tells_setQuality s _).sound (.inr good)

theorem Point.kept_tick (t : Point) : t.Kept t.tick ∧ t.tick.quality = t.quality := by
  unfold Point.tick
  split
  · exact ⟨⟨rfl, rfl, rfl⟩, rfl⟩
  · exact ⟨.refl t, rfl⟩

theorem sound_ageTick (s : State) :
    Sound s (((s.mapPoints Point.tick).modPort .a PortUnit.tick).modPort .b PortUnit.tick) :=
  ((sound_mapPoints s Point.kept_tick).trans (calm_modPort _ .a).sound).trans (calm_modPort _ .b).sound

theorem Point.kept_loseRead (t : Point) (p : Port) (lost : Fin 16 → Bool) :
    t.Kept (t.loseRead p lost) ∧ (t.loseRead p lost).quality = t.quality := by
  unfold Point.loseRead
  split
  · exact ⟨⟨rfl, rfl, rfl⟩, rfl⟩
  · exact ⟨.refl t, rfl⟩

/-! ### Ports (R70, R157, R158, R166 to R173) -/

theorem sound_raiseDev (s : State) (p : Port) (r : DevReason) : Sound s (s.raiseDev p r) :=
  (notices_raiseDev s p r).sound

theorem sound_modPort {s : State} {p : Port} {f : PortUnit → PortUnit} (rights : RightsHeld s → RightsHeld (s.modPort p f))
    (merged : ((s.port p).attention.map Entry.thing).Nodup → ((f (s.port p)).attention.map Entry.thing).Nodup) :
    Sound s (s.modPort p f) :=
  sound_same rfl rfl rights fun m q => by
    rw [port_modPort]
    split
    · exact merged (m p)
    · exact m q

theorem rightsHeld_iff (s : State) (p : Port) :
    RightsHeld s ↔ s.hasDevice p .rights = true ∨ s.hasDevice p.other .rights = true := by
  cases p with
  | a => rfl
  | b => exact or_comm

theorem sound_replaceRights {s : State} {q : Port} {groups : Vector (BitVec 3) 16} {device : BitVec 3}
    (last : device.getLsbD DeviceRight.rights.bit = true ∨ s.hasDevice q.other .rights = true) :
    Sound s (s.replaceRights q groups device) := by
  have changed : Sound s (s.modPort q fun u => { u with rights := groups, device := device }) :=
    sound_modPort (fun _ => by
      rw [rightsHeld_iff _ q, State.hasDevice, State.hasDevice, port_modPort_same, port_modPort,
        if_neg q.other_ne]
      exact last) id
  exact (changed.trans (sound_mapPoints _ fun t => t.kept_loseRead q _)).trans (sound_raiseDev _ q _)

theorem sound_resume (s : State) (p : Port) : Sound s (s.resume p) := by
  unfold State.resume
  split
  · exact (calm_modPort s p).sound.trans (sound_raiseDev _ p.other _)
  · exact .refl s

theorem sound_acceptFrame (s : State) (p : Port) : Sound s (s.acceptFrame p) :=
  (sound_resume s p).trans (calm_modPort _ p).sound

theorem Scheduler.kept_leavePort (c : Scheduler) (p : Port) : c.Kept (c.leavePort p) :=
  c.kept_mapQueue fun _ => rfl

theorem sound_resetPort (s : State) (p : Port) : Sound s (s.resetPort p) := by
  have emptied : Sound s (s.modPort p fun u => { u with reply := none, attention := [] }) :=
    sound_modPort (rightsHeld_of_device fun q => by
      rw [port_modPort]
      split
      · next same => rw [same]
      · rfl) fun _ => List.nodup_nil
  have left := emptied.trans (sound_mapPoints (f := fun t => t.leavePort p) _ fun _ => ⟨⟨rfl, rfl, rfl⟩, rfl⟩)
  have scheds := left.trans (sound_foldl (l := Seg.all) fun g _ t =>
    sound_modSched (s := t) (g := g) (f := fun c => c.leavePort p) (Scheduler.kept_leavePort _ p) id)
  have closed := scheds.trans (sound_foldl (l := allPoints.filter (s.named p)) fun i _ t => sound_closureTest t i)
  exact closed.trans (calm_modPort (f := fun u => { u with supPeriod := 0, supTimer := none, lapsed := false }) _ p).sound

/-- A port's safe values take their slots in turn: the points stay LIVE, each where it is. -/
theorem sound_placeSafe {s : State} {i : PointIdx} (live : (s.point i).life = .live) :
    Sound s (State.placeSafe i s) ∧ ∀ j, (s.point j).Kept ((State.placeSafe i s).point j) := by
  unfold State.placeSafe
  split
  · next v _ =>
    have kept := kept_placeValue s i ⟨v, .safe, true⟩
    have offered (t : State) (g : Seg) (j : PointIdx) : (t.offerUrgent g i).point j = t.point j := by
      unfold State.offerUrgent
      split <;> rfl
    refine ⟨(sound_placeValue s i _).trans (sound_offerUrgent ((kept i).life.trans live) (kept i).seg), fun j => ?_⟩
    rw [offered]
    exact kept j
  · exact ⟨.refl s, fun _ => .refl _⟩

theorem sound_placeSafes {s : State} {l : List PointIdx} (live : ∀ i ∈ l, (s.point i).life = .live) :
    Sound s (s.forPoints l State.placeSafe) := by
  refine (List.foldlRecOn (motive := fun t => Sound s t ∧ ∀ j, (s.point j).Kept (t.point j)) l _
    ⟨.refl s, fun _ => .refl _⟩ fun t ht i hi => ?_).1
  obtain ⟨sound, kept⟩ := ht
  obtain ⟨placed, places⟩ := sound_placeSafe ((kept i).life.trans (live i hi))
  exact ⟨sound.trans placed, fun j => (kept j).trans (places j)⟩

theorem sound_lapse (s : State) (p : Port) (e : Env) : Sound s (s.lapse p e) := by
  refine (((calm_modPort s p).sound.trans (sound_placeSafes fun i hi => ?_)).trans (sound_raiseDev _ p.other _)).trans
    (sound_foldl fun g _ t => ?_)
  · have owned := (List.mem_filter.mp hi).2
    simp only [Point.safeOwned, Bool.and_eq_true, decide_eq_true_eq] at owned
    exact owned.1.1.1
  · split
    · exact .refl t
    · exact sound_arbitrate t g e

theorem sound_takeAttention (s : State) (p : Port) (ps : List Byte) : Sound s (takeAttention p ps s).state := by
  unfold takeAttention
  split
  · exact .refl s
  · split
    · exact .refl s
    · next x rest list =>
      have taken : Sound s (s.modPort p fun u => { u with attention := rest }) :=
        sound_modPort (rightsHeld_of_device fun q => by
          rw [port_modPort]
          split
          · next same => rw [same]
          · rfl) fun once => by
            rw [list, List.map_cons, List.nodup_cons] at once
            exact once.2
      refine taken.trans ?_
      cases x with
      | point i gen n => exact sound_closureTest _ i
      | segment g n => exact .refl _
      | device n => exact .refl _

end Sys2Proof.Machine
end

section
/-! PROOF. What DEFINE_POINT, RETIRE_POINT and MODIFY_POINT keep (R11 to R20, R74 to R76): the scan list and the record
change in turn, and only together do they make a lawful state. -/

namespace Sys2Proof.Machine

/-! ### The scan list (R74 to R76) -/

theorem perm_insertBefore (i b : PointIdx) (l : List PointIdx) : (insertBefore i b l).Perm (i :: l) := by
  induction l with
  | nil => exact .refl _
  | cons x xs ih =>
    unfold insertBefore
    split
    · exact .refl _
    · exact (ih.cons x).trans (.swap i x xs)

theorem perm_joinList (c : Scheduler) (i : PointIdx) (before : Option PointIdx) :
    (c.joinList i before).list.Perm (i :: c.list) := by
  cases before with
  | none => exact List.perm_append_singleton i c.list
  | some b => exact perm_insertBefore i b c.list

theorem mem_leaveList (c : Scheduler) (i j : PointIdx) : j ∈ (c.leaveList i).list ↔ j ∈ c.list ∧ j ≠ i := by
  simp [Scheduler.leaveList]

theorem successor_ne {l : List PointIdx} (once : l.Nodup) {i j : PointIdx} (h : successor l i = some j) : j ≠ i := by
  induction l with
  | nil => cases h
  | cons x xs ih =>
    obtain ⟨new, once⟩ := List.nodup_cons.mp once
    unfold successor at h
    split at h
    · next same => exact fun e => new (same ▸ e ▸ List.mem_of_head? h)
    · exact ih once h

theorem cursor_leaveList {c : Scheduler} (once : c.list.Nodup) (own : ∀ j, c.cursor = some j → j ∈ c.list)
    {i j : PointIdx} (h : (c.leaveList i).cursor = some j) : j ∈ (c.leaveList i).list := by
  rw [mem_leaveList]
  have h : (if c.cursor = some i then successor c.list i else c.cursor) = some j := h
  split at h
  · exact ⟨mem_of_successor h, successor_ne once h⟩
  · next other => exact ⟨own j h, fun same => other (same ▸ h)⟩

/-! ### DEFINE_POINT (R11, R12) -/

theorem lowestFree_free {s : State} {i : PointIdx} (h : s.lowestFree = some i) : (s.point i).life = .free :=
  of_decide_eq_true (List.find?_some (p := fun i => decide ((s.point i).life = .free)) h)

theorem counted_iff (l : Life) : l.counted = true ↔ l = .live ∨ l = .retiring := decide_eq_true_iff

theorem card_filter_allPoints (p : PointIdx → Bool) :
    (allPoints.filter p).length = (Finset.univ.filter fun i => p i = true).card := by
  have once : allPoints.Nodup := List.nodup_finRange 256
  rw [← List.toFinset_card_of_nodup (once.filter p)]
  congr 1
  ext i
  simp [allPoints]

theorem segmentFull_iff (s : State) (g : Seg) :
    s.segmentFull g = true ↔ Config.segmentPoints ≤ (s.countedIn g).card := by
  rw [State.segmentFull, decide_eq_true_iff, card_filter_allPoints]
  simp only [Bool.and_eq_true, counted_iff, decide_eq_true_eq]

theorem initialQuality_of_not_on {s : State} {g : Seg} (off : (s.feed g).state ≠ .on) (n : NodeIdx) :
    s.initialQuality g n = .unpowered :=
  if_pos ((powered_eq_false_iff s g).mpr off)

/-- An accepted DEFINE_POINT component by component. -/
structure Defines (d : Definition) (i : PointIdx) (s t : State) : Prop where
  ports : t.ports = s.ports
  point : (t.point i).life = .live ∧ (t.point i).seg = d.seg ∧ (t.point i).node = d.node ∧
    (t.point i).quality = s.initialQuality d.seg d.node
  others : ∀ j, j ≠ i → t.point j = s.point j
  list : (t.sched d.seg).list.Perm (i :: (s.sched d.seg).list)
  sched : ∀ g, t.sched g = { s.sched g with list := (t.sched g).list }
  elsewhere : ∀ g, g ≠ d.seg → t.sched g = s.sched g
  link : ∀ g, t.link g = s.link g
  feed : ∀ g, t.feed g = s.feed g
  node : ∀ g n, t.node g n = if g = d.seg ∧ n = d.node then (s.node g n).join else s.node g n

theorem defines_define (s : State) (p : Port) (d : Definition) (i : PointIdx) (before : Option PointIdx) :
    Defines d i s (s.define p d i before) := by
  have sched (g : Seg) : (s.define p d i before).sched g =
      if g = d.seg then (s.sched d.seg).joinList i before else s.sched g := by
    rw [State.define, sched_modNode, sched_modSched]
    rfl
  refine ⟨rfl, ?_, fun j hj => point_setPoint_ne s _ hj, ?_, fun g => ?_, fun g hg => ?_, fun g => ?_, fun g => ?_,
    fun g n => ?_⟩
  · rw [State.define, point_modNode, point_modSched, point_setPoint_same]
    exact ⟨rfl, rfl, rfl, rfl⟩
  · rw [sched, if_pos rfl]
    exact perm_joinList _ i before
  · rw [sched]
    split
    · next same =>
      rw [same]
      rfl
    · rfl
  · rw [sched, if_neg hg]
  · rw [State.define, link_modNode, link_modSched, link_setPoint]
  · rw [State.define, feed_modNode, feed_modSched, feed_setPoint]
  · rw [State.define, node_modNode, node_modSched, node_setPoint]

section
variable {d : Definition} {i : PointIdx} {s t : State}

theorem Defines.queue (h : Defines d i s t) (g : Seg) : (t.sched g).queue = (s.sched g).queue := by rw [h.sched]

theorem Defines.scan (h : Defines d i s t) (g : Seg) : (t.sched g).scan = (s.sched g).scan := by rw [h.sched]

theorem Defines.scanListsSound (h : Defines d i s t) (free : (s.point i).life = .free) (l : ScanListsSound s) :
    ScanListsSound t := fun g => by
  obtain ⟨live, home, -, -⟩ := h.point
  obtain ⟨once, members, cursor⟩ := l g
  have cursor_eq : (t.sched g).cursor = (s.sched g).cursor := by rw [h.sched]
  have new : i ∉ (s.sched g).list := fun listed => by
    have lives := ((members i).mp listed).1
    rw [free] at lives
    cases lives
  rw [cursor_eq]
  by_cases same : g = d.seg
  · subst same
    refine ⟨h.list.nodup_iff.mpr (List.nodup_cons.mpr ⟨new, once⟩), fun j => ?_, fun j hj =>
      h.list.mem_iff.mpr (List.mem_cons_of_mem _ (cursor j hj))⟩
    rw [h.list.mem_iff, List.mem_cons]
    by_cases hj : j = i
    · subst hj
      exact iff_of_true (.inl rfl) ⟨live, home⟩
    · rw [h.others j hj, members j]
      exact or_iff_right hj
  · rw [h.elsewhere g same]
    refine ⟨once, fun j => ?_, cursor⟩
    by_cases hj : j = i
    · subst hj
      exact iff_of_false new fun k => same (k.2.symm.trans home)
    · rw [h.others j hj, members j]

theorem Defines.nodeCounts (h : Defines d i s t) (free : (s.point i).life = .free)
    (room : s.segmentFull d.seg = false) (n : NodeCounts s) : NodeCounts t := by
  obtain ⟨live, home, address, -⟩ := h.point
  obtain ⟨records, full⟩ := n
  have unused : ¬ ((s.point i).life = .live ∨ (s.point i).life = .retiring) := by simp [free]
  have inserted (g : Seg) (n : NodeIdx) : t.countedAt g n =
      if g = d.seg ∧ n = d.node then insert i (s.countedAt g n) else s.countedAt g n := by
    ext j
    by_cases hj : j = i
    · subst hj
      rw [Finset.mem_filter]
      split
      · next here =>
        exact iff_of_true ⟨Finset.mem_univ _, .inl live, home.trans here.1.symm, address.trans here.2.symm⟩
          (Finset.mem_insert_self _ _)
      · next away =>
        exact iff_of_false (fun k => away ⟨k.2.2.1.symm.trans home, k.2.2.2.symm.trans address⟩) fun k =>
          unused (Finset.mem_filter.mp k).2.1
    · split <;> simp [h.others j hj, hj]
  have inserted' (g : Seg) : t.countedIn g = if g = d.seg then insert i (s.countedIn g) else s.countedIn g := by
    ext j
    by_cases hj : j = i
    · subst hj
      rw [Finset.mem_filter]
      split
      · next here => exact iff_of_true ⟨Finset.mem_univ _, .inl live, home.trans here.symm⟩ (Finset.mem_insert_self _ _)
      · next away =>
        exact iff_of_false (fun k => away (k.2.2.symm.trans home)) fun k => unused (Finset.mem_filter.mp k).2.1
    · split <;> simp [h.others j hj, hj]
  refine ⟨fun g n => ?_, fun g => ?_⟩
  · obtain ⟨refs, idle, clear⟩ := records g n
    have count : (s.node g n).refs = (s.countedAt g n).card := refs
    suffices (t.node g n).refs = (t.countedAt g n).card ∧ ((t.node g n).state = .idle ↔ (t.node g n).refs = 0) ∧
        ((t.node g n).state = .idle → (t.node g n).failures = 0 ∧ (t.node g n).probe = false) from this
    have absent : i ∉ s.countedAt g n := fun member => unused (Finset.mem_filter.mp member).2.1
    rw [h.node, inserted]
    split
    · rw [Finset.card_insert_of_notMem absent, ← count]
      unfold NodeRec.join
      split
      · next first => exact ⟨by rw [first], by simp, nofun⟩
      · next more =>
        have busy : (s.node g n).state ≠ .idle := fun k => more (idle.mp k)
        exact ⟨rfl, iff_of_false busy (Nat.succ_ne_zero _), fun k => absurd k busy⟩
    · exact ⟨count, idle, clear⟩
  · suffices (t.countedIn g).card ≤ Config.segmentPoints from this
    rw [inserted']
    split
    · next same =>
      have less : (s.countedIn g).card < Config.segmentPoints := by
        rw [same, ← not_le, ← segmentFull_iff, room]
        nofun
      exact (Finset.card_insert_le _ _).trans less
    · exact full g

theorem Defines.segmentLaw (h : Defines d i s t) (free : (s.point i).life = .free) (law : SegmentLaw s) :
    SegmentLaw t := fun g => by
  obtain ⟨-, home, -, quality⟩ := h.point
  obtain ⟨once, own, serves, quiet⟩ := law g
  have used {j : PointIdx} (k : (s.point j).life = .live ∨ (s.point j).life = .retiring) : t.point j = s.point j :=
    h.others j fun same => by
      rw [same, free] at k
      rcases k with k | k <;> cases k
  rw [h.queue, h.scan, h.link, h.feed]
  refine ⟨once, fun x hx => ?_, fun x hx => ?_, fun off => ?_⟩
  · rw [used (.inl (own x hx).1)]
    exact own x hx
  · obtain ⟨seg, node, life⟩ := serves x hx
    rw [used life]
    exact ⟨seg, node, life⟩
  · obtain ⟨link, queue, scan, dark⟩ := quiet off
    refine ⟨link, queue, scan, fun j live seg => ?_⟩
    by_cases hj : j = i
    · subst hj
      rw [quality, initialQuality_of_not_on]
      rwa [← home, seg]
    · rw [h.others j hj] at live seg ⊢
      exact dark j live seg

theorem Defines.sound (h : Defines d i s t) (free : (s.point i).life = .free) (room : s.segmentFull d.seg = false) :
    Sound s t := by
  refine ⟨rightsHeld_of_device fun p => by rw [State.port, State.port, h.ports], fun m p => ?_, fun k g => ?_,
    fun k g => ?_, h.scanListsSound free, fun _ => h.nodeCounts free room, fun k g => ?_,
    fun _ => h.segmentLaw free⟩
  · rw [State.port, h.ports]
    exact m p
  · rw [h.queue]
    exact k g
  · have cycles : (t.sched g).cyclesEnded = (s.sched g).cyclesEnded := by rw [h.sched]
    have overruns : (t.sched g).overruns = (s.sched g).overruns := by rw [h.sched]
    have back : (t.sched g).backToBack = (s.sched g).backToBack := by rw [h.sched]
    rw [cycles, overruns, back]
    exact k g
  · rw [h.feed, h.link, h.queue, h.scan]
    exact k g

end

/-- A check that refuses, or lets the rest of the command be done. -/
theorem sound_unless {s : State} {c : Prop} [Decidable c] {r : Result} {a : Answer} (h : ¬ c → Sound s a.state) :
    Sound s (if c then refuse s r else a).state := by
  split
  · exact .refl s
  · next passed => exact h passed

theorem sound_definePoint (p : Port) (ps : List Byte) (s : State) : Sound s (definePoint p ps s).state := by
  unfold definePoint
  split
  · exact .refl s
  · next d _ =>
    refine sound_unless fun _ => sound_unless fun _ => sound_unless fun _ => sound_unless fun _ =>
      sound_unless fun notFull => ?_
    split
    · exact .refl s
    · next i free => exact (defines_define s p d i _).sound (lowestFree_free free) (eq_false_of_ne_true notFull)

end Sys2Proof.Machine
end

section
/-! PROOF. What RETIRE_POINT and MODIFY_POINT keep (R13, R14, R19, R76): a point that has left its scan list and queue is
neither queued nor granted by what follows, so its record may go before or after. -/

namespace Sys2Proof.Machine

/-! ### A cycle that a leaving point ends (R76, R82) -/

theorem inCycle_of_quiet {c : ScanState} (h : c.quiet) : c.inCycle = false := by
  rcases h with rfl | rfl | rfl | rfl <;> rfl

theorem completeIfPassed_of_quiet {s : State} {g : Seg} (h : (s.sched g).scan.quiet) (had : Bool) (e : Env) :
    s.completeIfPassed g had e = s := by
  simp [State.completeIfPassed, inCycle_of_quiet h]

theorem steady_completeIfPassed {c : Scope} {g : Seg} (hg : c.reach g) (s : State) (had : Bool) (e : Env) :
    Steady c s (s.completeIfPassed g had e) := by
  refine .ite fun _ => ?_
  dsimp only
  split
  · exact (steady_complete hg s).trans (steady_arbitrate hg _ e)
  · exact steady_complete hg s

theorem touches_completeIfPassed {F L G : Seg → Prop} {g : Seg} (hl : L g) (hg : G g) (s : State) (had : Bool)
    (e : Env) : Touches F L G s (s.completeIfPassed g had e) := by
  unfold State.completeIfPassed
  split
  · dsimp only
    split
    · exact (touches_complete hg s).trans (touches_arbitrate hl hg _ e)
    · exact touches_complete hg s
  · exact .refl F L G s

theorem sound_completeIfPassed (s : State) (g : Seg) (had : Bool) (e : Env) : Sound s (s.completeIfPassed g had e) :=
  sound_loud (steady_completeIfPassed rfl s had e) (touches_completeIfPassed (onlySeg_self g) (onlySeg_self g) s had e)
    fun quiet => completeIfPassed_of_quiet quiet had e

/-! ### A LIVE point outside its scan list -/

/-- What is left of a Scheduler that a point leaves: its list without the point, its cursor on that, no new entry. -/
structure Scheduler.Leaves (i : PointIdx) (c d : Scheduler) : Prop where
  list : d.list = c.list.filter fun x => decide (x ≠ i)
  cursor : d.cursor = (c.leaveList i).cursor
  queue : d.queue.Sublist c.queue
  scan : d.scan = c.scan
  counts : d.cyclesEnded = c.cyclesEnded ∧ d.overruns = c.overruns ∧ d.backToBack = c.backToBack

/-- From `s` the LIVE point `i` has left its scan list, by `m`, and the Scheduler has gone on without it, to `t`: what is
then kept. -/
structure Left (i : PointIdx) (s m t : State) : Prop where
  rights : RightsHeld s → RightsHeld t
  merged : ListsMerged s → ListsMerged t
  fit : QueuesFit s → QueuesFit t
  counts : SchedCounts s → SchedCounts t
  list : ∀ g, (t.sched g).list = (m.sched g).list
  live : ∀ j, (t.point j).life = .live ↔ (s.point j).life = .live
  place : ∀ j, (s.point j).life = .live → (s.point j).Kept (t.point j)
  lists : ScanListsSound s → ListsOwn t
  nodes : ScanListsSound s → NodeCounts s → NodeCounts t
  asleep : ∀ g, Asleep s g → Asleep t g
  law : ScanListsSound s → SegmentLaw s → QueuesOwn t ∧ AllAimed t ∧ (∀ g, Engaged t g) ∧ ∀ g, Dark t g
  joins : ∀ g, (t.sched g).queue.map DemandEntry.point ⊆ (m.sched g).queue.map DemandEntry.point
  target : ∀ g y, (t.link g).exchange = some y → (∃ x, (s.link g).exchange = some x ∧ y.target = x.target) ∨
    y.target ∈ (m.sched g).list ∨ y.target ∈ (m.sched g).queue.map DemandEntry.point

section
variable {s t : State} {i : PointIdx} {f : Scheduler → Scheduler}

/-- The point leaves its list. -/
theorem left_modSched (leaves : (s.sched (s.point i).seg).Leaves i (f (s.sched (s.point i).seg))) :
    Left i s (s.modSched (s.point i).seg f) (s.modSched (s.point i).seg f) := by
  have queue (h : Seg) : ((s.modSched (s.point i).seg f).sched h).queue.Sublist (s.sched h).queue := by
    rw [sched_modSched]
    split
    · next same => exact same ▸ leaves.queue
    · exact .refl _
  have lists (l : ScanListsSound s) : ListsOwn (s.modSched (s.point i).seg f) := fun h => by
    obtain ⟨once, members, cursor⟩ := l h
    rw [sched_modSched]
    split
    · next same =>
      subst same
      rw [leaves.list, leaves.cursor]
      exact ⟨once.filter _, fun j hj => (members j).mp (List.mem_of_mem_filter hj), fun j =>
        cursor_leaveList once cursor⟩
    · exact ⟨once, fun j => (members j).mp, cursor⟩
  have asleep (h : Seg) (k : Asleep s h) : Asleep (s.modSched (s.point i).seg f) h := fun off => by
    rw [feed_modSched] at off
    obtain ⟨link, empty, scan⟩ := k off
    have nil := queue h
    rw [empty, List.sublist_nil] at nil
    rw [link_modSched]
    refine ⟨link, nil, ?_⟩
    rw [sched_modSched]
    split
    · next same => exact leaves.scan ▸ same ▸ scan
    · exact scan
  refine
    { rights := id, merged := id, fit := fun k h => (queue h).length_le.trans (k h), counts := fun k h => ?_
      list := fun _ => rfl, live := fun _ => Iff.rfl, place := fun _ _ => .refl _, lists := lists
      nodes := fun _ k => NodeCounts.kept (s := s) (fun _ => .refl _) (fun h n => node_modSched s _ f h n ▸ .refl _) k
      asleep := asleep, law := fun _ law => ?_, joins := fun _ _ => id
      target := fun h y hy => .inl ⟨y, link_modSched s _ f h ▸ hy, rfl⟩ }
  · rw [sched_modSched]
    split
    · obtain ⟨cycles, overruns, back⟩ := leaves.counts
      rw [cycles, overruns, back]
      exact k _
    · exact k h
  · obtain ⟨queues, aimed, engaged, rest⟩ := (segmentLaw_iff s).mp law
    refine ⟨fun h => ?_, fun h x hx => aimed h x (link_modSched s _ f h ▸ hx), fun h x hx =>
      engaged h x (link_modSched s _ f h ▸ hx), fun h off => (rest h).2 (feed_modSched s _ f h ▸ off)⟩
    exact ⟨(queues h).1.sublist ((queue h).map _), fun j hj => (queues h).2 j (((queue h).map _).subset hj)⟩

/-- The Scheduler goes on without the point. -/
theorem Left.completeIfPassed {m : State} {g : Seg} (h : Left i s m t) (had : Bool) (e : Env) :
    Left i s m (t.completeIfPassed g had e) := by
  have steady : Steady ⟨Lawful t, onlySeg g, noSeg, noSeg⟩ t (t.completeIfPassed g had e) :=
    steady_completeIfPassed rfl t had e
  have touch := touches_completeIfPassed (F := noSeg) (onlySeg_self g) (onlySeg_self g) t had e
  have still (off : (t.feed g).state ≠ .on) (k : Asleep t g) : t.completeIfPassed g had e = t :=
    completeIfPassed_of_quiet (k off).2.2 had e
  have feed (x : Seg) : (t.completeIfPassed g had e).feed x = t.feed x := touch.feed x id
  have asleep (x : Seg) (k : Asleep t x) : Asleep (t.completeIfPassed g had e) x := by
    by_cases same : x = g
    · subst same
      intro off
      rw [feed] at off
      rw [still off k]
      exact k off
    · rw [Asleep, feed, touch.link x same, touch.sched x same]
      exact k
  have queued (x : Seg) := steady.joins x id
  refine
    { rights := fun k => rightsHeld_of_device steady.device (h.rights k), merged := fun k => steady.merged (h.merged k)
      fit := fun k => steady.fit (h.fit k), counts := fun k => steady.counts (h.counts k)
      list := fun x => (steady.list x).trans (h.list x), live := fun j => (steady.live j).trans (h.live j)
      place := fun j live => ?_, lists := fun l => steady.lists (h.lists l)
      nodes := fun l k => steady.nodes (h.lists l) (h.nodes l k), asleep := fun x k => asleep x (h.asleep x k)
      law := fun l law => ?_, joins := fun x => List.Subset.trans (queued x) (h.joins x)
      target := fun x y hy => ?_ }
  · have live' := (h.live j).mpr live
    obtain ⟨-, seg, node⟩ := steady.place j (.inl ((steady.live j).mpr live'))
    exact (h.place j live).trans ⟨by rw [live', (steady.live j).mpr live'], seg, node⟩
  · obtain ⟨queues, aimed, engaged, dark⟩ := h.law l law
    have lists := h.lists l
    have lawful : Lawful t := ⟨lists, queues, aimed⟩
    refine ⟨steady.queues lawful queues, steady.aimed lawful lists queues aimed,
      fun x => steady.engaged lawful lists queues aimed x id (engaged x), fun x off j live seg => ?_⟩
    rw [feed] at off
    have home := steady.seg_of_live ((steady.live j).mp live)
    by_cases same : x = g
    · subst same
      have k := h.asleep x (((segmentLaw_iff s).mp law).2.2.2 x).1
      rw [still off k] at live seg ⊢
      exact dark x off j live seg
    · have kept := steady.point lawful lists queues j fun reach : (t.point j).seg = g =>
        same (seg.symm.trans (home.trans reach))
      rw [kept] at live seg ⊢
      exact dark x off j live seg
  · rcases steady.target x id y hy with ⟨z, hz, same⟩ | listed | queue
    · exact same ▸ h.target x z hz
    · exact .inr (.inl (h.list x ▸ listed))
    · exact .inr (.inr (h.joins x queue))

/-! ### MODIFY_POINT (R19, R76) -/

theorem Scheduler.leaves_leaveList (c : Scheduler) (i : PointIdx) : c.Leaves i (c.leaveList i) :=
  ⟨rfl, rfl, .refl _, rfl, rfl, rfl, rfl⟩

/-- The point joins the list that it has left. -/
theorem Left.rejoin {g : Seg} (h : Left i s (s.modSched g fun c => c.leaveList i) t) (live : (s.point i).life = .live)
    (home : (s.point i).seg = g) (before : Option PointIdx) : Sound s (t.modSched g fun c => c.joinList i before) := by
  have sched (x : Seg) : (t.modSched g fun c => c.joinList i before).sched x =
      if x = g then (t.sched g).joinList i before else t.sched x := sched_modSched t g x _
  have feed (x : Seg) : (t.modSched g fun c => c.joinList i before).feed x = t.feed x := feed_modSched t g _ x
  have link (x : Seg) : (t.modSched g fun c => c.joinList i before).link x = t.link x := link_modSched t g _ x
  have queue (x : Seg) : ((t.modSched g fun c => c.joinList i before).sched x).queue = (t.sched x).queue ∧
      ((t.modSched g fun c => c.joinList i before).sched x).scan = (t.sched x).scan := by
    rw [sched]
    split
    · next same => exact same ▸ ⟨rfl, rfl⟩
    · exact ⟨rfl, rfl⟩
  have asleep (x : Seg) (k : Asleep s x) : Asleep (t.modSched g fun c => c.joinList i before) x := by
    rw [Asleep, feed, link, (queue x).1, (queue x).2]
    exact h.asleep x k
  have seg (j : PointIdx) (lives : (s.point j).life = .live) : (t.point j).seg = (s.point j).seg := (h.place j lives).seg
  refine ⟨fun k => h.rights k, fun k => h.merged k, fun k x => (queue x).1 ▸ h.fit k x, fun k x => ?_, fun l x => ?_,
    fun l k => NodeCounts.kept (s := t) (fun _ => .refl _) (fun x n => node_modSched t g _ x n ▸ .refl _) (h.nodes l k),
    fun k x => asleep x (k x), fun l law => ?_⟩
  · rw [sched]
    split
    · exact h.counts k g
    · exact h.counts k x
  · obtain ⟨once, own, cursor⟩ := h.lists l x
    obtain ⟨-, members, -⟩ := l x
    have member (j : PointIdx) : (t.point j).life = .live ∧ (t.point j).seg = x ↔ j ∈ (s.sched x).list := by
      rw [members j, h.live j]
      exact and_congr_right fun lives => by rw [seg j lives]
    have left (j : PointIdx) : j ∈ (t.sched x).list ↔ j ∈ (s.sched x).list ∧ (x = g → j ≠ i) := by
      rw [h.list, sched_modSched]
      split
      · next same => simp [mem_leaveList, same]
      · next other => exact (and_iff_left fun same => absurd same other).symm
    rw [sched]
    split
    · next same =>
      subst same
      have perm := perm_joinList (t.sched x) i before
      refine ⟨perm.nodup_iff.mpr (List.nodup_cons.mpr ⟨fun k => ((left i).mp k).2 rfl rfl, once⟩), fun j => ?_,
        fun j hj => perm.mem_iff.mpr (List.mem_cons_of_mem _ (cursor j hj))⟩
      rw [perm.mem_iff, List.mem_cons, left, point_modSched, member]
      by_cases hj : j = i
      · subst hj
        exact iff_of_true (.inl rfl) ((members j).mpr ⟨live, home⟩)
      · simp [hj]
    · next other =>
      refine ⟨once, fun j => ?_, cursor⟩
      rw [left, point_modSched, member]
      exact and_iff_left fun same => absurd same other
  · obtain ⟨queues, aimed, engaged, dark⟩ := h.law l law
    refine (segmentLaw_iff _).mpr ⟨fun x => ?_, fun x y hy => aimed x y (link x ▸ hy), fun x y hy =>
      engaged x y (link x ▸ hy), fun x => ⟨asleep x (((segmentLaw_iff s).mp law).2.2.2 x).1, fun off =>
        dark x (feed x ▸ off)⟩⟩
    rw [(queue x).1]
    exact queues x

theorem sound_movePoint {g : Seg} (live : (s.point i).life = .live) (home : (s.point i).seg = g)
    (before : Option PointIdx) (e : Env) : Sound s (s.movePoint g i before e) := by
  subst home
  exact ((left_modSched (Scheduler.leaves_leaveList _ i)).completeIfPassed _ e).rejoin live rfl before

theorem kept_movePoint {g : Seg} (live : (s.point i).life = .live) (home : (s.point i).seg = g)
    (before : Option PointIdx) (e : Env) : (s.point i).Kept ((s.movePoint g i before e).point i) := by
  subst home
  exact ((left_modSched (f := fun c => c.leaveList i) (Scheduler.leaves_leaveList _ i)).completeIfPassed
    (g := (s.point i).seg) _ e).place i live

theorem sound_modifyFields (s : State) (i : PointIdx) (ps : List Byte) : Sound s (s.modifyFields i ps) :=
  sound_modPoint s

theorem sound_modifyRecord (s : State) (i : PointIdx) (ps : List Byte) : Sound s (s.modifyRecord i ps) := by
  refine Sound.trans (Sound.ite fun expired => sound_setStale ?_) (sound_modifyFields _ i ps)
  simp only [Point.expired, Bool.and_eq_true, decide_eq_true_eq] at expired
  exact expired.2.1.1

theorem kept_modifyRecord (s : State) (i : PointIdx) (ps : List Byte) :
    (s.point i).Kept ((s.modifyRecord i ps).point i) :=
  ((Tells.ite (tells_setQuality s _)).trans (tells_modPoint _)).kept

theorem sound_modifyPart {g : Seg} (live : (s.point i).life = .live) (home : (s.point i).seg = g) (ps : List Byte)
    (e : Env) (part : Part) : Sound s (State.modifyPart g i ps e part s) ∧
      (s.point i).Kept ((State.modifyPart g i ps e part s).point i) := by
  cases part with
  | points h => exact ⟨sound_modifyRecord s i ps, kept_modifyRecord s i ps⟩
  | sched h =>
    have moves : State.modifyPart g i ps e (.sched h) s = if selected ps 4 then
        s.movePoint g i (if modifyBefore ps then some (argHandle ps 9).idx else none) e else s := rfl
    rw [moves]
    split
    · exact ⟨sound_movePoint live home _ e, kept_movePoint live home _ e⟩
    · exact ⟨.refl s, .refl _⟩
  | _ => exact ⟨.refl s, .refl _⟩

theorem sound_modifyParts {g : Seg} (live : (s.point i).life = .live) (home : (s.point i).seg = g) (ps : List Byte)
    (e : Env) (parts : List Part) : Sound s (s.takeParts (State.modifyPart g i ps e) parts) := by
  refine (List.foldlRecOn (motive := fun t => Sound s t ∧ (s.point i).Kept (t.point i)) parts _
    ⟨.refl s, .refl _⟩ fun t ht part _ => ?_).1
  obtain ⟨sound, kept⟩ := ht
  obtain ⟨taken, keeps⟩ := sound_modifyPart (kept.life.trans live) (kept.seg.trans home) ps e part
  exact ⟨sound.trans taken, kept.trans keeps⟩

end

theorem handleOk_live {s : State} {h : Handle} (ok : s.handleOk h = true) : (s.point h.idx).life = .live :=
  (of_decide_eq_true ok).1

theorem sound_modifyPoint (p : Port) (ps : List Byte) (e : Env) (s : State) :
    Sound s (modifyPoint p ps e s).state := by
  unfold modifyPoint
  exact sound_unless fun _ => sound_unless fun handle => sound_unless fun _ => sound_unless fun _ =>
    sound_unless fun _ => sound_unless fun _ => sound_unless fun _ => sound_unless fun _ =>
    sound_modifyParts (handleOk_live (eq_true_of_ne_false handle)) rfl ps e _

end Sys2Proof.Machine
end

section
/-! PROOF. What RETIRE_POINT keeps (R13, R14): the record is withdrawn before or after its segment's Scheduler has gone on
without it. -/

namespace Sys2Proof.Machine

/-! ### The order of parts (R152) -/

theorem mem_arrange (order due : List Part) (x : Part) : x ∈ arrange order due ↔ x ∈ due := by
  simp only [arrange, List.mem_append, List.mem_dedup, List.mem_filter, decide_eq_true_eq]
  constructor
  · rintro (⟨-, h⟩ | ⟨h, -⟩)
    · exact h
    · exact h
  · intro h
    by_cases listed : x ∈ order
    · exact .inl ⟨listed, h⟩
    · exact .inr ⟨h, fun k => listed k.1⟩

theorem nodup_arrange (order : List Part) {due : List Part} (once : due.Nodup) : (arrange order due).Nodup := by
  refine List.nodup_append.mpr ⟨List.nodup_dedup _, once.filter _, fun x hx y hy same => ?_⟩
  rw [List.mem_filter, decide_eq_true_eq] at hy
  exact hy.2 (same ▸ hx)

/-- Every part that is due is taken once. -/
theorem arrange_perm (order : List Part) {due : List Part} (once : due.Nodup) : (arrange order due).Perm due :=
  (List.perm_ext_iff_of_nodup (nodup_arrange order once) once).mpr (mem_arrange order due)

theorem arrange_pair (order : List Part) {a b : Part} (ne : a ≠ b) :
    arrange order [a, b] = [a, b] ∨ arrange order [a, b] = [b, a] := by
  have perm := arrange_perm order (due := [a, b]) (by simp [ne])
  generalize arrange order [a, b] = l at perm
  match l, perm.length_eq with
  | [x, y], _ =>
    have hx := perm.mem_iff (a := x)
    have hy := perm.mem_iff (a := y)
    have xy := (perm.nodup_iff.mpr (by simp [ne]))
    simp only [List.mem_cons, List.not_mem_nil, or_false, true_or, or_true, true_iff, List.nodup_cons] at hx hy xy
    rcases hx with rfl | rfl <;> rcases hy with rfl | rfl <;> simp_all

/-! ### A record withdrawn (R13 to R16) -/

/-- The record of a LIVE point is withdrawn: RETIRING while an exchange serves it, else out of use and no longer counted
at its node. -/
structure Withdraws (i : PointIdx) (serving : Bool) (s t : State) : Prop where
  device : ∀ p, (t.port p).device = (s.port p).device
  merged : ListsMerged s → ListsMerged t
  others : ∀ j, j ≠ i → t.point j = s.point j
  sched : ∀ g, t.sched g = s.sched g
  link : ∀ g, t.link g = s.link g
  feed : ∀ g, t.feed g = s.feed g
  served : serving = true → (t.point i).life = .retiring ∧ (t.point i).seg = (s.point i).seg ∧
    (t.point i).node = (s.point i).node ∧ t.segs = s.segs
  closed : serving = false → ¬ (t.point i).inUse ∧
    t.segs = (s.modNode (s.point i).seg (s.point i).node NodeRec.leave).segs

theorem segs_modNode_congr {s t : State} (h : t.segs = s.segs) (g : Seg) (n : NodeIdx) (f : NodeRec → NodeRec) :
    (t.modNode g n f).segs = (s.modNode g n f).segs := by
  simp only [State.modNode, State.modSeg, h]

theorem segs_modSched_congr {s t : State} (h : t.segs = s.segs) (g : Seg) (f : Scheduler → Scheduler) :
    (t.modSched g f).segs = (s.modSched g f).segs := by
  simp only [State.modSched, State.modSeg, h]

theorem modSched_modNode (s : State) (g h : Seg) (n : NodeIdx) (f : Scheduler → Scheduler) (k : NodeRec → NodeRec) :
    (s.modNode h n k).modSched g f = (s.modSched g f).modNode h n k := by
  cases g <;> cases h <;> rfl

/-- The record of a RETIRING point. -/
def Point.retiring (t : Point) : Point :=
  { t with life := .retiring, slot := none, retireSet := portUnion (slotPorts t.slot) (slotPorts t.inFlight) }

theorem retireRecord_eq (s : State) (i : PointIdx) (serving : Bool) :
    ∃ u, Notices s u ∧ s.retireRecord i serving =
      if serving then u.modPoint i Point.retiring else (u.modPoint i Point.retiring).closePoint i := by
  refine ⟨match (s.point i).slot with
    | some f => s.raisePoint i (.write .cancelled f.writer) (writerPorts f.writer)
    | none => s, ?_, rfl⟩
  split
  · exact notices_raisePoint s i _ _
  · exact .refl s

theorem withdraws_retireRecord (s : State) (i : PointIdx) (serving : Bool) :
    Withdraws i serving s (s.retireRecord i serving) := by
  obtain ⟨u, notices, eq⟩ := retireRecord_eq s i serving
  rw [eq]
  have point := notices.point i
  cases serving with
  | true =>
    exact
      { device := notices.device, merged := notices.merged
        others := fun j hj => (point_modPoint_ne u _ hj).trans (notices.point j), sched := notices.sched
        link := notices.link, feed := notices.feed
        served := fun _ => by
          rw [if_pos rfl, point_modPoint_same, point]
          exact ⟨rfl, rfl, rfl, notices.segs⟩
        closed := nofun }
  | false =>
    generalize retiring : u.modPoint i Point.retiring = r
    have home : (r.point i).seg = (s.point i).seg ∧ (r.point i).node = (s.point i).node := by
      rw [← retiring, point_modPoint_same, point]
      exact ⟨rfl, rfl⟩
    have segs : r.segs = s.segs := by
      rw [← retiring]
      exact notices.segs
    have same (j : PointIdx) (hj : j ≠ i) : r.point j = s.point j := by
      rw [← retiring, point_modPoint_ne _ _ hj]
      exact notices.point j
    have ports : r.ports = u.ports := by rw [← retiring]; rfl
    obtain ⟨idle, others, segs', device, merged⟩ := closePoint_reads r i
    have eqs : (r.closePoint i).segs = (s.modNode (s.point i).seg (s.point i).node NodeRec.leave).segs := by
      rw [segs', home.1, home.2]
      exact segs_modNode_congr segs _ _ _
    have seg (g : Seg) : (r.closePoint i).seg g = (s.modNode (s.point i).seg (s.point i).node NodeRec.leave).seg g :=
      congrArg (·.get g) eqs
    exact
      { device := fun p => (device p).trans (by rw [State.port, ports]; exact notices.device p)
        merged := fun m => merged fun p => by rw [State.port, ports]; exact notices.merged m p
        others := fun j hj => (others j hj).trans (same j hj)
        sched := fun g => by
          rw [if_neg nofun, State.sched, seg]
          exact sched_modNode s _ _ _ g
        link := fun g => by
          rw [if_neg nofun, State.link, seg]
          exact link_modNode s _ _ _ g
        feed := fun g => by
          rw [if_neg nofun, State.feed, seg]
          exact feed_modNode s _ _ _ g
        served := nofun
        closed := fun _ => ⟨idle, eqs⟩ }

theorem Withdraws.modSched {s t : State} {i : PointIdx} {serving : Bool} (h : Withdraws i serving s t) (g : Seg)
    (f : Scheduler → Scheduler) : Withdraws i serving (s.modSched g f) (t.modSched g f) where
  device := h.device
  merged := h.merged
  others := h.others
  sched x := by rw [sched_modSched, sched_modSched, h.sched, h.sched]
  link x := by rw [link_modSched, link_modSched, h.link]
  feed x := by rw [feed_modSched, feed_modSched, h.feed]
  served k := by
    obtain ⟨life, seg, node, segs⟩ := h.served k
    exact ⟨life, seg, node, segs_modSched_congr segs g f⟩
  closed k := by
    obtain ⟨idle, segs⟩ := h.closed k
    refine ⟨idle, (segs_modSched_congr segs g f).trans ?_⟩
    rw [modSched_modNode]
    rfl

theorem NodeCounts.congr {s t : State} (used : ∀ i, (t.point i).inUse ↔ (s.point i).inUse)
    (seg : ∀ i, (t.point i).seg = (s.point i).seg) (address : ∀ i, (t.point i).node = (s.point i).node)
    (nodes : ∀ g n, t.node g n = s.node g n) (h : NodeCounts s) : NodeCounts t := by
  have counted (i : PointIdx) : ((t.point i).life = .live ∨ (t.point i).life = .retiring) =
      ((s.point i).life = .live ∨ (s.point i).life = .retiring) := propext (used i)
  simpa only [NodeCounts, counted, seg, address, nodes] using h

theorem Withdraws.nodeCounts {s t : State} {i : PointIdx} {serving : Bool} (h : Withdraws i serving s t)
    (live : (s.point i).life = .live) (k : NodeCounts s) : NodeCounts t := by
  cases serving with
  | true =>
    obtain ⟨life, seg, node, segs⟩ := h.served rfl
    refine NodeCounts.congr (s := s) (fun j => ?_) (fun j => ?_) (fun j => ?_) (fun g n => ?_) k
    · by_cases hj : j = i
      · subst hj
        exact iff_of_true (.inr life) (.inl live)
      · rw [h.others j hj]
    · by_cases hj : j = i
      · exact hj ▸ seg
      · rw [h.others j hj]
    · by_cases hj : j = i
      · exact hj ▸ node
      · rw [h.others j hj]
    · rw [State.node, State.node, State.seg, State.seg, segs]
  | false =>
    obtain ⟨idle, segs⟩ := h.closed rfl
    exact NodeCounts.leave (.inl live) idle h.others segs k

/-! ### RETIRE_POINT (R13, R14) -/

/-- The point leaves its list and its demand entry the queue. -/
def Scheduler.retired (i : PointIdx) (c : Scheduler) : Scheduler :=
  { c.leaveList i with queue := c.queue.filter fun d => decide (d.point ≠ i) }

theorem Scheduler.leaves_retired (c : Scheduler) (i : PointIdx) : c.Leaves i (c.retired i) :=
  ⟨rfl, rfl, List.filter_sublist, rfl, rfl, rfl, rfl⟩

theorem retireSched_eq (s : State) (g : Seg) (i : PointIdx) (e : Env) :
    s.retireSched g i e =
      (s.modSched g (Scheduler.retired i)).completeIfPassed g (s.sched g).cursor.isSome e := rfl

section
variable {s u t : State} {i : PointIdx}

theorem not_queued_retired {q : QueuesOwn s} (g : Seg) :
    i ∉ ((s.modSched (s.point i).seg (Scheduler.retired i)).sched g).queue.map DemandEntry.point := by
  rw [sched_modSched]
  split
  · simp [Scheduler.retired]
  · next other => exact fun k => other ((q g).2 i k).2.symm

theorem not_listed_retired (l : ListsOwn s) (g : Seg) :
    i ∉ ((s.modSched (s.point i).seg (Scheduler.retired i)).sched g).list := by
  rw [sched_modSched]
  split
  · exact fun k => ((mem_leaveList _ i i).mp k).2 rfl
  · next other => exact fun k => other ((l g).2.1 i k).2.symm

theorem serves_iff (l : Link) (i : PointIdx) : l.serves i = true ↔ ∃ x, l.exchange = some x ∧ x.target = i := by
  unfold Link.serves
  cases l.exchange with
  | none => simp
  | some x => simp

/-- The point is withdrawn after its Scheduler has gone on without it. -/
theorem Left.withdraw {serving : Bool}
    (h : Left i s (s.modSched (s.point i).seg (Scheduler.retired i)) u) (live : (s.point i).life = .live)
    (w : Withdraws i serving u t) (serves : serving = (s.link (s.point i).seg).serves i) : Sound s t := by
  have live_u : (u.point i).life = .live := (h.live i).mpr live
  have gone : (t.point i).life ≠ .live := by
    cases serving with
    | true =>
      rw [(w.served rfl).1]
      nofun
    | false => exact fun k => (w.closed rfl).1 (.inl k)
  have lives (j : PointIdx) : (t.point j).life = .live ↔ (s.point j).life = .live ∧ j ≠ i := by
    by_cases hj : j = i
    · subst hj
      exact iff_of_false gone fun k => k.2 rfl
    · rw [w.others j hj, h.live]
      exact (and_iff_left hj).symm
  have asleep (g : Seg) (k : Asleep s g) : Asleep t g := by
    rw [Asleep, w.feed, w.link, w.sched]
    exact h.asleep g k
  refine ⟨fun k => rightsHeld_of_device w.device (h.rights k), fun k => w.merged (h.merged k),
    fun k g => w.sched g ▸ h.fit k g, fun k g => w.sched g ▸ h.counts k g, fun l g => ?_,
    fun l k => w.nodeCounts live_u (h.nodes l k), fun k g => asleep g (k g), fun l law => ?_⟩
  · obtain ⟨once, own, cursor⟩ := h.lists l g
    obtain ⟨-, members, -⟩ := l g
    rw [w.sched]
    refine ⟨once, fun j => ?_, cursor⟩
    rw [lives, h.list, sched_modSched]
    by_cases hj : j = i
    · subst hj
      have absent := not_listed_retired (i := j) (listsOwn_of_sound l) g
      rw [sched_modSched] at absent
      exact iff_of_false absent fun k => k.1.2 rfl
    · have seg : (s.point j).life = .live → (t.point j).seg = (s.point j).seg := fun k => by
        rw [w.others j hj]
        exact (h.place j k).seg
      have listed : j ∈ (if g = (s.point i).seg then (s.sched (s.point i).seg).retired i else s.sched g).list ↔
          j ∈ (s.sched g).list := by
        split
        · next same => exact (mem_leaveList _ i j).trans (by rw [same]; exact and_iff_left hj)
        · exact Iff.rfl
      rw [listed, members, and_iff_left hj]
      exact and_congr_right fun k => by rw [seg k]
  · obtain ⟨queues, aimed, engaged, dark⟩ := h.law l law
    obtain ⟨queues_s, aimed_s, -, rest⟩ := (segmentLaw_iff s).mp law
    have absent (g : Seg) : i ∉ (u.sched g).queue.map DemandEntry.point := fun k =>
      not_queued_retired (q := queues_s) g (h.joins g k)
    refine (segmentLaw_iff t).mpr ⟨fun g => ?_, fun g x hx used => ?_, fun g x hx => ?_, fun g =>
      ⟨asleep g (rest g).1, fun off j lives' home => ?_⟩⟩
    · rw [w.sched]
      refine ⟨(queues g).1, fun j hj => ?_⟩
      rw [w.others j fun same => absent g (same ▸ hj)]
      exact (queues g).2 j hj
    · rw [w.link] at hx
      by_cases hj : x.target = i
      · rw [hj] at used ⊢
        cases serving with
        | true =>
          obtain ⟨-, seg, node, -⟩ := w.served rfl
          rw [seg, node, ← hj]
          exact aimed g x hx (hj ▸ .inl live_u)
        | false => exact absurd used (w.closed rfl).1
      · rw [w.others _ hj] at used ⊢
        exact aimed g x hx used
    · rw [w.link] at hx
      by_cases hj : x.target = i
      · have served : serving = true := by
          rw [serves, serves_iff]
          rcases h.target g x hx with ⟨y, hy, same⟩ | listed | queued
          · have home := (aimed_s g y hy (same ▸ hj ▸ .inl live)).1
            rw [← same, hj] at home
            exact ⟨y, home ▸ hy, same ▸ hj⟩
          · exact absurd (hj ▸ listed) (not_listed_retired (listsOwn_of_sound l) g)
          · exact absurd (hj ▸ queued) (not_queued_retired (q := queues_s) g)
        exact hj ▸ .inr (w.served served).1
      · rw [w.others _ hj]
        exact engaged g x hx
    · have hj : j ≠ i := ((lives j).mp lives').2
      rw [w.feed] at off
      rw [w.others j hj] at lives' home ⊢
      exact dark g off j lives' home

theorem sound_retire (live : (s.point i).life = .live) (e : Env) : Sound s (s.retire i e) := by
  have left := left_modSched (i := i) (Scheduler.leaves_retired (s.sched (s.point i).seg) i)
  unfold State.retire
  dsimp only
  rcases arrange_pair e.order (a := .sched (s.point i).seg) (b := .points (s.point i).seg) (by simp) with order | order
  · rw [order]
    show Sound s ((s.retireSched (s.point i).seg i e).retireRecord i ((s.link (s.point i).seg).serves i))
    exact (left.completeIfPassed _ e).withdraw live (withdraws_retireRecord _ i _) rfl
  · rw [order]
    show Sound s ((s.retireRecord i ((s.link (s.point i).seg).serves i)).retireSched (s.point i).seg i e)
    rw [retireSched_eq]
    exact (left.withdraw live ((withdraws_retireRecord s i _).modSched _ _) rfl).trans
      (sound_completeIfPassed _ _ _ e)

end

end Sys2Proof.Machine
end

section
/-! PROOF. The loss of a feed (R33, R92, R117, R141): whatever the order of the blocks' parts, the segment ends with its
link OFF, its queue empty, its scan quiet and its LIVE points UNPOWERED. -/

namespace Sys2Proof.Machine

/-! ### The relation -/

/-- From `s` to `t`, no feed changes, a LIVE point keeps its quality or is UNPOWERED, and a segment's link and Scheduler
stay as they are or, where it leaves ON, lose all that they did. -/
structure Fades (leaves : Seg → Bool) (s t : State) : Prop where
  feed : ∀ g, t.feed g = s.feed g
  link : ∀ g, t.link g = s.link g ∨ leaves g = true ∧ (t.link g).state = .off
  sched : ∀ g, t.sched g = s.sched g ∨ leaves g = true ∧ (t.sched g).queue = [] ∧ (t.sched g).scan.quiet
  point : ∀ i, (t.point i).life = .live → (s.point i).life = .live ∧ (t.point i).seg = (s.point i).seg ∧
    ((t.point i).quality = (s.point i).quality ∨ (t.point i).quality = .unpowered)

/-- All LIVE points of the segment are UNPOWERED. -/
def AllDark (s : State) (g : Seg) : Prop :=
  ∀ i, (s.point i).life = .live → (s.point i).seg = g → (s.point i).quality = .unpowered

section
variable {leaves : Seg → Bool} {s t u : State} {g : Seg}

theorem Fades.refl (s : State) : Fades leaves s s :=
  ⟨fun _ => rfl, fun _ => .inl rfl, fun _ => .inl rfl, fun _ h => ⟨h, rfl, .inl rfl⟩⟩

theorem Fades.off (h : Fades leaves s t) (off : (s.link g).state = .off) : (t.link g).state = .off :=
  (h.link g).elim (fun same => same ▸ off) And.right

theorem Fades.empty (h : Fades leaves s t) (empty : (s.sched g).queue = [] ∧ (s.sched g).scan.quiet) :
    (t.sched g).queue = [] ∧ (t.sched g).scan.quiet :=
  (h.sched g).elim (fun same => same ▸ empty) And.right

theorem Fades.dark (h : Fades leaves s t) (dark : AllDark s g) : AllDark t g := fun i live home => by
  obtain ⟨was, seg, same | unpowered⟩ := h.point i live
  · rw [same]
    exact dark i was (seg ▸ home)
  · exact unpowered

theorem Fades.trans (h : Fades leaves s t) (k : Fades leaves t u) : Fades leaves s u where
  feed g := (k.feed g).trans (h.feed g)
  link g := by
    rcases h.link g with same | ⟨left, off⟩
    · exact same ▸ k.link g
    · exact .inr ⟨left, k.off off⟩
  sched g := by
    rcases h.sched g with same | ⟨left, empty⟩
    · exact same ▸ k.sched g
    · exact .inr ⟨left, k.empty empty⟩
  point i live := by
    obtain ⟨was, seg, quality⟩ := k.point i live
    obtain ⟨was', seg', quality'⟩ := h.point i was
    refine ⟨was', seg.trans seg', quality.elim (fun same => ?_) .inr⟩
    rwa [same]

theorem Fades.ite {p : Prop} [Decidable p] (h : p → Fades leaves s t) : Fades leaves s (if p then t else s) := by
  split
  · next made => exact h made
  · exact .refl s

theorem fades_foldl {α : Type} {op : State → α → State} {l : List α} {s : State}
    (h : ∀ a ∈ l, ∀ t, Fades leaves s t → Fades leaves t (op t a)) : Fades leaves s (l.foldl op s) :=
  List.foldlRecOn l op (.refl s) fun t ht a ha => ht.trans (h a ha t ht)

/-- What one of the changes brings about, and the others then keep, holds at the end. -/
theorem foldl_brings {α : Type} {op : State → α → State} {l : List α} {s : State} {P : State → Prop}
    (fades : ∀ a ∈ l, ∀ t, Fades leaves s t → Fades leaves t (op t a))
    (keeps : ∀ t u, Fades leaves t u → P t → P u) {a : α} (due : a ∈ l)
    (brings : ∀ t, Fades leaves s t → P (op t a)) : P (l.foldl op s) := by
  obtain ⟨front, back, rfl⟩ := List.append_of_mem due
  rw [List.foldl_append, List.foldl_cons]
  have before : Fades leaves s (front.foldl op s) :=
    fades_foldl fun b hb => fades b (List.mem_append_left _ hb)
  have taken := before.trans (fades a due _ before)
  refine keeps _ _ (fades_foldl fun b hb t ht => ?_) (brings _ before)
  exact fades b (List.mem_append_right _ (List.mem_cons_of_mem _ hb)) t (taken.trans ht)

/-! ### Single updates -/

theorem Notices.fades (h : Notices s t) : Fades leaves s t :=
  ⟨h.feed, fun g => .inl (h.link g), fun g => .inl (h.sched g), fun i live => by
    rw [h.point] at live ⊢
    exact ⟨live, rfl, .inl rfl⟩⟩

theorem fades_of_segs (segs : t.segs = s.segs) (points : ∀ i, (t.point i).life = .live → (s.point i).life = .live ∧
    (t.point i).seg = (s.point i).seg ∧
      ((t.point i).quality = (s.point i).quality ∨ (t.point i).quality = .unpowered)) : Fades leaves s t := by
  have seg (g : Seg) : t.seg g = s.seg g := congrArg (·.get g) segs
  exact ⟨fun g => congrArg Segment.feed (seg g), fun g => .inl (congrArg Segment.link (seg g)),
    fun g => .inl (congrArg Segment.sched (seg g)), points⟩

/-- A record's change that keeps its place and its quality. -/
theorem fades_modPoint {i : PointIdx} {f : Point → Point} (s : State)
    (kept : ∀ t : Point, t.Kept (f t) ∧ (f t).quality = t.quality := by exact fun _ => ⟨⟨rfl, rfl, rfl⟩, rfl⟩) :
    Fades leaves s (s.modPoint i f) :=
  fades_of_segs rfl fun j live => by
    rw [point_modPoint] at live ⊢
    split at live
    · next same =>
      obtain ⟨place, quality⟩ := kept (s.point i)
      rw [if_pos same, quality, place.seg, same]
      exact ⟨place.life ▸ live, rfl, .inl rfl⟩
    · next other =>
      rw [if_neg other]
      exact ⟨live, rfl, .inl rfl⟩

theorem fades_unpowered (s : State) (i : PointIdx) : Fades leaves s (s.setQuality i .unpowered) := by
  unfold State.setQuality
  split
  · exact .refl s
  · have faded : Fades leaves s (s.modPoint i fun t => { t with quality := .unpowered }) :=
      fades_of_segs rfl fun j live => by
        rw [point_modPoint] at live ⊢
        split at live
        · next same =>
          rw [if_pos same, same]
          exact ⟨live, rfl, .inr rfl⟩
        · next other =>
          rw [if_neg other]
          exact ⟨live, rfl, .inl rfl⟩
    exact faded.trans (notices_raisePoint _ i _ _).fades

theorem fades_modNode (s : State) (g : Seg) (n : NodeIdx) (f : NodeRec → NodeRec) :
    Fades leaves s (s.modNode g n f) :=
  ⟨fun _ => feed_modNode s g n f _, fun _ => .inl (link_modNode s g n f _), fun _ => .inl (sched_modNode s g n f _),
    fun _ live => ⟨live, rfl, .inl rfl⟩⟩

theorem fades_mapNodes (s : State) (g : Seg) (f : NodeRec → NodeRec) : Fades leaves s (s.mapNodes g f) :=
  ⟨fun _ => feed_mapNodes s g f _, fun _ => .inl (link_mapNodes s g f _), fun _ => .inl (sched_mapNodes s g f _),
    fun _ live => ⟨live, rfl, .inl rfl⟩⟩

/-- What a report leaves of the segments' blocks. -/
theorem sched_tally (s : State) (g : Seg) (evs : List TallyEvent) (node : Option NodeIdx) (h : Seg) :
    (s.tally g evs node).sched h = s.sched h := by
  have once (t : State) (r : SegReason) : (t.raiseSeg g r).sched h = t.sched h := (notices_raiseSeg t g r).sched h
  have counted (t : State) (k : Segment → Segment) (same : ∀ v, (k v).sched = v.sched) :
      (t.modSeg g k).sched h = t.sched h := by
    rw [State.sched, seg_modSeg]
    split
    · next e => rw [same, e]; rfl
    · rfl
  unfold State.tally
  dsimp only
  split
  · split
    · rw [once, once, counted]
      exact fun _ => rfl
    · rw [once, counted]
      exact fun _ => rfl
  · split
    · rw [once, counted]
      exact fun _ => rfl
    · rw [counted]
      exact fun _ => rfl

theorem fades_tally (s : State) (g : Seg) (evs : List TallyEvent) (node : Option NodeIdx) :
    Fades leaves s (s.tally g evs node) := by
  have touch : Touches noSeg noSeg (fun _ => True) s (s.tally g evs node) := touches_tally trivial s evs node
  refine ⟨fun h => touch.feed h id, fun h => .inl (touch.link h id), fun h => .inl (sched_tally s g evs node h),
    fun i live => ?_⟩
  rw [point_tally] at live ⊢
  exact ⟨live, rfl, .inl rfl⟩

/-! ### The exchange that the loss ends (R63, R112, R120) -/

theorem offerAgain_of_not_powered (off : (s.feed g).state ≠ .on) (i : PointIdx) : s.offerAgain g i = s := by
  unfold State.offerAgain
  rw [offerUrgent_of_not_powered off, ite_self]

theorem fades_raiseWrite (s : State) (i : PointIdx) (r : WriteResult) (w : Writer) :
    Fades leaves s (s.raiseWrite i r w) :=
  (notices_raiseWrite s i r w).fades

theorem fades_writeNotFinal (off : (s.feed g).state ≠ .on) (i : PointIdx) (k : GrantKind) :
    Fades leaves s (s.writeNotFinal g i k) := by
  unfold State.writeNotFinal
  dsimp only
  split
  · exact .refl s
  · have told : ∀ {t : State}, Fades leaves s t → Fades leaves s
        (if (k = .scan && (s.point i).slot.isNone) = true then t.offerAgain g i else t) := fun {t} h =>
      h.trans (.ite fun _ => by
        rw [offerAgain_of_not_powered (by rwa [h.feed])]
        exact .refl t)
    exact told (((fades_modPoint s).trans (.ite fun _ => fades_raiseWrite _ i _ _)).trans
      (.ite fun _ => fades_raiseWrite _ i _ _))

theorem fades_outcomeRetiring (s : State) (i : PointIdx) (o : ExchangeOutcome) :
    Fades leaves s (s.outcomeRetiring i o) := by
  unfold State.outcomeRetiring
  dsimp only
  split
  · exact .refl s
  · exact (fades_modPoint s).trans (notices_raisePoint _ i _ _).fades

theorem fades_outcomePoint (off : (s.feed g).state ≠ .on) (x : Exchange) :
    Fades leaves s (s.outcomePoint g x .abandoned none) := by
  unfold State.outcomePoint
  split
  · unfold State.outcomeLive
    cases x.func with
    | read => exact .refl s
    | write => exact fades_writeNotFinal off _ _
  · exact fades_outcomeRetiring s _ _
  · exact .refl s

/-- The judgement of an abandoned exchange changes no node, so only the tallies count it (R121). -/
theorem fades_outcomeNode (s : State) (g : Seg) (x : Exchange) :
    Fades leaves s (s.outcomeNode g x .abandoned []) := by
  unfold State.outcomeNode
  dsimp only
  rw [judge_abandoned]
  have quiet (part : Part) (t : State) : State.judgeParts g x.node (decide ((s.node g x.node).state ≠
      (s.node g x.node).state)) (decide ((s.node g x.node).state = .lost) && decide ((s.node g x.node).state ≠ .lost))
      part t = t := by
    cases part <;> simp [State.judgeParts]
  rw [takeParts_eq_self quiet]
  exact (fades_modNode s g _ _).trans (fades_tally _ g _ _)

theorem fades_closePoint (s : State) (i : PointIdx) : Fades leaves s (s.closePoint i) := by
  obtain ⟨idle, others, segs, -, -⟩ := closePoint_reads s i
  refine (fades_modNode s (s.point i).seg (s.point i).node NodeRec.leave).trans (fades_of_segs segs fun j live => ?_)
  have other : j ≠ i := fun same => idle (.inl (same ▸ live))
  rw [others j other] at live ⊢
  exact ⟨live, rfl, .inl rfl⟩

theorem fades_abandon (off : (s.feed g).state ≠ .on) (x : Option Exchange) (life : Life) :
    Fades leaves s (s.abandon g x life) := by
  unfold State.abandon
  split
  · next y =>
    refine .ite fun _ => ?_
    unfold State.applyOutcome
    exact ((fades_outcomePoint off y).trans (fades_outcomeNode _ g y)).trans (.ite fun _ => fades_closePoint _ _)
  · exact .refl s

/-! ### The parts of a feed event (R33, R92, R117, R123) -/

theorem fades_pointLosesFeed (off : (s.feed g).state ≠ .on) (x : Option Exchange) (i : PointIdx) :
    Fades leaves s (State.pointLosesFeed g x i s) := by
  unfold State.pointLosesFeed
  split
  · exact fades_unpowered s i
  · exact fades_abandon off x _
  · exact .refl s

theorem fades_pointsLoseFeed (off : (s.feed g).state ≠ .on) (x : Option Exchange) :
    Fades leaves s (s.pointsLoseFeed g x) :=
  fades_foldl fun i _ t ht => fades_pointLosesFeed (by rwa [ht.feed]) x i

theorem quality_setQuality_same (s : State) (i : PointIdx) (q : Quality) :
    ((s.setQuality i q).point i).quality = q := by
  unfold State.setQuality
  split
  · next same => exact same
  · rw [(notices_raisePoint _ i _ _).point, point_modPoint_same]

theorem dark_pointsLoseFeed (off : (s.feed g).state ≠ .on) (x : Option Exchange) : AllDark (s.pointsLoseFeed g x) g := by
  intro i live home
  have fades : Fades (fun _ => false) s (s.pointsLoseFeed g x) := fades_pointsLoseFeed off x
  obtain ⟨was, seg, -⟩ := fades.point i live
  refine foldl_brings (leaves := fun _ => false)
    (P := fun t => (t.point i).life = .live → (t.point i).quality = .unpowered)
    (fun j _ t ht => fades_pointLosesFeed (by rwa [ht.feed]) x j) (fun t u ht dark live => ?_) (a := i) ?_
    (fun t ht live => ?_) live
  · obtain ⟨was, -, same | unpowered⟩ := ht.point i live
    · exact same.trans (dark was)
    · exact unpowered
  · rw [List.mem_filter]
    exact ⟨List.mem_finRange i, by simp [was, seg ▸ home]⟩
  · have fades : Fades (fun _ => false) t (State.pointLosesFeed g x i t) := fades_pointLosesFeed (by rwa [ht.feed]) x i
    have was := (fades.point i live).1
    unfold State.pointLosesFeed
    rw [was]
    exact quality_setQuality_same t i _

theorem fades_tellDemanders (s : State) (i : PointIdx) (o : DemandOutcome) :
    Fades leaves s (s.tellDemanders i o) :=
  .ite fun _ => (notices_raisePoint s i _ _).fades.trans (fades_modPoint _)

theorem quiet_feedLost (c : Scheduler) : c.feedLost.scan.quiet := by
  cases scan : c.scan with
  | stopped =>
    rw [Scheduler.feedLost, scan]
    exact .inl scan
  | haltedPower =>
    rw [Scheduler.feedLost, scan]
    exact .inr (.inr (.inl scan))
  | stopping =>
    rw [Scheduler.feedLost, scan]
    exact .inl rfl
  | waiting | running | finishing | haltedLine =>
    rw [Scheduler.feedLost, scan]
    exact .inr (.inr (.inl rfl))

theorem fades_linkLosesFeed (left : leaves g = true) (s : State) : Fades leaves s (s.linkLosesFeed g) ∧
    ((s.linkLosesFeed g).link g).state = .off := by
  have told : Fades leaves s (if (s.link g).state = .lineDown then s.raiseSeg g .line else s) :=
    .ite fun _ => (notices_raiseSeg s g _).fades
  unfold State.linkLosesFeed
  dsimp only
  generalize (if (s.link g).state = .lineDown then s.raiseSeg g .line else s) = t at told
  refine ⟨told.trans ⟨fun h => feed_modLink t g _ h, fun h => ?_, fun h => .inl (sched_modLink t g _ h), fun _ live =>
    ⟨live, rfl, .inl rfl⟩⟩, by rw [link_modLink_same]; rfl⟩
  rw [link_modLink]
  split
  · next same => exact .inr ⟨same ▸ left, rfl⟩
  · exact .inl rfl

theorem fades_schedLosesFeed (left : leaves g = true) (s : State) : Fades leaves s (s.schedLosesFeed g) ∧
    ((s.schedLosesFeed g).sched g).queue = [] ∧ ((s.schedLosesFeed g).sched g).scan.quiet := by
  have told : Fades leaves s (s.forPoints (allPoints.filter fun i => ((s.sched g).entry i).isSome) fun i s =>
      s.tellDemanders i .abandoned) := fades_foldl fun i _ t _ => fades_tellDemanders t i _
  unfold State.schedLosesFeed
  dsimp only
  generalize (s.forPoints (allPoints.filter fun i => ((s.sched g).entry i).isSome) fun i s =>
    s.tellDemanders i .abandoned) = t at told
  have lost (c : Scheduler) : ({ c with queue := [], backToBack := 0 } : Scheduler).feedLost.queue = [] ∧
      ({ c with queue := [], backToBack := 0 } : Scheduler).feedLost.scan.quiet :=
    ⟨queue_feedLost _, quiet_feedLost _⟩
  refine ⟨told.trans ⟨fun h => feed_modSched t g _ h, fun h => .inl (link_modSched t g _ h), fun h => ?_, fun _ live =>
    ⟨live, rfl, .inl rfl⟩⟩, by rw [sched_modSched_same]; exact lost _⟩
  rw [sched_modSched]
  split
  · next same => exact .inr ⟨same ▸ left, lost _⟩
  · exact .inl rfl

section
variable {notice : Seg → Bool} {ended : Seg → Option Exchange} {change : Option DevReason}

theorem fades_feedPart (off : ∀ g, leaves g = true → (s.feed g).state ≠ .on) (part : Part) :
    Fades leaves s (State.feedPart leaves notice ended change part s) := by
  cases part with
  | monitor =>
    cases change with
    | none => exact .refl s
    | some r => exact ((notices_raiseDev s .a r).trans (notices_raiseDev _ .b r)).fades
  | feed g => exact .ite fun _ => (notices_raiseSeg s g _).fades
  | link g => exact .ite fun left => (fades_linkLosesFeed left s).1
  | sched g => exact .ite fun left => (fades_schedLosesFeed left s).1
  | points g => exact .ite fun left => fades_pointsLoseFeed (off g left) _
  | slots g => exact .ite fun left => fades_abandon (off g left) _ _
  | nodes g => exact .ite fun left => fades_mapNodes s g _

/-- The parts of a feed event in turn: a segment that leaves ON is left without power in all its blocks. -/
theorem feedParts_fade (off : ∀ g, leaves g = true → (s.feed g).state ≠ .on) (parts : List Part)
    (due : ∀ g, leaves g = true → .link g ∈ parts ∧ .sched g ∈ parts ∧ .points g ∈ parts) :
    Fades leaves s (s.takeParts (State.feedPart leaves notice ended change) parts) ∧
      ∀ g, leaves g = true →
        ((s.takeParts (State.feedPart leaves notice ended change) parts).link g).state = .off ∧
        ((s.takeParts (State.feedPart leaves notice ended change) parts).sched g).queue = [] ∧
        ((s.takeParts (State.feedPart leaves notice ended change) parts).sched g).scan.quiet ∧
        AllDark (s.takeParts (State.feedPart leaves notice ended change) parts) g := by
  have fades (part : Part) (_ : part ∈ parts) (t : State) (ht : Fades leaves s t) :
      Fades leaves t (State.feedPart leaves notice ended change part t) :=
    fades_feedPart (fun g left => by rw [ht.feed]; exact off g left) part
  refine ⟨fades_foldl fades, fun g left => ?_⟩
  obtain ⟨link, sched, points⟩ := due g left
  have link_off := foldl_brings (P := fun t => (t.link g).state = .off) fades (fun _ _ h => h.off) link
    fun t _ => show ((if leaves g then t.linkLosesFeed g else t).link g).state = .off by
      rw [if_pos left]
      exact (fades_linkLosesFeed left t).2
  have sched_empty := foldl_brings (P := fun t => (t.sched g).queue = [] ∧ (t.sched g).scan.quiet) fades
    (fun _ _ h => h.empty) sched
    fun t _ => show (fun u : State => (u.sched g).queue = [] ∧ (u.sched g).scan.quiet)
        (if leaves g then t.schedLosesFeed g else t) by
      rw [if_pos left]
      exact (fades_schedLosesFeed left t).2
  have points_dark := foldl_brings (P := fun t => AllDark t g) fades (fun _ _ h => h.dark) points
    fun t ht => show AllDark (if leaves g then t.pointsLoseFeed g (ended g) else t) g by
      rw [if_pos left]
      exact dark_pointsLoseFeed (by rw [ht.feed]; exact off g left) _
  exact ⟨link_off, sched_empty.1, sched_empty.2, points_dark⟩

end

/-! ### Feed events that take segments from ON (R135, R141, R146) -/

/-- The laws after feeds have changed and the blocks of the segments that left ON have faded. -/
theorem sound_of_fades (steady : Steady ⟨Lawful s, fun _ => True, fun g => leaves g = true, fun _ => True⟩ s u)
    (link : ∀ g, t.link g = s.link g) (sched : ∀ g, t.sched g = s.sched g) (point : ∀ i, t.point i = s.point i)
    (feed : ∀ g, leaves g = false → (t.feed g).state ≠ .on → (s.feed g).state ≠ .on) (fades : Fades leaves t u)
    (done : ∀ g, leaves g = true → (u.link g).state = .off ∧ (u.sched g).queue = [] ∧ (u.sched g).scan.quiet ∧
      AllDark u g) : Sound s u := by
  have asleep (g : Seg) (k : Asleep s g) : Asleep u g := fun off => by
    cases left : leaves g with
    | true =>
      obtain ⟨link, queue, scan, -⟩ := done g left
      exact ⟨link, queue, scan⟩
    | false =>
      rw [fades.feed] at off
      obtain ⟨off', empty⟩ := k (feed g left off)
      exact ⟨fades.off (by rw [link]; exact off'), fades.empty (by rw [sched]; exact empty)⟩
  refine ⟨rightsHeld_of_device steady.device, steady.merged, steady.fit, steady.counts, steady.scanListsSound,
    fun l => steady.nodes (listsOwn_of_sound l), fun k g => asleep g (k g), fun l law => ?_⟩
  obtain ⟨-, -, -, rest⟩ := (segmentLaw_iff s).mp law
  refine steady.segmentLaw (lawful_of_law l law) l law (fun g left => ?_) fun g _ => ⟨asleep g (rest g).1, fun off => ?_⟩
  · exact engaged_of_free (by rw [Link.exchange, (done g left).1])
  · cases left : leaves g with
    | true => exact (done g left).2.2.2
    | false =>
      rw [fades.feed] at off
      refine fades.dark fun i live home => ?_
      rw [point] at live home ⊢
      exact (rest g).2 (feed g left off) i live home

theorem mem_arrange_segParts (order : List Part) (g : Seg) : .link g ∈ arrange order (segParts g) ∧
    .sched g ∈ arrange order (segParts g) ∧ .points g ∈ arrange order (segParts g) := by
  simp [mem_arrange, segParts]

/-- A feed takes a state other than ON, and its segment's blocks take their parts. -/
theorem sound_feedChange {f : Feed → Feed} (off : (f (s.feed g)).state ≠ .on) (notice : Bool) (order : List Part) :
    Sound s ((s.modFeed g f).feedLeaves g (s.powered g) notice order) := by
  have only {h : Seg} (left : (decide (h = g) && s.powered g) = true) : h = g :=
    of_decide_eq_true (Bool.and_eq_true_iff.mp left).1
  have faded := feedParts_fade (s := s.modFeed g f) (leaves := fun h => decide (h = g) && s.powered g)
    (notice := fun h => decide (h = g) && notice) (ended := fun h => ((s.modFeed g f).link h).exchange) (change := none)
    (fun h left => by
      rw [only left, feed_modFeed_same]
      exact off) (arrange order (segParts g)) fun h left => by
        rw [only left]
        exact mem_arrange_segParts order g
  refine sound_of_fades ?_ (link_modFeed s g f) (sched_modFeed s g f) (fun _ => rfl) (fun h stays now on => ?_)
    faded.1 faded.2
  · have changed : Steady ⟨Lawful s, fun _ => True, fun h => (decide (h = g) && s.powered g) = true, fun _ => True⟩ s
        (s.modFeed g f) := steady_modFeed trivial f s
    refine changed.trans (steady_feedParts (fun h left => ⟨trivial, left, trivial⟩)
      (fun lawful => changed.queues lawful lawful.2.1) (fun lawful h _ y hy => ?_) _)
    rw [link_modFeed] at hy
    exact changed.stays (lawful.2.2 h y hy)
  · rw [feed_modFeed] at now
    split at now
    · next same =>
      subst same
      simp [State.powered, on] at stays
    · exact now on

theorem sound_feedTrips (s : State) (g : Seg) (order : List Part) : Sound s (s.feedTrips g order) := by
  refine sound_feedChange ?_ true order
  unfold Feed.trip
  dsimp only
  split
  · nofun
  · nofun

theorem sound_feedSwitchedOff (s : State) (g : Seg) (order : List Part) : Sound s (s.feedSwitchedOff g order) :=
  sound_feedChange (by simp [Feed.open]) false order

/-- The same change at every feed. -/
theorem reads_mapFeeds (s : State) (f : Feed → Feed) (g : Seg) :
    (Seg.all.foldl (fun s g => s.modFeed g f) s).feed g = f (s.feed g) ∧
      (Seg.all.foldl (fun s g => s.modFeed g f) s).link g = s.link g ∧
      (Seg.all.foldl (fun s g => s.modFeed g f) s).sched g = s.sched g ∧
      ∀ i, (Seg.all.foldl (fun s g => s.modFeed g f) s).point i = s.point i := by
  refine ⟨?_, ?_, ?_, fun _ => rfl⟩ <;> cases g <;> rfl

/-- A feed at a change of the monitor's levels, by whether the hold begins or ends (R146). -/
def Feed.monitored (begins ends : Bool) (f : Feed) : Feed :=
  if begins && f.forced then f.open .forcedOff
  else if ends && decide (f.state = .forcedOff) then f.start
  else f

theorem Feed.monitored_not_on {begins ends : Bool} {f : Feed} (h : (begins && f.forced) = true) :
    (f.monitored begins ends).state ≠ .on := by
  rw [Feed.monitored, if_pos h]
  nofun

theorem Feed.monitored_on {begins ends : Bool} {f : Feed} (h : (begins && f.forced) = false) (on : f.state = .on) :
    (f.monitored begins ends).state = .on := by
  rw [Feed.monitored, if_neg (by rw [h]; nofun), if_neg (by simp [on])]
  exact on

theorem monitorChange_eq (s : State) (sl : SupplyLevel) (tl : TempLevel) (r : DevReason) (order : List Part) :
    s.monitorChange sl tl r order =
      (Seg.all.foldl (fun (t : State) g => t.modFeed g (Feed.monitored (!s.held && holds sl tl) (s.held && !holds sl tl)))
        { s with supply := sl, temperature := tl }).takeParts
        (State.feedPart (s.monitorLeaves sl tl) (fun g => !s.held && holds sl tl && (s.feed g).forced)
          (fun g => (s.link g).exchange) (some r))
        (arrange order (.monitor :: Seg.all.flatMap segParts)) := rfl

theorem sound_monitorChange (s : State) (sl : SupplyLevel) (tl : TempLevel) (r : DevReason) (order : List Part) :
    Sound s (s.monitorChange sl tl r order) := by
  have steady : Steady ⟨Lawful s, fun _ => True, fun g => s.monitorLeaves sl tl g = true, fun _ => True⟩ s
      (s.monitorChange sl tl r order) :=
    steady_monitorChange (fun _ => trivial) (fun _ left => ⟨left, trivial⟩) (fun lawful : Lawful s => lawful.2.1)
      (fun lawful : Lawful s => lawful.2.2) r order
  rw [monitorChange_eq] at steady ⊢
  have reads := reads_mapFeeds { s with supply := sl, temperature := tl }
    (Feed.monitored (!s.held && holds sl tl) (s.held && !holds sl tl))
  have faded := feedParts_fade (leaves := s.monitorLeaves sl tl)
    (s := Seg.all.foldl (fun t g => t.modFeed g (Feed.monitored (!s.held && holds sl tl) (s.held && !holds sl tl)))
      { s with supply := sl, temperature := tl })
    (notice := fun g => !s.held && holds sl tl && (s.feed g).forced) (ended := fun g => (s.link g).exchange)
    (change := some r) (fun g left => by
      rw [(reads g).1]
      exact Feed.monitored_not_on (Bool.and_eq_true_iff.mp left).1)
    (arrange order (.monitor :: Seg.all.flatMap segParts)) fun g _ => by
      cases g <;> simp [mem_arrange, segParts, Seg.all]
  refine sound_of_fades steady (fun g => (reads g).2.1) (fun g => (reads g).2.2.1) (reads .s0).2.2.2
    (fun g stays now on => now ?_) faded.1 faded.2
  rw [(reads g).1]
  refine Feed.monitored_on ?_ on
  have powered : s.powered g = true := decide_eq_true on
  rwa [State.monitorLeaves, powered, Bool.and_true] at stays

end

end Sys2Proof.Machine
end

section
/-! PROOF. The invariants: they hold after a device reset, and every step keeps them (O54 to O60). -/

namespace Sys2Proof.Machine

/-! ### Commands -/

theorem sound_accept {s t : State} {data : List Byte} (h : Sound s t) : Sound s (accept t data).state := h

theorem sound_onPoint {s : State} {p : Port} {ps : List Byte} {len : Nat} {valid : Bool} {r : Option GroupRight}
    {body : PointIdx → Answer} (h : ∀ i, (s.point i).life = .live → Sound s (body i).state) :
    Sound s (onPoint s p ps len valid r body).state :=
  sound_unless fun _ => sound_unless fun handle => sound_unless fun _ =>
    h _ (handleOk_live (eq_true_of_ne_false handle))

theorem sound_onSeg {s : State} {p : Port} {ps : List Byte} {len : Nat} {valid : Bool} {r : Option DeviceRight}
    {body : Seg → Answer} (h : ∀ g, Sound s (body g).state) : Sound s (onSeg s p ps len valid r body).state := by
  refine sound_unless fun _ => ?_
  split
  · exact .refl s
  · next g _ => exact sound_unless fun _ => h g

theorem sound_setRights (p : Port) (ps : List Byte) (s : State) : Sound s (setRights p ps s).state := by
  unfold setRights
  split
  · exact .refl s
  · refine sound_unless fun _ => sound_unless fun _ => sound_unless fun remains => sound_replaceRights ?_
    rw [not_and_or, Bool.not_eq_false, Bool.not_eq_false] at remains
    exact remains

theorem sound_demandRead (p : Port) (ps : List Byte) (e : Env) (s : State) : Sound s (demandRead p ps e s).state := by
  refine sound_onPoint fun i live => sound_unless fun powered => ?_
  have on : (s.feed (s.point i).seg).state = .on := by
    rwa [powered_eq_false_iff, not_not] at powered
  have marked : Sound s (s.modPoint i fun t => { t with demanders := t.demanders.set p true }) := sound_modPoint s
  dsimp only
  split
  · exact marked.trans (sound_joinEntry _ _ i p)
  · next new =>
    refine sound_unless fun room => (marked.trans (sound_joinQueue (onePort p) on (eq_true_of_ne_false room) new ?_
      ?_)).trans
      (sound_arbitrate _ _ e)
    · rw [point_modPoint_same]
      exact live
    · rw [point_modPoint_same]

theorem sound_setBand (p : Port) (ps : List Byte) (s : State) : Sound s (setBand p ps s).state :=
  sound_onPoint fun i _ => sound_unless fun _ => sound_placeBand s i _

theorem sound_setDeadband (p : Port) (ps : List Byte) (s : State) : Sound s (setDeadband p ps s).state :=
  sound_onPoint fun _ _ => sound_unless fun _ => sound_accept (sound_modPoint s)

theorem sound_writePoint (p : Port) (ps : List Byte) (e : Env) (s : State) : Sound s (writePoint p ps e s).state :=
  sound_onPoint fun i live => sound_unless fun _ => sound_unless fun _ =>
    have kept (f : Slot) := kept_placeValue s i f i
    (sound_placeValue s i _).trans (sound_offerWrite ((kept _).life.trans live) (kept _).seg _ e)

theorem sound_cancelWrite (p : Port) (ps : List Byte) (s : State) : Sound s (cancelWrite p ps s).state := by
  refine sound_onPoint fun i _ => sound_unless fun _ => ?_
  split
  · exact .refl s
  · exact sound_cancel s i _

theorem sound_setSafeValue (p : Port) (ps : List Byte) (s : State) : Sound s (setSafeValue p ps s).state :=
  sound_onPoint fun _ _ => sound_unless fun _ => sound_unless fun _ => sound_accept (sound_modPoint s)

theorem sound_configureScan (p : Port) (ps : List Byte) (s : State) : Sound s (configureScan p ps s).state := by
  unfold configureScan
  split
  · exact .refl s
  · exact sound_onSeg fun g => sound_unless fun _ => sound_modSched (f := fun c => c.configure _)
      ⟨rfl, fun _ => .inl, .refl _, fun _ => Nat.zero_le _, fun _ => Nat.zero_le _, fun _ => Nat.zero_le _⟩ id

theorem sound_fireTrigger (p : Port) (ps : List Byte) (e : Env) (s : State) :
    Sound s (fireTrigger p ps e s).state := by
  unfold fireTrigger
  split
  · exact .refl s
  · exact sound_unless fun _ => sound_unless fun _ => sound_trigger s _ e

theorem sound_configureTriggerInput (p : Port) (ps : List Byte) (s : State) :
    Sound s (configureTriggerInput p ps s).state := by
  unfold configureTriggerInput
  split
  · exact .refl s
  · exact sound_unless fun _ => sound_unless fun _ => sound_accept (sound_modTrg s _ _)

theorem sound_configureLink (p : Port) (ps : List Byte) (s : State) : Sound s (configureLink p ps s).state := by
  unfold configureLink
  split
  · exact .refl s
  · exact sound_onSeg fun g => sound_unless fun _ => sound_accept (sound_modLink_same rfl id)

theorem sound_releaseNode_command (p : Port) (ps : List Byte) (s : State) : Sound s (releaseNode p ps s).state := by
  unfold releaseNode
  split
  · exact .refl s
  · exact sound_onSeg fun g => sound_releaseNode s g _

theorem sound_configureTally (p : Port) (ps : List Byte) (s : State) : Sound s (configureTally p ps s).state := by
  unfold configureTally
  split
  · exact sound_onSeg fun g => sound_setTally s g _ _
  · exact .refl s

theorem sound_configureFeed (p : Port) (ps : List Byte) (s : State) : Sound s (configureFeed p ps s).state := by
  unfold configureFeed
  split
  · exact .refl s
  · exact sound_onSeg fun g => sound_unless fun _ => sound_accept (sound_modFeed id)

/-- Every command keeps the invariants. -/
theorem sound_answerOf (i : Instr) (s : State) : Sound s (answerOf i s).state := by
  cases i with
  | noop | readIdentity => exact sound_unless fun _ => .refl s
  | setSupervision p => exact sound_unless fun _ => sound_accept (calm_modPort s p).sound
  | setRights p _ ps => exact sound_setRights p ps s
  | readRights p _ ps =>
    show Sound s (readRights ps s).state
    unfold readRights
    split
    · exact .refl s
    · exact sound_unless fun _ => .refl s
  | resetPort p => exact sound_unless fun _ => sound_resetPort s p
  | definePoint p _ ps => exact sound_definePoint p ps s
  | retirePoint p _ ps e => exact sound_onPoint fun _ live => sound_retire live e
  | modifyPoint p _ ps e => exact sound_modifyPoint p ps e s
  | listPoints | readBlock | readFeeds => exact sound_unless fun _ => .refl s
  | readPoint => exact sound_onPoint fun _ _ => .refl s
  | demandRead p _ ps e => exact sound_demandRead p ps e s
  | setBand p _ ps => exact sound_setBand p ps s
  | clearBand => exact sound_onPoint fun _ _ => sound_accept (sound_modPoint s)
  | setDeadband p _ ps => exact sound_setDeadband p ps s
  | writePoint p _ ps e => exact sound_writePoint p ps e s
  | cancelWrite p _ ps => exact sound_cancelWrite p ps s
  | setSafeValue p _ ps => exact sound_setSafeValue p ps s
  | configureScan p _ ps => exact sound_configureScan p ps s
  | startScan _ _ _ e => exact sound_onSeg fun g => sound_startScan s g e
  | stopScan => exact sound_onSeg fun g => sound_stopScan s g
  | finishScan => exact sound_onSeg fun g => sound_finish s g
  | fireTrigger p _ ps e => exact sound_fireTrigger p ps e s
  | configureTriggerInput p _ ps => exact sound_configureTriggerInput p ps s
  | configureLink p _ ps => exact sound_configureLink p ps s
  | recoverLine => exact sound_onSeg fun g => sound_recoverLine s g
  | readNodes => exact sound_onSeg fun _ => .refl s
  | releaseNode p _ ps => exact sound_releaseNode_command p ps s
  | configureTally p _ ps => exact sound_configureTally p ps s
  | readTally => exact sound_onSeg fun g => Sound.ite fun _ => sound_clearTallies s g
  | configureFeed p _ ps => exact sound_configureFeed p ps s
  | feedOn => exact sound_onSeg fun g => sound_feedOn s g
  | feedOff _ _ _ e => exact sound_onSeg fun g => sound_feedSwitchedOff s g e.order
  | subscribe p => exact sound_onPoint fun i _ => sound_setMask s p i _
  | unsubscribe p => exact sound_onPoint fun i _ => sound_setMask s p i 0
  | takeAttention p _ ps => exact sound_takeAttention s p ps
  | setNoticeMask p => exact sound_unless fun _ => sound_accept (calm_modPort s p).sound
  | _ => exact .refl s

/-! ### Events -/

/-- Every event keeps the invariants. -/
theorem sound_effectOf (i : Instr) (s : State) : Sound s (effectOf i s) := by
  cases i with
  | supervisionLapse p e => exact .ite fun _ => sound_lapse s p e
  | ageTick => exact sound_ageTick s
  | staleExpiry j =>
    refine .ite fun due => sound_setStale ?_
    have expired := due.2
    simp only [Point.expired, Bool.and_eq_true, decide_eq_true_eq] at expired
    exact expired.1.1
  | periodBoundary g e => exact .ite fun _ => sound_boundary s g e
  | deferredStart g e => exact .ite fun _ => sound_deferredStart s g e
  | triggerInputEdge t level e =>
    show Sound s (if (s.trigs.get t).level = level then s else s.edge t level e)
    split
    · exact .refl s
    · exact sound_edge s t level e
  | requestSent g => exact sound_requestSent s g
  | responseStartBit g => exact sound_responseStart s g
  | responseWindowExpiry g e => exact sound_windowExpiry s g e
  | responseFrameEnd g frame e => exact sound_responseEnd s g frame e
  | tenthCharacter g e => exact sound_tenthCharacter s g e
  | backoffExpiry g e => exact sound_backoffExpiry s g e
  | idleWaitLineIdle g => exact sound_idleWaitIdle s g
  | idleWaitExpiry g => exact sound_idleWaitExpiry s g
  | transmitterCurrentLimit g => exact sound_currentLimit s g
  | gapEnd g e => exact sound_gapEnd s g e
  | recoveryExpiry g e => exact sound_recoveryExpiry s g e
  | recoveryLineIdle g => exact sound_recoveryIdle s g
  | clampBegin g => exact sound_clampBegin s g
  | clampEnd g => exact sound_modFeed id
  | feedTrip g _ _ e => exact .ite fun _ => sound_feedTrips s g e.order
  | startTimerExpiry g e => exact .ite fun due => sound_feedSettles (by rw [due.1]; nofun) e
  | settleTimerExpiry g e => exact .ite fun due => sound_feedEntersOn (by rw [due.1]; nofun) e
  | retryTimerExpiry g => exact sound_retry s g
  | supplyLevelChange mv e =>
    show Sound s (if s.supply.judge mv = s.supply then s
      else s.monitorChange (s.supply.judge mv) s.temperature .supply e.order)
    split
    · exact .refl s
    · exact sound_monitorChange s _ _ _ _
  | temperatureLevelChange mc e =>
    show Sound s (if s.temperature.judge mc = s.temperature then s
      else s.monitorChange s.supply (s.temperature.judge mc) .thermal e.order)
    split
    · exact .refl s
    · exact sound_monitorChange s _ _ _ _
  | _ => exact .refl s

/-! ### A device reset and the step -/

theorem link_reset (g : Seg) : State.reset.link g = Link.reset := by cases g <;> rfl

theorem sched_reset (g : Seg) : State.reset.sched g = Scheduler.reset g := by cases g <;> rfl

theorem node_reset (g : Seg) (n : NodeIdx) : State.reset.node g n = NodeRec.reset := by
  cases g <;> simp [State.node, State.seg, State.reset, PerSeg.get, Segment.reset]

theorem point_reset (i : PointIdx) : State.reset.point i = Point.cleared 0 := by
  simp [State.point, State.reset]

theorem invariants_reset :
    RightsHeld State.reset ∧ ListsMerged State.reset ∧ QueuesFit State.reset ∧ SchedCounts State.reset ∧
      UnpoweredQuiet State.reset ∧ ScanListsSound State.reset ∧ SegmentLaw State.reset ∧ NodeCounts State.reset := by
  have idle (i : PointIdx) : (State.reset.point i).life = .free := by rw [point_reset]; rfl
  refine ⟨.inl rfl, fun p => by cases p <;> exact List.nodup_nil, fun g => ?_, fun g => ?_, fun g _ => ?_, fun g => ?_,
    fun g => ?_, fun g n => ?_, fun g => ?_⟩
  · rw [sched_reset]
    exact Nat.zero_le _
  · rw [sched_reset]
    exact ⟨Nat.zero_le _, Nat.zero_le _, Nat.zero_le _⟩
  · rw [sched_reset, link_reset]
    exact ⟨rfl, rfl, .inl rfl⟩
  · rw [sched_reset]
    exact ⟨List.nodup_nil, fun i => by simp [Scheduler.reset, idle], nofun⟩
  · rw [sched_reset, link_reset]
    exact ⟨List.nodup_nil, nofun, nofun, fun _ => ⟨rfl, rfl, .inl rfl, fun i live => by
      rw [idle] at live
      cases live⟩⟩
  · rw [node_reset]
    simp [idle, NodeRec.reset]
  · simp [idle]

theorem ResetDone.sound {t : State} (h : ResetDone t) (s : State) : Sound s t := by
  obtain ⟨rights, merged, fit, counts, quiet, scan, law, nodes⟩ := invariants_reset
  have same : Sound State.reset t := sound_same h.segs h.points (rightsHeld_of_device h.device) fun _ p => by
    rw [h.attention]
    exact List.nodup_nil
  exact ⟨fun _ => same.rights rights, fun _ => same.merged merged, fun _ => same.fit fit, fun _ => same.counts counts,
    fun _ => same.scan scan, fun _ _ => same.nodes scan nodes, fun _ => same.quiet quiet, fun _ _ => same.law scan law⟩

/-- Every step keeps the invariants. -/
theorem step_sound {s t : State} (h : step s = .next t) : Sound s t := by
  cases step_course h with
  | calm k => exact k.sound
  | answers i p u before after =>
    exact ((before.sound.trans (sound_acceptFrame u p)).trans (sound_answerOf i _)).trans after.sound
  | effect i u before after => exact after ▸ before.sound.trans (sound_effectOf i u)
  | reset k => exact k.sound s

/-- An exchange in flight finds its node counted (R120). -/
theorem counted_of_flying {s : State} {g : Seg} {x : Exchange} (law : SegmentLaw s) (n : NodeCounts s)
    (flying : (s.link g).exchange = some x) : 1 ≤ (s.node g x.node).refs ∧ (s.node g x.node).state ≠ .idle := by
  obtain ⟨-, -, serves, -⟩ := law g
  obtain ⟨seg, node, used⟩ := serves x flying
  rw [← seg, ← node]
  exact refs_pos_of_home n used

end Sys2Proof.Machine

namespace Sys2Proof

open Machine

/-- Settles O54. -/
theorem rightsKept : Obligations.RightsKept := fun _ _ h k => (step_sound k).rights h

/-- Settles O55. -/
theorem listsKeptMerged : Obligations.ListsKeptMerged := fun _ _ h k => (step_sound k).merged h

/-- Settles O56. -/
theorem queuesAndCountsKept : Obligations.QueuesAndCountsKept :=
  ⟨fun _ _ h k => (step_sound k).fit h, fun _ _ h k => (step_sound k).counts h,
    fun _ _ l h k => (step_sound k).nodes l h, fun _ _ _ law h flying => counted_of_flying law h flying⟩

/-- Settles O57. -/
theorem unpoweredStaysQuiet : Obligations.UnpoweredStaysQuiet := fun _ _ h k => (step_sound k).quiet h

/-- Settles O58. -/
theorem scanListsKept : Obligations.ScanListsKept := fun _ _ h k => (step_sound k).scan h

/-- Settles O59. -/
theorem segmentLawKept : Obligations.SegmentLawKept := fun _ _ l h k => (step_sound k).law l h

/-- Settles O60. -/
theorem invariantsAtReset : Obligations.InvariantsAtReset := invariants_reset

end Sys2Proof
end

section
/-! PROOF. Steps and rows (R147, R160 to R165, R174): every row goes on, what a reset and an ignored transaction leave of
it, and what any row leaves of the chip-selects (O1 to O5). -/

namespace Sys2Proof.Machine

/-! ### Rows -/

theorem paramsFit_of_parts {i : Instr} {p : Port} {code tag : Byte} {ps : List Byte}
    (parts : commandParts i = some (p, code, tag, ps)) (w : i.wellFormed = true) : paramsFit ps = true := by
  cases i <;> simp only [commandParts, Option.some.injEq, Prod.mk.injEq, reduceCtorEq] at parts <;>
    obtain ⟨-, -, -, rfl⟩ := parts <;> first | exact w | exact (Bool.and_eq_true_iff.mp w).1

theorem exec_next (i : Instr) (s : State) : ∃ t, exec i s = .next t := by
  cases i with
  | resetDevice p tag ps x =>
    show ∃ t, execResetDevice p tag ps x s = .next t
    unfold execResetDevice
    split
    · exact ⟨_, rfl⟩
    · exact command_next _ p tag ps _ s
  | unknownCommand p code tag ps =>
    show ∃ t, execUnknownCommand p code tag ps s = .next t
    unfold execUnknownCommand
    split
    · exact ⟨_, rfl⟩
    · exact command_next _ p tag ps _ s
  | frameRejected p bytes =>
    show ∃ t, execFrameRejected p bytes s = .next t
    unfold execFrameRejected
    split
    · exact ⟨_, rfl⟩
    · exact ⟨_, rfl⟩
  | fetch p cs => cases cs <;> exact ⟨_, rfl⟩
  | vddBrownout | powerOn | resetPin | resetExit => exact ⟨_, rfl⟩
  | supervisionLapse | ageTick | staleExpiry | periodBoundary | deferredStart | triggerInputEdge | requestSent
  | responseStartBit | responseWindowExpiry | responseFrameEnd | tenthCharacter | backoffExpiry | idleWaitLineIdle
  | idleWaitExpiry | transmitterCurrentLimit | gapEnd | recoveryExpiry | recoveryLineIdle | clampBegin | clampEnd
  | feedTrip | startTimerExpiry | settleTimerExpiry | retryTimerExpiry | supplyLevelChange
  | temperatureLevelChange =>
    rw [exec_event rfl rfl]
    exact event_next _ s
  | _ => exact command_next _ _ _ _ _ s

theorem step_next (s : State) : ∃ t, step s = .next t := by
  unfold step
  split
  · exact ⟨s, rfl⟩
  · exact exec_next _ _

/-- The rows that end a transaction on a port. -/
inductive PortRow (i : Instr) (p : Port) : Prop
  | command (code tag : Byte) (ps : List Byte) (parts : commandParts i = some (p, code, tag, ps))
  | rejected (bytes : List Byte) (row : i = .frameRejected p bytes)
  | fetch (n : Nat) (row : i = .fetch p (.rises n))

theorem portRow {i : Instr} {p : Port} (row : portOfInstr i = some p) : PortRow i p := by
  cases i with
  | frameRejected q bytes =>
    cases row
    exact .rejected bytes rfl
  | fetch q cs =>
    cases cs with
    | falls => cases row
    | rises n =>
      cases row
      exact .fetch n rfl
  | vddBrownout | powerOn | resetPin | resetExit | supervisionLapse | ageTick | staleExpiry | periodBoundary
  | deferredStart | triggerInputEdge | requestSent | responseStartBit | responseWindowExpiry | responseFrameEnd
  | tenthCharacter | backoffExpiry | idleWaitLineIdle | idleWaitExpiry | transmitterCurrentLimit | gapEnd
  | recoveryExpiry | recoveryLineIdle | clampBegin | clampEnd | feedTrip | startTimerExpiry | settleTimerExpiry
  | retryTimerExpiry | supplyLevelChange | temperatureLevelChange => cases row
  | _ =>
    cases row
    exact .command _ _ _ rfl

theorem wellFormed_unnamed {p : Port} {code tag : Byte} {ps : List Byte}
    (w : (Instr.unknownCommand p code tag ps).wellFormed = true) : code.toNat ∉ commandCodes :=
  of_decide_eq_true (Bool.and_eq_true_iff.mp w).2

/-- A well-formed command row is a command in its parts, but for an accepted RESET_DEVICE. -/
theorem exec_wellFormed {i : Instr} {p : Port} {code tag : Byte} {ps : List Byte}
    (parts : commandParts i = some (p, code, tag, ps)) (w : i.wellFormed = true) (s : State) :
    exec i s = command code p tag ps (answerOf i) s ∨
      (∃ x, i = .resetDevice p tag ps x) ∧ s.hears p = true ∧ ps.length = 0 ∧ s.hasDevice p .rights = true := by
  by_cases reset : ∃ q t xs x, i = .resetDevice q t xs x
  · obtain ⟨q, t, xs, x, rfl⟩ := reset
    cases parts
    by_cases accepted : (s.hears p && decide (ps.length = 0) && s.hasDevice p .rights) = true
    · rw [Bool.and_eq_true, Bool.and_eq_true, decide_eq_true_eq] at accepted
      exact .inr ⟨⟨x, rfl⟩, accepted.1.1, accepted.1.2, accepted.2⟩
    · exact .inl (if_neg accepted)
  · refine .inl (exec_command parts ?_ (fun q c b xs same => wellFormed_unnamed (same ▸ w)) s)
    cases i with
    | resetDevice q t xs x => exact absurd ⟨q, t, xs, x, rfl⟩ reset
    | resetExit | vddBrownout | powerOn | resetPin | fetch => cases parts
    | _ => rfl

/-! ### Resets and ignored transactions (R147, R160, R174) -/

theorem exec_inReset {i : Instr} {s : State} (reset : s.inReset = true) (exit : ∀ x, i ≠ .resetExit x)
    (brownout : i ≠ .vddBrownout) (power : i ≠ .powerOn) (pin : i ≠ .resetPin) (row : portOfInstr i = none)
    (fall : ∀ p, i ≠ .fetch p .falls) : exec i s = .next s := by
  refine (exec_event row ?_ s).trans (event_inReset reset)
  cases i with
  | resetDevice => cases row
  | resetExit x => exact absurd rfl (exit x)
  | vddBrownout => exact absurd rfl brownout
  | powerOn => exact absurd rfl power
  | resetPin => exact absurd rfl pin
  | fetch p cs =>
    cases cs with
    | falls => exact absurd rfl (fall p)
    | rises => cases row
  | _ => rfl

theorem exec_deaf {i : Instr} {s : State} {p : Port} (row : portOfInstr i = some p) (w : i.wellFormed = true)
    (deaf : s.hears p = false) : exec i s = .next (s.selectRises p) := by
  cases portRow row with
  | command code tag ps parts =>
    rcases exec_wellFormed parts w s with same | ⟨-, hears, -⟩
    · exact same.trans (command_deaf deaf (of_decide_eq_true (paramsFit_of_parts parts w)))
    · rw [deaf] at hears
      cases hears
  | rejected bytes same =>
    subst same
    exact (if_pos w).trans (transfer_deaf deaf)
  | fetch n same =>
    subst same
    exact (transfer_deaf deaf : transfer p (fun s => if n = 0 then s else s.fetch p n) s = _)

theorem attentionLine_iff (s : State) (p : Port) : s.attentionLine p = true ↔
    s.inReset = false ∧ (s.port p).attention ≠ [] ∧ (s.port p).lineEnable = true := by
  simp [State.attentionLine, and_assoc]

/-! ### The accepted frame and the status byte (R162, R163, R171) -/

theorem port_resume_self (s : State) (p : Port) : (s.resume p).port p =
    if (s.port p).lapsed then
      { s.port p with lapsed := false, supTimer := if (s.port p).supPeriod = 0 then none else some 0 }
    else s.port p := by
  unfold State.resume
  split
  · rw [port_raiseDev_ne _ _ p.ne_other, port_modPort_same]
  · rfl

theorem port_acceptFrame_self (s : State) (p : Port) : (s.acceptFrame p).port p =
    { s.port p with
      lapsed := false
      resetSeen := false
      supTimer :=
        if (s.port p).lapsed then (if (s.port p).supPeriod = 0 then none else some 0)
        else (s.port p).supTimer.map fun _ => 0 } := by
  rw [State.acceptFrame, port_modPort_same, port_resume_self]
  cases lapsed : (s.port p).lapsed with
  | true =>
    simp only [if_true, PortUnit.mk.injEq, true_and, and_true]
    split
    · rfl
    · rfl
  | false =>
    simp only [if_false, Bool.false_eq_true, lapsed]

/-! ### The chip-selects (R162, R174) -/

/-- No port's chip-select changes. -/
def SelectsKept (s t : State) : Prop := ∀ p, (t.port p).select = (s.port p).select

theorem SelectsKept.refl (s : State) : SelectsKept s s := fun _ => rfl

theorem SelectsKept.trans {s t u : State} (h : SelectsKept s t) (k : SelectsKept t u) : SelectsKept s u :=
  fun p => (k p).trans (h p)

theorem SelectsKept.ite {s t : State} {p : Prop} [Decidable p] (h : SelectsKept s t) :
    SelectsKept s (if p then t else s) := by
  split
  · exact h
  · exact .refl s

/-- Every segment. -/
def anySeg : Seg → Prop := fun _ => True

theorem Touches.selectsKept {F L G : Seg → Prop} {s t : State} (h : Touches F L G s t) : SelectsKept s t := fun p =>
  show (t.port p).bare.select = (s.port p).bare.select by rw [h.ports p]

theorem selectsKept_touches {s t : State} (h : Touches anySeg anySeg anySeg s t) : SelectsKept s t :=
  h.selectsKept

theorem selectsKept_modPort {p : Port} {f : PortUnit → PortUnit} (s : State)
    (keeps : ∀ u, (f u).select = u.select := by exact fun _ => rfl) : SelectsKept s (s.modPort p f) := fun q => by
  rw [port_modPort]
  split
  · next same => rw [keeps, same]
  · rfl

theorem selectsKept_ports {s t : State} (ports : t.ports = s.ports) : SelectsKept s t := fun p => by
  rw [State.port, State.port, ports]

/-- A check that refuses, or lets the rest of the command be done. -/
theorem selectsKept_unless {s : State} {c : Prop} [Decidable c] {r : Result} {a : Answer}
    (h : SelectsKept s a.state) : SelectsKept s (if c then refuse s r else a).state := by
  split
  · exact .refl s
  · exact h

theorem selectsKept_onPoint {s : State} {p : Port} {ps : List Byte} {len : Nat} {valid : Bool} {r : Option GroupRight}
    {body : PointIdx → Answer} (h : ∀ i, SelectsKept s (body i).state) :
    SelectsKept s (onPoint s p ps len valid r body).state :=
  selectsKept_unless (selectsKept_unless (selectsKept_unless (h _)))

theorem selectsKept_onSeg {s : State} {p : Port} {ps : List Byte} {len : Nat} {valid : Bool} {r : Option DeviceRight}
    {body : Seg → Answer} (h : ∀ g, SelectsKept s (body g).state) :
    SelectsKept s (onSeg s p ps len valid r body).state := by
  refine selectsKept_unless ?_
  split
  · exact .refl s
  · exact selectsKept_unless (h _)

section
variable {F L G : Seg → Prop}

theorem touches_retireRecord (s : State) (i : PointIdx) (serving : Bool) :
    Touches F L G s (s.retireRecord i serving) := by
  obtain ⟨u, told, eq⟩ := retireRecord_eq s i serving
  have withdrawn := (told.touches F L G).trans (touches_modPoint u i Point.retiring)
  rw [eq]
  split
  · exact withdrawn
  · exact withdrawn.trans (touches_closePoint _ i)

theorem touches_retireSched {g : Seg} (hl : L g) (hg : G g) (s : State) (i : PointIdx) (e : Env) :
    Touches F L G s (s.retireSched g i e) :=
  (touches_modSched hg s _).trans (touches_completeIfPassed hl hg _ _ e)

theorem touches_retire {s : State} {i : PointIdx} (hl : L (s.point i).seg) (hg : G (s.point i).seg) (e : Env) :
    Touches F L G s (s.retire i e) :=
  touches_takeParts _ (fun part t => by
    cases part with
    | sched _ => exact touches_retireSched hl hg t i e
    | points _ => exact touches_retireRecord t i _
    | _ => exact .refl F L G t) _ s

theorem touches_movePoint {g : Seg} (hl : L g) (hg : G g) (s : State) (i : PointIdx) (before : Option PointIdx)
    (e : Env) : Touches F L G s (s.movePoint g i before e) := by
  unfold State.movePoint
  dsimp only
  exact ((touches_modSched hg s _).trans (touches_completeIfPassed hl hg _ _ e)).trans (touches_modSched hg _ _)

theorem touches_modifyRecord (s : State) (i : PointIdx) (ps : List Byte) :
    Touches F L G s (s.modifyRecord i ps) := by
  unfold State.modifyRecord
  dsimp only
  split
  · exact (touches_setQuality s i _).trans (touches_modPoint _ i _)
  · exact touches_modPoint s i _

theorem touches_modifyParts {g : Seg} (hl : L g) (hg : G g) (s : State) (i : PointIdx) (ps : List Byte) (e : Env)
    (parts : List Part) : Touches F L G s (s.takeParts (State.modifyPart g i ps e) parts) :=
  touches_takeParts _ (fun part t => by
    cases part with
    | points _ => exact touches_modifyRecord t i ps
    | sched _ =>
      show Touches F L G t (if selected ps 4 then t.movePoint g i _ e else t)
      split
      · exact touches_movePoint hl hg t i _ e
      · exact .refl F L G t
    | _ => exact .refl F L G t) parts s

theorem touches_placeValue (s : State) (i : PointIdx) (f : Slot) : Touches F L G s (s.placeValue i f) := by
  unfold State.placeValue
  dsimp only
  split
  · exact (touches_modPoint s i _).trans (touches_raiseWrite _ i _ _)
  · exact touches_modPoint s i _

theorem touches_offerWrite {g : Seg} (hl : L g) (hg : G g) (s : State) (i : PointIdx) (urgent : Bool) (e : Env) :
    Touches F L G s (s.offerWrite g i urgent e).1 := by
  unfold State.offerWrite
  split
  · dsimp only
    split
    · exact (touches_offerUrgent hg s i).trans (touches_arbitrate hl hg _ e)
    · exact .refl F L G s
  · exact .refl F L G s

theorem touches_placeSafe (hG : ∀ g, G g) (i : PointIdx) (s : State) : Touches F L G s (State.placeSafe i s) := by
  unfold State.placeSafe
  split
  · exact (touches_placeValue s i _).trans (touches_offerUrgent (hG _) _ i)
  · exact .refl F L G s

theorem touches_placeBand (s : State) (i : PointIdx) (b : Band) : Touches F L G s (s.placeBand i b) := by
  unfold State.placeBand
  dsimp only
  split
  · exact (touches_modPoint s i _).trans (touches_judgeBand _ i _)
  · exact touches_modPoint s i _

theorem touches_startScan {g : Seg} (hl : L g) (hg : G g) (s : State) (e : Env) :
    Touches F L G s (s.startScan g e) := by
  unfold State.startScan
  split
  · dsimp only
    split
    · exact (touches_modSched hg s _).trans (touches_modSched hg _ _)
    · split
      · exact (touches_modSched hg s _).trans (touches_modSched hg _ _)
      · exact ((touches_modSched hg s _).trans (touches_setGoing hg _)).trans (touches_arbitrate hl hg _ e)
  · exact touches_modSched hg s _
  · exact .refl F L G s

theorem touches_stopScan {g : Seg} (hg : G g) (s : State) : Touches F L G s (s.stopScan g) := by
  unfold State.stopScan
  split
  · exact .refl F L G s
  · exact .refl F L G s
  · exact touches_modSched hg s _
  · exact touches_modSched hg s _
  · exact touches_modSched hg s _

theorem touches_boundary {g : Seg} (hl : L g) (hg : G g) (s : State) (e : Env) : Touches F L G s (s.boundary g e) := by
  unfold State.boundary
  split
  · exact (touches_startCycle hg s).trans (touches_arbitrate hl hg _ e)
  · exact touches_overrun hl hg s e
  · exact touches_overrun hl hg s e
  · exact .refl F L G s

theorem touches_deferredStart {g : Seg} (hl : L g) (hg : G g) (s : State) (e : Env) :
    Touches F L G s (s.deferredStart g e) := by
  unfold State.deferredStart
  dsimp only
  split
  · exact ((touches_modSched hg s _).trans (touches_startCycle hg _)).trans (touches_arbitrate hl hg _ e)
  · exact touches_modSched hg s _

theorem touches_recoverLine {g : Seg} (hl : L g) (s : State) : Touches F L G s (s.recoverLine g) := by
  unfold State.recoverLine
  split
  · exact (touches_modLink hl s _).trans (touches_raiseSeg _ g _)
  · exact .refl F L G s

theorem touches_releaseNode (s : State) (g : Seg) (n : NodeIdx) : Touches F L G s (s.releaseNode g n) := by
  unfold State.releaseNode
  split
  · exact (touches_modNode g s n _).trans (touches_raiseSeg _ g _)
  · exact .refl F L G s

theorem touches_feedOn {g : Seg} (hf : F g) (s : State) : Touches F L G s (s.feedOn g) := by
  have asked : Touches F L G s (s.feedAsked g) := by
    unfold State.feedAsked
    split
    · exact (touches_modFeed hf s _).trans (touches_raiseSeg _ g _)
    · exact touches_modFeed hf s _
  unfold State.feedOn
  split
  · exact asked
  · exact asked
  · exact touches_modFeed hf s _
  · exact .refl F L G s

/-- The events of the Link Engine (R108 to R115). -/
theorem touches_linkEvents {g : Seg} (hl : L g) (hg : G g) (s : State) (frame : List RxChar) (e : Env) :
    Touches F L G s (s.requestSent g) ∧ Touches F L G s (s.responseStart g) ∧ Touches F L G s (s.windowExpiry g e) ∧
      Touches F L G s (s.responseEnd g frame e) ∧ Touches F L G s (s.tenthCharacter g e) ∧
      Touches F L G s (s.backoffExpiry g e) ∧ Touches F L G s (s.idleWaitIdle g) ∧
      Touches F L G s (s.idleWaitExpiry g) ∧ Touches F L G s (s.recoveryExpiry g e) ∧
      Touches F L G s (s.recoveryIdle g) := by
  have none : Touches F L G s s := .refl F L G s
  refine ⟨?_, ?_, ?_, ?_, ?_, ?_, ?_, ?_, ?_, ?_⟩
  · unfold State.requestSent
    split
    · split
      · exact touches_modLink hl s _
      · exact none
    · exact none
  · unfold State.responseStart
    split
    · exact touches_modLink hl s _
    · exact none
  · unfold State.windowExpiry
    split
    · exact (touches_modLink hl s _).trans (touches_endAttempt hl hg _ _ _ _ _ _)
    · exact none
  · unfold State.responseEnd
    split
    · exact touches_frameEnd hl hg s _ frame _
    · exact none
  · unfold State.tenthCharacter
    split
    · exact touches_endAttempt hl hg s _ _ _ _ _
    · exact none
  · unfold State.backoffExpiry
    split
    · exact touches_beginAttempt hl s _ _
    · exact none
  · unfold State.idleWaitIdle
    split
    · exact touches_modLink hl s _
    · exact none
  · unfold State.idleWaitExpiry
    split
    · exact none
    · split
      · exact touches_lineFault hl hg s
      · exact touches_lineFault hl hg s
      · exact none
  · unfold State.recoveryExpiry
    split
    · split
      · exact touches_enterReady hl hg s e
      · exact touches_modLink hl s _
    · exact none
  · unfold State.recoveryIdle
    split
    · exact touches_enterReady hl hg s allIdle
    · exact none

end

end Sys2Proof.Machine
end

section
/-! PROOF. Steps, frames and refusals (R5, R147, R160 to R166, R174): O1 to O4. -/

namespace Sys2Proof.Machine

/-! ### What commands and events leave of the chip-selects -/

theorem touches_foldl {α : Type} {F L G : Seg → Prop} {f : State → α → State} (h : ∀ t a, Touches F L G t (f t a))
    (xs : List α) (s : State) : Touches F L G s (xs.foldl f s) := by
  induction xs generalizing s with
  | nil => exact .refl F L G s
  | cons x xs ih => exact (h s x).trans (ih _)

theorem selectsKept_done {s t : State} {data : List Byte} (h : Touches anySeg anySeg anySeg s t) :
    SelectsKept s (accept t data).state := h.selectsKept

theorem selectsKept_resetPort (s : State) (p : Port) : SelectsKept s (s.resetPort p) := by
  have scheds (t : State) : Touches anySeg anySeg anySeg t
      (Seg.all.foldl (fun s g => s.modSched g fun c => c.leavePort p) t) :=
    touches_foldl (fun (t : State) g => touches_modSched trivial t _) _ t
  have left := (selectsKept_modPort (p := p) (f := fun u => { u with reply := none, attention := [] }) s).trans
    (selectsKept_touches ((touches_mapPoints _ fun t => t.leavePort p).trans (scheds _)))
  exact (left.trans (selectsKept_touches (touches_forPoints _ (fun i t => touches_closureTest t i) _ _))).trans
    (selectsKept_modPort (p := p) (f := fun u => { u with supPeriod := 0, supTimer := none, lapsed := false }) _)

theorem selectsKept_takeAttention (p : Port) (ps : List Byte) (s : State) :
    SelectsKept s (takeAttention p ps s).state := by
  refine selectsKept_unless ?_
  split
  · exact .refl s
  · next x rest _ =>
    have taken : SelectsKept s (s.modPort p fun u => { u with attention := rest }) := selectsKept_modPort s
    refine taken.trans ?_
    cases x with
    | point i gen n => exact selectsKept_touches (touches_closureTest _ i)
    | segment g n => exact .refl _
    | device n => exact .refl _

theorem selectsKept_replaceRights (s : State) (q : Port) (groups : Vector (BitVec 3) 16) (device : BitVec 3) :
    SelectsKept s (s.replaceRights q groups device) :=
  (selectsKept_modPort (p := q) (f := fun u => { u with rights := groups, device := device }) s).trans
    (selectsKept_touches ((touches_mapPoints _ _).trans (touches_raiseDev _ q _)))

theorem selectsKept_demandRead (p : Port) (ps : List Byte) (e : Env) (s : State) :
    SelectsKept s (demandRead p ps e s).state := by
  refine selectsKept_onPoint fun i => selectsKept_unless ?_
  dsimp only
  split
  · exact selectsKept_done ((touches_modPoint s i _).trans (touches_modSched trivial _ _))
  · exact selectsKept_unless (selectsKept_done (((touches_modPoint s i _).trans
      (touches_joinQueue trivial _ i _)).trans (touches_arbitrate trivial trivial _ e)))

theorem selectsKept_definePoint (p : Port) (ps : List Byte) (s : State) :
    SelectsKept s (definePoint p ps s).state := by
  unfold definePoint
  split
  · exact .refl s
  · refine selectsKept_unless (selectsKept_unless (selectsKept_unless (selectsKept_unless (selectsKept_unless ?_))))
    split
    · exact .refl s
    · exact selectsKept_done (((touches_setPoint s _ _).trans (touches_modSched trivial _ _)).trans
        (touches_modNode _ _ _ _))

theorem selectsKept_answerOf (i : Instr) (s : State) : SelectsKept s (answerOf i s).state := by
  cases i with
  | setSupervision => exact selectsKept_unless (selectsKept_modPort s)
  | setRights p _ ps =>
    show SelectsKept s (setRights p ps s).state
    unfold setRights
    split
    · exact .refl s
    · exact selectsKept_unless (selectsKept_unless (selectsKept_unless (selectsKept_replaceRights s _ _ _)))
  | readRights p _ ps =>
    show SelectsKept s (readRights ps s).state
    unfold readRights
    split
    · exact .refl s
    · exact selectsKept_unless (.refl s)
  | resetPort p => exact selectsKept_unless (selectsKept_resetPort s p)
  | noop | readIdentity | listPoints | readBlock | readFeeds => exact selectsKept_unless (.refl s)
  | definePoint p _ ps => exact selectsKept_definePoint p ps s
  | retirePoint _ _ _ e => exact selectsKept_onPoint fun i => selectsKept_done (touches_retire trivial trivial e)
  | modifyPoint p _ ps e =>
    exact selectsKept_unless (selectsKept_unless (selectsKept_unless (selectsKept_unless (selectsKept_unless
      (selectsKept_unless (selectsKept_unless (selectsKept_unless (selectsKept_done
        (touches_modifyParts trivial trivial s _ ps e _)))))))))
  | readPoint => exact selectsKept_onPoint fun _ => .refl s
  | demandRead p _ ps e => exact selectsKept_demandRead p ps e s
  | setBand => exact selectsKept_onPoint fun i => selectsKept_unless (selectsKept_done (touches_placeBand s i _))
  | clearBand => exact selectsKept_onPoint fun i => selectsKept_done (touches_modPoint s i _)
  | setDeadband => exact selectsKept_onPoint fun i => selectsKept_unless (selectsKept_done (touches_modPoint s i _))
  | writePoint _ _ _ e =>
    exact selectsKept_onPoint fun i => selectsKept_unless (selectsKept_unless (selectsKept_done
      ((touches_placeValue s i _).trans (touches_offerWrite trivial trivial _ i _ e))))
  | cancelWrite =>
    refine selectsKept_onPoint fun i => selectsKept_unless ?_
    split
    · exact .refl s
    · exact selectsKept_done (((touches_modPoint s i _).trans (touches_raiseWrite _ i _ _)).trans
        (touches_modSched trivial _ _))
  | setSafeValue =>
    exact selectsKept_onPoint fun i => selectsKept_unless (selectsKept_unless
      (selectsKept_done (touches_modPoint s i _)))
  | configureScan p _ ps =>
    show SelectsKept s (configureScan p ps s).state
    unfold configureScan
    split
    · exact .refl s
    · exact selectsKept_onSeg fun g => selectsKept_unless (selectsKept_done (touches_modSched trivial s _))
  | startScan _ _ _ e =>
    exact selectsKept_onSeg fun g => selectsKept_done (touches_startScan trivial trivial s e)
  | stopScan => exact selectsKept_onSeg fun g => selectsKept_done (touches_stopScan trivial s)
  | finishScan => exact selectsKept_onSeg fun g => selectsKept_done (touches_modSched trivial s _)
  | fireTrigger p _ ps e =>
    show SelectsKept s (fireTrigger p ps e s).state
    unfold fireTrigger
    split
    · exact .refl s
    · exact selectsKept_unless (selectsKept_unless (selectsKept_done
        (touches_trigger (fun _ => trivial) (fun _ => trivial) s _ e)))
  | configureTriggerInput p _ ps =>
    show SelectsKept s (configureTriggerInput p ps s).state
    unfold configureTriggerInput
    split
    · exact .refl s
    · exact selectsKept_unless (selectsKept_unless (selectsKept_ports rfl))
  | configureLink p _ ps =>
    show SelectsKept s (configureLink p ps s).state
    unfold configureLink
    split
    · exact .refl s
    · exact selectsKept_onSeg fun g => selectsKept_unless (selectsKept_done (touches_modLink trivial s _))
  | recoverLine => exact selectsKept_onSeg fun g => selectsKept_done (touches_recoverLine trivial s)
  | readNodes => exact selectsKept_onSeg fun _ => .refl s
  | releaseNode p _ ps =>
    show SelectsKept s (releaseNode p ps s).state
    unfold releaseNode
    split
    · exact .refl s
    · exact selectsKept_onSeg fun g => selectsKept_done (touches_releaseNode s g _)
  | configureTally p _ ps =>
    show SelectsKept s (configureTally p ps s).state
    unfold configureTally
    split
    · exact selectsKept_onSeg fun g => selectsKept_ports rfl
    · exact .refl s
  | readTally =>
    exact selectsKept_onSeg fun g => SelectsKept.ite (selectsKept_ports rfl)
  | configureFeed p _ ps =>
    show SelectsKept s (configureFeed p ps s).state
    unfold configureFeed
    split
    · exact .refl s
    · exact selectsKept_onSeg fun g => selectsKept_unless (selectsKept_done (touches_modFeed trivial s _))
  | feedOn => exact selectsKept_onSeg fun g => selectsKept_done (touches_feedOn trivial s)
  | feedOff _ _ _ e =>
    exact selectsKept_onSeg fun g => selectsKept_done (touches_feedSwitchedOff trivial trivial trivial s e.order)
  | subscribe => exact selectsKept_onPoint fun i => selectsKept_done (touches_modPoint s i _)
  | unsubscribe => exact selectsKept_onPoint fun i => selectsKept_done (touches_modPoint s i _)
  | takeAttention p _ ps => exact selectsKept_takeAttention p ps s
  | setNoticeMask => exact selectsKept_unless (selectsKept_modPort s)
  | _ => exact .refl s

theorem selectsKept_lapse (s : State) (p : Port) (e : Env) : SelectsKept s (s.lapse p e) := by
  have lapsed : SelectsKept s (s.modPort p fun u => { u with lapsed := true, supTimer := none }) :=
    selectsKept_modPort s
  have arbitrated (t : State) (g : Seg) : Touches anySeg anySeg anySeg t
      (if (t.sched g).queue.length = (s.sched g).queue.length then t else t.arbitrate g e) := by
    split
    · exact .refl _ _ _ t
    · exact touches_arbitrate trivial trivial t e
  exact lapsed.trans (selectsKept_touches (((touches_forPoints _ (touches_placeSafe fun _ => trivial) _ _).trans
    (touches_raiseDev _ p.other _)).trans (touches_foldl arbitrated _ _)))

theorem selectsKept_monitorChange (s : State) (sl : SupplyLevel) (tl : TempLevel) (r : DevReason)
    (order : List Part) : SelectsKept s (s.monitorChange sl tl r order) := by
  have levels : SelectsKept s { s with supply := sl, temperature := tl } := selectsKept_ports rfl
  rw [monitorChange_eq]
  exact levels.trans (selectsKept_touches (Touches.trans
    ((((touches_modFeed trivial _ _).trans (touches_modFeed trivial _ _)).trans (touches_modFeed trivial _ _)).trans
      (touches_modFeed trivial _ _))
    (touches_takeParts _ (fun part t => touches_feedPart _ _ _ _ (fun _ _ => trivial) (fun _ _ => trivial) part t)
      _ _)))

theorem selectsKept_effectOf (i : Instr) (s : State) : SelectsKept s (effectOf i s) := by
  have link (g : Seg) (frame : List RxChar) (e : Env) :=
    touches_linkEvents (F := anySeg) (L := anySeg) (G := anySeg) (g := g) trivial trivial s frame e
  cases i with
  | supervisionLapse p e => exact .ite (selectsKept_lapse s p e)
  | ageTick =>
    have aged : SelectsKept s (s.mapPoints Point.tick) := selectsKept_ports rfl
    exact (aged.trans (selectsKept_modPort (p := .a) (f := PortUnit.tick) _)).trans
      (selectsKept_modPort (p := .b) (f := PortUnit.tick) _)
  | staleExpiry j => exact .ite (selectsKept_touches (touches_setQuality s j _))
  | periodBoundary g e => exact .ite (selectsKept_touches (touches_boundary trivial trivial s e))
  | deferredStart g e => exact .ite (selectsKept_touches (touches_deferredStart trivial trivial s e))
  | triggerInputEdge t level e =>
    have set (f : TriggerInput → TriggerInput) : SelectsKept s (s.modTrg t f) := selectsKept_ports rfl
    show SelectsKept s (if (s.trigs.get t).level = level then s else s.edge t level e)
    split
    · exact .refl s
    · unfold State.edge
      dsimp only
      split
      · split
        · exact (set _).trans (selectsKept_touches (touches_trigger (fun _ => trivial) (fun _ => trivial) _ _ e))
        · exact set _
      · exact set _
  | requestSent g => exact selectsKept_touches (link g [] allIdle).1
  | responseStartBit g => exact selectsKept_touches (link g [] allIdle).2.1
  | responseWindowExpiry g e => exact selectsKept_touches (link g [] e).2.2.1
  | responseFrameEnd g frame e => exact selectsKept_touches (link g frame e).2.2.2.1
  | tenthCharacter g e => exact selectsKept_touches (link g [] e).2.2.2.2.1
  | backoffExpiry g e => exact selectsKept_touches (link g [] e).2.2.2.2.2.1
  | idleWaitLineIdle g => exact selectsKept_touches (link g [] allIdle).2.2.2.2.2.2.1
  | idleWaitExpiry g => exact selectsKept_touches (link g [] allIdle).2.2.2.2.2.2.2.1
  | transmitterCurrentLimit g => exact .ite (selectsKept_touches (touches_lineFault trivial trivial s))
  | gapEnd g e => exact .ite (selectsKept_touches (touches_enterReady trivial trivial s e))
  | recoveryExpiry g e => exact selectsKept_touches (link g [] e).2.2.2.2.2.2.2.2.1
  | recoveryLineIdle g => exact selectsKept_touches (link g [] allIdle).2.2.2.2.2.2.2.2.2
  | clampBegin g => exact selectsKept_touches (touches_modFeed trivial s _)
  | clampEnd g => exact selectsKept_touches (touches_modFeed trivial s _)
  | feedTrip g _ _ e => exact .ite (selectsKept_touches (touches_feedTrips trivial trivial trivial s e.order))
  | startTimerExpiry g e => exact .ite (selectsKept_touches (touches_feedSettles trivial trivial trivial s e))
  | settleTimerExpiry g e => exact .ite (selectsKept_touches (touches_feedEntersOn trivial trivial trivial s e))
  | retryTimerExpiry g => exact .ite (selectsKept_touches (touches_modFeed trivial s _))
  | supplyLevelChange mv e =>
    show SelectsKept s (if s.supply.judge mv = s.supply then s
      else s.monitorChange (s.supply.judge mv) s.temperature .supply e.order)
    split
    · exact .refl s
    · exact selectsKept_monitorChange s _ _ _ _
  | temperatureLevelChange mc e =>
    show SelectsKept s (if s.temperature.judge mc = s.temperature then s
      else s.monitorChange s.supply (s.temperature.judge mc) .thermal e.order)
    split
    · exact .refl s
    · exact selectsKept_monitorChange s _ _ _ _
  | _ => exact .refl s

end Sys2Proof.Machine
end

section
/-! PROOF. Steps, frames, refusals and checks (R5, R147, R160 to R166, R174): O1 to O5. -/

namespace Sys2Proof.Machine

/-! ### The status byte and the chip-selects (R162, R164, R174) -/

theorem statusByte_bits (u : PortUnit) :
    u.statusByte.getLsbD 0 = u.reply.isSome ∧ u.statusByte.getLsbD 1 = !u.attention.isEmpty ∧
      u.statusByte.getLsbD 2 = u.lapsed ∧ u.statusByte.getLsbD 3 = u.resetSeen ∧ u.statusByte.toNat < 16 := by
  have bits : ∀ a b c d : Bool,
      (byteOf (bit a 0 + bit b 1 + bit c 2 + bit d 3)).getLsbD 0 = a ∧
      (byteOf (bit a 0 + bit b 1 + bit c 2 + bit d 3)).getLsbD 1 = b ∧
      (byteOf (bit a 0 + bit b 1 + bit c 2 + bit d 3)).getLsbD 2 = c ∧
      (byteOf (bit a 0 + bit b 1 + bit c 2 + bit d 3)).getLsbD 3 = d ∧
      (byteOf (bit a 0 + bit b 1 + bit c 2 + bit d 3)).toNat < 16 := by decide
  exact bits _ _ _ _

theorem shown_of_low {u : PortUnit} {status : Byte} {reply : Option Reply} (low : u.select = .low status reply) :
    u.shown = status ∧ u.offered = reply := by
  simp [PortUnit.shown, PortUnit.offered, low]

theorem shown_of_not_low {u : PortUnit} (other : ∀ status reply, u.select ≠ .low status reply) :
    u.shown = u.statusByte ∧ u.offered = u.reply := by
  unfold PortUnit.shown PortUnit.offered
  cases select : u.select with
  | low status reply => exact absurd select (other status reply)
  | high => exact ⟨rfl, rfl⟩
  | ignored => exact ⟨rfl, rfl⟩

theorem exec_falls (s : State) (p : Port) : exec (.fetch p .falls) s = .next (s.selectFalls p) := rfl

theorem modPort_congr {s : State} {p : Port} {f k : PortUnit → PortUnit} (same : f (s.port p) = k (s.port p)) :
    s.modPort p f = s.modPort p k := by
  have same : f (s.ports.get p) = k (s.ports.get p) := same
  unfold State.modPort
  rw [same]

theorem modPort_self {s : State} {p : Port} {f : PortUnit → PortUnit} (same : f (s.port p) = s.port p) :
    s.modPort p f = s := by
  have ports : (s.modPort p f).ports = s.ports := PerPort.ext_get fun q => by
    have at_q := port_modPort s p q f
    split at at_q
    · next eq => exact at_q.trans (same.trans (congrArg s.port eq.symm))
    · exact at_q
  cases s
  exact congrArg (fun ports => State.mk _ _ _ _ ports _ _ _) ports

theorem selectFalls_of_high {s : State} {p : Port} (high : (s.port p).select = .high) :
    s.selectFalls p = s.modPort p fun u =>
      { u with select := if s.inReset then .ignored else .low (s.port p).statusByte (s.port p).reply } := by
  refine modPort_congr ?_
  simp only [high]

theorem selectFalls_of_not_high {s : State} {p : Port} (low : (s.port p).select ≠ .high) : s.selectFalls p = s := by
  refine modPort_self ?_
  cases select : (s.port p).select with
  | high => exact absurd select low
  | ignored => simp [← select]
  | low status reply => simp [← select]

/-- A transaction leaves the chip-select of the other port as it is. -/
theorem select_transfer {p q : Port} {body : State → State} {s t : State} (other : q ≠ p)
    (h : transfer p body s = .next t) (kept : ((body s).port q).select = (s.port q).select) :
    (t.port q).select = (s.port q).select := by
  cases h
  rw [State.selectRises, port_modPort, if_neg other]
  split
  · exact kept
  · rfl

theorem select_command {i : Instr} {code : Byte} {p q : Port} {tag : Byte} {ps : List Byte} {s t : State}
    (other : q ≠ p) (h : command code p tag ps (answerOf i) s = .next t) :
    (t.port q).select = (s.port q).select := by
  unfold command at h
  split at h
  · cases h
    rfl
  · refine select_transfer other h ?_
    rw [State.shiftOut, State.putReply, port_modPort, if_neg other, port_modPort, if_neg other,
      selectsKept_answerOf, (acceptFrame_portKept s p q).select]

theorem select_frameRejected {p q : Port} {bytes : List Byte} {s t : State} (other : q ≠ p)
    (h : execFrameRejected p bytes s = .next t) : (t.port q).select = (s.port q).select := by
  unfold execFrameRejected at h
  split at h
  · refine select_transfer other h ?_
    split
    · rw [State.shiftOut, State.putReply, port_modPort, if_neg other, port_modPort, if_neg other]
    · rfl
  · cases h
    rfl

theorem port_fetch_other {p q : Port} (s : State) (n : Nat) (other : q ≠ p) : (s.fetch p n).port q = s.port q := by
  unfold State.fetch State.shiftOut
  dsimp only
  split
  · rw [port_modPort, if_neg other, port_modPort, if_neg other]
  · rw [port_modPort, if_neg other]

theorem select_fetch {p q : Port} {n : Nat} {s t : State} (other : q ≠ p)
    (h : exec (.fetch p (.rises n)) s = .next t) : (t.port q).select = (s.port q).select := by
  refine select_transfer (body := fun s => if n = 0 then s else s.fetch p n) other h ?_
  split
  · rfl
  · rw [port_fetch_other s n other]

theorem select_commandRow {i : Instr} {p q : Port} {code tag : Byte} {ps : List Byte} {s t : State} (other : q ≠ p)
    (parts : commandParts i = some (p, code, tag, ps)) (plain : Instr.apart i = false) (h : exec i s = .next t) :
    (t.port q).select = (s.port q).select := by
  by_cases unknown : ∃ q c b xs, i = .unknownCommand q c b xs
  · obtain ⟨q, c, b, xs, rfl⟩ := unknown
    cases parts
    have h : execUnknownCommand p code tag ps s = .next t := h
    unfold execUnknownCommand at h
    split at h
    · cases h
      rfl
    · exact select_command (i := .unknownCommand p code tag ps) other h
  · rw [exec_command parts plain fun q c b xs same => absurd ⟨q, c, b, xs, same⟩ unknown] at h
    exact select_command other h

/-- A row that is neither the port's own nor a device reset leaves its chip-select alone. -/
theorem select_exec {i : Instr} {s t : State} {p : Port} (foreign : portOfInstr i ≠ some p)
    (fall : i ≠ .fetch p .falls) (device : ∀ q tag ps x, i ≠ .resetDevice q tag ps x) (exit : ∀ x, i ≠ .resetExit x)
    (brownout : i ≠ .vddBrownout) (power : i ≠ .powerOn) (pin : i ≠ .resetPin) (h : exec i s = .next t) :
    (t.port p).select = (s.port p).select := by
  by_cases falls : ∃ q, i = .fetch q .falls
  · obtain ⟨q, rfl⟩ := falls
    cases h
    have other : p ≠ q := fun same => fall (by rw [same])
    rw [State.selectFalls, port_modPort, if_neg other]
  have plain : Instr.apart i = false := by
    cases i with
    | resetDevice q tag ps x => exact absurd rfl (device q tag ps x)
    | resetExit x => exact absurd rfl (exit x)
    | vddBrownout => exact absurd rfl brownout
    | powerOn => exact absurd rfl power
    | resetPin => exact absurd rfl pin
    | fetch q cs =>
      cases cs with
      | falls => exact absurd ⟨q, rfl⟩ falls
      | rises => rfl
    | _ => rfl
  cases row : portOfInstr i with
  | none =>
    rw [exec_event row plain] at h
    unfold event at h
    split at h
    · cases h
      rfl
    · cases h
      exact selectsKept_effectOf i s p
  | some q =>
    have other : p ≠ q := fun same => foreign (same ▸ row)
    cases portRow row with
    | command code tag ps parts => exact select_commandRow other parts plain h
    | rejected bytes same =>
      subst same
      exact select_frameRejected other h
    | fetch n same =>
      subst same
      exact select_fetch other h

/-- A command row other than RESET_DEVICE and UNKNOWN_COMMAND that the device takes is answered. -/
theorem exec_row {i : Instr} {s : State} {p : Port} {code tag : Byte} {ps : List Byte} (takes : Takes s p ps)
    (parts : commandParts i = some (p, code, tag, ps)) (device : ∀ x, i ≠ .resetDevice p tag ps x)
    (named : ∀ q c b xs, i ≠ .unknownCommand q c b xs) {t : State} {r : Result} {data : List Byte}
    (answer : answerOf i (s.acceptFrame p) = ⟨t, r, data⟩) :
    exec i s = .next (s.answered t p code tag ps r data) := by
  have plain : Instr.apart i = false := by
    cases i with
    | resetDevice q b xs x =>
      cases parts
      exact absurd rfl (device x)
    | resetExit | vddBrownout | powerOn | resetPin | fetch => cases parts
    | _ => rfl
  rw [exec_command parts plain (fun q c b xs same => absurd same (named q c b xs)), command_takes takes, answer]

/-! ### A refusal is only that (R165) -/

/-- An answer to `s` accepts, or leaves `s` and gives no result bytes. -/
def Honest (s : State) (a : Answer) : Prop := a.result = .ok ∨ a = refuse s a.result

theorem honest_refuse (s : State) (r : Result) : Honest s (refuse s r) := .inr rfl

theorem honest_accept (s t : State) (data : List Byte) : Honest s (accept t data) := .inl rfl

theorem honest_unless {s : State} {c : Prop} [Decidable c] {r : Result} {a : Answer} (h : Honest s a) :
    Honest s (if c then refuse s r else a) := by
  split
  · exact honest_refuse s r
  · exact h

theorem honest_onPoint {s : State} {p : Port} {ps : List Byte} {len : Nat} {valid : Bool} {r : Option GroupRight}
    {body : PointIdx → Answer} (h : ∀ i, Honest s (body i)) : Honest s (onPoint s p ps len valid r body) :=
  honest_unless (honest_unless (honest_unless (h _)))

theorem honest_onSeg {s : State} {p : Port} {ps : List Byte} {len : Nat} {valid : Bool} {r : Option DeviceRight}
    {body : Seg → Answer} (h : ∀ g, Honest s (body g)) : Honest s (onSeg s p ps len valid r body) := by
  refine honest_unless ?_
  split
  · exact honest_refuse s _
  · exact honest_unless (h _)

theorem honest_definePoint (p : Port) (ps : List Byte) (s : State) : Honest s (definePoint p ps s) := by
  unfold definePoint
  split
  · exact honest_refuse s _
  · refine honest_unless (honest_unless (honest_unless (honest_unless (honest_unless ?_))))
    split
    · exact honest_refuse s _
    · exact honest_accept s _ _

theorem honest_demandRead (p : Port) (ps : List Byte) (e : Env) (s : State) : Honest s (demandRead p ps e s) := by
  refine honest_onPoint fun i => honest_unless ?_
  dsimp only
  split
  · exact honest_accept s _ _
  · exact honest_unless (honest_accept s _ _)

theorem honest_answerOf (i : Instr) (s : State) : Honest s (answerOf i s) := by
  cases i with
  | noop | readIdentity | setSupervision | resetPort | listPoints | readBlock | readFeeds | setNoticeMask =>
    exact honest_unless (honest_accept s _ _)
  | resetDevice | unknownCommand => exact honest_refuse s _
  | setRights p _ ps =>
    show Honest s (setRights p ps s)
    unfold setRights
    split
    · exact honest_refuse s _
    · exact honest_unless (honest_unless (honest_unless (honest_accept s _ _)))
  | readRights p _ ps =>
    show Honest s (readRights ps s)
    unfold readRights
    split
    · exact honest_refuse s _
    · exact honest_unless (honest_accept s _ _)
  | definePoint p _ ps => exact honest_definePoint p ps s
  | modifyPoint p _ ps e =>
    exact honest_unless (honest_unless (honest_unless (honest_unless (honest_unless (honest_unless (honest_unless
      (honest_unless (honest_accept s _ _))))))))
  | demandRead p _ ps e => exact honest_demandRead p ps e s
  | retirePoint | readPoint | clearBand | subscribe | unsubscribe =>
    exact honest_onPoint fun i => honest_accept s _ _
  | setBand | setDeadband => exact honest_onPoint fun i => honest_unless (honest_accept s _ _)
  | writePoint | setSafeValue => exact honest_onPoint fun i => honest_unless (honest_unless (honest_accept s _ _))
  | cancelWrite =>
    refine honest_onPoint fun i => honest_unless ?_
    split
    · exact honest_refuse s _
    · exact honest_accept s _ _
  | startScan | stopScan | finishScan | recoverLine | readNodes | readTally | feedOn | feedOff =>
    exact honest_onSeg fun g => honest_accept s _ _
  | configureScan p _ ps =>
    show Honest s (configureScan p ps s)
    unfold configureScan
    split
    · exact honest_refuse s _
    · exact honest_onSeg fun g => honest_unless (honest_accept s _ _)
  | fireTrigger p _ ps e =>
    show Honest s (fireTrigger p ps e s)
    unfold fireTrigger
    split
    · exact honest_refuse s _
    · exact honest_unless (honest_unless (honest_accept s _ _))
  | configureTriggerInput p _ ps =>
    show Honest s (configureTriggerInput p ps s)
    unfold configureTriggerInput
    split
    · exact honest_refuse s _
    · exact honest_unless (honest_unless (honest_accept s _ _))
  | configureLink p _ ps =>
    show Honest s (configureLink p ps s)
    unfold configureLink
    split
    · exact honest_refuse s _
    · exact honest_onSeg fun g => honest_unless (honest_accept s _ _)
  | releaseNode p _ ps =>
    show Honest s (releaseNode p ps s)
    unfold releaseNode
    split
    · exact honest_refuse s _
    · exact honest_onSeg fun g => honest_accept s _ _
  | configureTally p _ ps =>
    show Honest s (configureTally p ps s)
    unfold configureTally
    split
    · exact honest_onSeg fun g => honest_accept s _ _
    · exact honest_refuse s _
  | configureFeed p _ ps =>
    show Honest s (configureFeed p ps s)
    unfold configureFeed
    split
    · exact honest_refuse s _
    · exact honest_onSeg fun g => honest_unless (honest_accept s _ _)
  | takeAttention p _ ps =>
    refine honest_unless ?_
    split
    · exact honest_refuse s _
    · exact honest_accept s _ _
  | _ => exact honest_accept s s []

theorem reply_answered (s t : State) (p : Port) (code tag : Byte) (ps : List Byte) (r : Result) (data : List Byte) :
    ((s.answered t p code tag ps r data).port p).reply = some ⟨tag, code, r, data⟩ := by
  simp [State.answered, State.selectRises, State.shiftOut, State.putReply]

/-- The reset of an accepted RESET_DEVICE empties the reply slots. -/
theorem reply_resetDevice {p q : Port} {tag : Byte} {ps : List Byte} {x : Samples} {s t : State}
    (hears : s.hears p = true) (length : ps.length = 0) (right : s.hasDevice p .rights = true)
    (h : exec (.resetDevice p tag ps x) s = .next t) : (t.port q).reply = none := by
  have accepted : (s.hears p && decide (ps.length = 0) && s.hasDevice p .rights) = true := by
    simp [hears, length, right]
  have h : execResetDevice p tag ps x s = .next t := h
  rw [execResetDevice, if_pos accepted] at h
  cases h
  rw [State.shiftOut, port_modPort]
  split
  · cases p <;> rfl
  · cases q <;> rfl

/-! ### The checks of a row (R165) -/

/-- The checks of a command that begins with a point's handle, at a state. -/
structure ChecksHandle (a : Answer) (s : State) (p : Port) (ps : List Byte) (len : Nat) (right : Option GroupRight)
    (fit : Bool) : Prop where
  badParameter : ps.length ≠ len ∨ fit = false → a = refuse s .badParameter
  staleHandle : ps.length = len → fit = true → s.handleOk (argHandle ps 0) = false → a = refuse s .staleHandle
  noRight : ∀ r, right = some r → ps.length = len → fit = true → s.handleOk (argHandle ps 0) = true →
    s.hasGroup p r (s.point (argHandle ps 0).idx).group = false → a = refuse s .noRight

theorem checks_onPoint (s : State) (p : Port) (ps : List Byte) (len : Nat) {valid fit : Bool} (r : Option GroupRight)
    (body : PointIdx → Answer) (same : valid = fit) :
    ChecksHandle (onPoint s p ps len valid r body) s p ps len r fit where
  badParameter h := onPoint_badParameter (same ▸ h)
  staleHandle length ok stale := by
    subst length ok same
    exact onPoint_staleHandle stale
  noRight right needs length ok handle lacks := by
    subst length ok same needs
    exact onPoint_noRight handle (by simp [State.lacksGroup, lacks])

theorem checks_handleRow {i : Instr} {s : State} {p : Port} {code tag : Byte} {ps : List Byte} {len : Nat}
    {right : Option GroupRight} {fit : Bool} (parts : commandParts i = some (p, code, tag, ps))
    (row : handleRow i = some (len, right, fit)) : ChecksHandle (answerOf i s) s p ps len right fit := by
  cases i with
  | retirePoint | readPoint | demandRead | setBand | clearBand | setDeadband | cancelWrite | unsubscribe | subscribe =>
    cases parts
    cases row
    dsimp only [answerOf, retirePoint, readPoint, demandRead, setBand, clearBand, setDeadband, cancelWrite, unsubscribe,
      subscribe]
    exact checks_onPoint s p ps _ _ _ rfl
  | writePoint | setSafeValue =>
    cases parts
    cases row
    dsimp only [answerOf, writePoint, setSafeValue]
    exact checks_onPoint s p ps _ _ _ (isSome_boolOf _)
  | _ => cases row

/-- The checks of a command that begins with a segment, at a state. -/
structure ChecksSegment (a : Answer) (s : State) (p : Port) (ps : List Byte) (len : Nat)
    (right : Option DeviceRight) (fit : Bool) : Prop where
  badParameter : ps.length ≠ len ∨ fit = false ∨ segOf (arg ps 0) = none → a = refuse s .badParameter
  noRight : ∀ r g, right = some r → ps.length = len → fit = true → segOf (arg ps 0) = some g →
    s.hasDevice p r = false → a = refuse s .noRight

theorem checks_onSeg (s : State) (p : Port) (ps : List Byte) (len : Nat) {valid fit : Bool} (r : Option DeviceRight)
    (body : Seg → Answer) (same : valid = fit) :
    ChecksSegment (onSeg s p ps len valid r body) s p ps len r fit where
  badParameter h := onSeg_badParameter (same ▸ h)
  noRight right g needs length ok seg lacks := by
    subst length ok same needs
    exact onSeg_noRight seg (by simp [State.lacksDevice, lacks])

/-- Parameters outside their values are refused before any other check. -/
theorem checks_unfit (s : State) (p : Port) (ps : List Byte) (len : Nat) {fit : Bool} (r : Option DeviceRight)
    (unfit : fit = false) : ChecksSegment (refuse s .badParameter) s p ps len r fit where
  badParameter _ := rfl
  noRight _ _ _ _ ok := absurd ok (by simp [unfit])

theorem isSome_nodeOf (n : Nat) : (nodeOf n).isSome = decide (1 ≤ n ∧ n ≤ 30) := by
  unfold nodeOf
  split
  · next h => simp [h]
  · next h => simp [h]

theorem isSome_within (lo hi n : Nat) : (within lo hi n).isSome = decide (lo ≤ n ∧ n ≤ hi) := by
  unfold within
  split
  · next h => simp [h]
  · next h => simp [h]

theorem isSome_tallyEventOf (n : Nat) : (tallyEventOf n).isSome = decide (n ≤ 9) := by
  unfold tallyEventOf
  split
  case h_11 =>
    next h0 h1 h2 h3 h4 h5 h6 h7 h8 h9 =>
    have above : ¬ n ≤ 9 := fun le => by
      interval_cases n <;> simp_all
    simp [above]
  all_goals rfl

theorem checks_segRow {i : Instr} {s : State} {p : Port} {code tag : Byte} {ps : List Byte} {len : Nat}
    {right : Option DeviceRight} {fit : Bool} (parts : commandParts i = some (p, code, tag, ps))
    (row : segRow i = some (len, right, fit)) : ChecksSegment (answerOf i s) s p ps len right fit := by
  cases i with
  | startScan | stopScan | finishScan | recoverLine | readNodes | feedOn | feedOff =>
    cases parts
    cases row
    exact checks_onSeg s p ps _ _ _ rfl
  | readTally =>
    cases parts
    cases row
    exact checks_onSeg s p ps _ _ _ (isSome_boolOf _)
  | configureScan =>
    cases parts
    cases row
    show ChecksSegment (configureScan p ps s) s p ps _ _ _
    unfold configureScan
    split
    · next none => exact checks_unfit s p ps _ _ (by rw [none]; rfl)
    · next some => exact checks_onSeg s p ps _ _ _ (by rw [some]; rfl)
  | configureLink =>
    cases parts
    cases row
    show ChecksSegment (configureLink p ps s) s p ps _ _ _
    unfold configureLink
    split
    · next none => exact checks_unfit s p ps _ _ (by rw [none]; rfl)
    · next some => exact checks_onSeg s p ps _ _ _ (by rw [some]; rfl)
  | configureFeed =>
    cases parts
    cases row
    show ChecksSegment (configureFeed p ps s) s p ps _ _ _
    unfold configureFeed
    split
    · next none => exact checks_unfit s p ps _ _ (by rw [none]; rfl)
    · next some => exact checks_onSeg s p ps _ _ _ (by rw [some]; rfl)
  | releaseNode =>
    cases parts
    cases row
    show ChecksSegment (releaseNode p ps s) s p ps _ _ _
    rw [← isSome_nodeOf]
    unfold releaseNode
    split
    · next none => exact checks_unfit s p ps _ _ (by rw [none]; rfl)
    · next some => exact checks_onSeg s p ps _ _ _ (by rw [some]; rfl)
  | configureTally =>
    cases parts
    cases row
    show ChecksSegment (configureTally p ps s) s p ps _ _ _
    have filter : (within 0 30 (arg ps 3)).isSome = decide (arg ps 3 ≤ 30) := by simp [isSome_within]
    rw [← isSome_boolOf, ← isSome_tallyEventOf, ← filter]
    unfold configureTally
    split
    · next second event node => exact checks_onSeg s p ps _ _ _ (by rw [second, event, node]; rfl)
    · next unfit =>
      refine checks_unfit s p ps _ _ (Bool.eq_false_iff.mpr fun fit => ?_)
      simp only [Bool.and_eq_true, Option.isSome_iff_exists] at fit
      obtain ⟨⟨⟨a, ha⟩, b, hb⟩, c, hc⟩ := fit
      exact unfit a b c ha hb hc
  | _ => cases row

theorem isSome_groupOf (n : Nat) : (groupOf n).isSome = decide (n ≤ 15) := by
  unfold groupOf
  split
  · next h => simp; omega
  · next h => simp; omega

theorem isSome_trgOf (n : Nat) : (trgOf n).isSome = decide (n ≤ 1) := by
  unfold trgOf
  split
  · rfl
  · rfl
  · next zero one =>
    have above : ¬ n ≤ 1 := fun le => by
      interval_cases n
      · exact zero rfl
      · exact one rfl
    simp [above]

theorem isSome_bind_const {α β : Type} {x : Option α} {f : α → Option β} {b : Bool} (h : ∀ a, (f a).isSome = b) :
    (x.bind f).isSome = (x.isSome && b) := by
  cases x with
  | none => rfl
  | some a => exact h a

/-- CONFIGURE_TRIGGER_INPUT's parameters lie within their values (R80). -/
theorem isSome_triggerCfgOf (ps : List Byte) : (triggerCfgOf ps).isSome =
    decide (arg ps 0 ≤ 1 ∧ (arg ps 1 ≤ 15 ∨ arg ps 1 = 255) ∧ arg ps 2 ≤ 1 ∧ arg ps 3 ≤ 1) := by
  have value (t : Trg) (falling level : Bool) :
      (if arg ps 1 = 0xFF then some (t, (none : Option (Fin 16)), falling, level)
        else (groupOf (arg ps 1)).bind fun v => some (t, some v, falling, level)).isSome =
      decide (arg ps 1 ≤ 15 ∨ arg ps 1 = 255) := by
    split
    · next all => simp [all]
    · next other =>
      rw [isSome_bind_const (b := true) fun v => rfl, isSome_groupOf]
      simp [other]
  refine (isSome_bind_const fun t => isSome_bind_const fun falling => isSome_bind_const fun level =>
    value t falling level).trans ?_
  rw [isSome_trgOf, isSome_boolOf, isSome_boolOf, Bool.eq_iff_iff]
  simp only [Bool.and_eq_true, decide_eq_true_eq]
  tauto

theorem takeAttention_badParameter {p : Port} {ps : List Byte} {s : State} (filled : ps ≠ []) :
    takeAttention p ps s = refuse s .badParameter :=
  if_pos (by simpa using filled)

theorem fireTrigger_badParameter {p : Port} {ps : List Byte} {e : Env} {s : State}
    (bad : ps.length ≠ 1 ∨ 15 < arg ps 0) : fireTrigger p ps e s = refuse s .badParameter := by
  have value := isSome_groupOf (arg ps 0)
  unfold fireTrigger
  split
  · rfl
  · next some =>
    have inside : arg ps 0 ≤ 15 := of_decide_eq_true (by rw [← value, some]; rfl)
    exact if_pos (bad.resolve_right (Nat.not_lt.mpr inside))

theorem fireTrigger_noRight {p : Port} {ps : List Byte} {e : Env} {s : State} (length : ps.length = 1)
    (inside : arg ps 0 ≤ 15) (lacks : s.hasDevice p .scan = false) :
    fireTrigger p ps e s = refuse s .noRight := by
  have value := isSome_groupOf (arg ps 0)
  rw [decide_eq_true inside] at value
  unfold fireTrigger
  split
  · next none =>
    rw [none] at value
    cases value
  · rw [if_neg (fun bad => bad length), if_pos lacks]

/-- The parameters of CONFIGURE_TRIGGER_INPUT (R80). -/
def TriggerParams (ps : List Byte) : Prop :=
  arg ps 0 ≤ 1 ∧ (arg ps 1 ≤ 15 ∨ arg ps 1 = 255) ∧ arg ps 2 ≤ 1 ∧ arg ps 3 ≤ 1

theorem configureTriggerInput_badParameter {p : Port} {ps : List Byte} {s : State}
    (bad : ps.length ≠ 4 ∨ ¬ TriggerParams ps) : configureTriggerInput p ps s = refuse s .badParameter := by
  have value := isSome_triggerCfgOf ps
  unfold configureTriggerInput
  split
  · rfl
  · next some =>
    have inside := of_decide_eq_true (value.symm.trans (by rw [some]; rfl))
    exact if_pos (bad.resolve_right (not_not_intro inside))

theorem configureTriggerInput_noRight {p : Port} {ps : List Byte} {s : State} (length : ps.length = 4)
    (inside : TriggerParams ps) (lacks : s.hasDevice p .scan = false) :
    configureTriggerInput p ps s = refuse s .noRight := by
  have value := (isSome_triggerCfgOf ps).trans (decide_eq_true inside)
  unfold configureTriggerInput
  split
  · next none =>
    rw [none] at value
    cases value
  · rw [if_neg (fun bad => bad length), if_pos lacks]

end Sys2Proof.Machine

namespace Sys2Proof

open Machine

/-- Settles O1: the step takes the front of the queue by definition. -/
theorem stepTakesFrontCommand : Obligations.StepTakesFrontCommand := by
  refine ⟨fun c s => rfl, fun s idle => ?_⟩
  unfold step
  rw [idle]

/-- Settles O2, from what each kind of row can do. -/
theorem everyStepGoesOn : Obligations.EveryStepGoesOn := by
  refine ⟨step_next, fun i s reset exit brownout power pin row fall =>
    exec_inReset reset exit brownout power pin row fall, fun s reset => ⟨fun g => ?_, fun p => ?_⟩, hears_iff,
    fun i s p row w deaf => exec_deaf row w deaf⟩
  · simp [State.gate, reset]
  · simp [State.attentionLine, reset]

/-- Settles O3: an accepted frame touches the two ports only, and every row leaves the other port's chip-select. -/
theorem acceptedFrameAndStatus : Obligations.AcceptedFrameAndStatus := by
  refine ⟨fun s p => ?_, statusByte_bits, attentionLine_iff, fun u => ⟨fun status reply => shown_of_low,
    shown_of_not_low⟩, fun s p => ⟨fun high awake => ?_, fun high reset => ?_, fun low => ?_⟩,
    fun i s t p foreign fall device exit brownout power pin h =>
      select_exec foreign fall device exit brownout power pin h⟩
  · obtain ⟨pending, inReset, points, segs, trigs, supply, temperature⟩ := acceptFrame_portsOnly s p
    exact ⟨pending, inReset, points, segs, trigs, supply, temperature, port_acceptFrame_self s p,
      port_acceptFrame_other s p⟩
  · rw [exec_falls, selectFalls_of_high high, awake]
    rfl
  · rw [exec_falls, selectFalls_of_high high, reset]
    rfl
  · rw [exec_falls, selectFalls_of_not_high low]

/-- Settles O4: every answer accepts, or is a refusal and nothing else. -/
theorem refusedChangesNothing : Obligations.RefusedChangesNothing := by
  intro i s t p code tag ps r parts hears w next reply refused
  rcases exec_wellFormed parts w s with row | ⟨⟨x, same⟩, -, length, right⟩
  · rw [row, command_takes ⟨hears, of_decide_eq_true (paramsFit_of_parts parts w)⟩] at next
    cases next
    rw [reply_answered] at reply
    cases reply
    rcases honest_answerOf i (s.acceptFrame p) with ok | same
    · exact absurd ok refused
    · rw [same]
      exact ⟨rfl, rfl⟩
  · subst same
    rw [reply_resetDevice hears length right next] at reply
    cases reply

/-- Settles O5, from the checks that the rows share. -/
theorem commandChecks : Obligations.CommandChecks := by
  refine ⟨fun s ps k => ⟨rfl, rfl, fun h => decide_eq_true_iff⟩, fun s p k => ⟨rfl, rfl, rfl, rfl, rfl, rfl⟩,
    ?_, ?_, ?_⟩
  · intro i s p code tag ps len right fit parts row takes
    have checks := checks_handleRow (s := s.acceptFrame p) parts row
    have device (x : Samples) : i ≠ .resetDevice p tag ps x := fun same => by
      subst same
      cases row
    have named (q : Port) (c b : Byte) (xs : List Byte) : i ≠ .unknownCommand q c b xs := fun same => by
      subst same
      cases row
    refine ⟨fun unfit => exec_row takes parts device named (checks.badParameter unfit), fun length ok stale =>
      exec_row takes parts device named (checks.staleHandle length ok (by simpa using stale)), fun r needs length ok handle
        lacks =>
      exec_row takes parts device named (checks.noRight r needs length ok (by simpa using handle) (by simpa using lacks))⟩
  · intro i s p code tag ps len right fit parts row takes
    have checks := checks_segRow (s := s.acceptFrame p) parts row
    have device (x : Samples) : i ≠ .resetDevice p tag ps x := fun same => by
      subst same
      cases row
    have named (q : Port) (c b : Byte) (xs : List Byte) : i ≠ .unknownCommand q c b xs := fun same => by
      subst same
      cases row
    exact ⟨fun unfit => exec_row takes parts device named (checks.badParameter unfit), fun r g needs length ok seg lacks =>
      exec_row takes parts device named (checks.noRight r g needs length ok seg (by simpa using lacks))⟩
  · intro s p tag ps e takes
    refine ⟨fun filled => command_answers takes (takeAttention_badParameter filled), fun bad =>
      command_answers takes (fireTrigger_badParameter bad), fun length value lacks =>
      command_answers takes (fireTrigger_noRight length value (by simpa using lacks)), fun bad =>
      command_answers takes (configureTriggerInput_badParameter (bad.imp_right fun bad inside => ?_)),
      fun length input value falling level lacks => command_answers takes
        (configureTriggerInput_noRight length ⟨input, value, falling, level⟩ (by simpa using lacks))⟩
    unfold TriggerParams at inside
    omega

end Sys2Proof
end

section
/-! PROOF. Device resets, rejected and valid frames, FETCH, and the bytes of the SPI rows (R147, R162 to R165, R174): O9
to O14. -/

namespace Sys2Proof.Machine

/-! ### Device resets (R22, R147, R174) -/

theorem discard_eq (x : Selection) : x.discard = if x = .high then .high else .ignored := by
  cases x <;> rfl

/-- What a reset leaves of the ports, the selections written out. -/
theorem resetBlocks_eq {s : State} {chip : Port → Selection} (selects : ∀ q, chip q = (s.port q).select.discard) :
    s.resetBlocks = { State.reset with
      pending := s.pending
      ports := ⟨{ State.reset.port .a with select := chip .a }, { State.reset.port .b with select := chip .b }⟩ } := by
  rw [selects .a, selects .b]
  rfl

theorem exec_resetDevice_accepted {s : State} {p : Port} {tag : Byte} {ps : List Byte} {x : Samples}
    (hears : s.hears p = true) (length : ps.length = 0) (right : s.hasDevice p .rights = true) :
    exec (.resetDevice p tag ps x) s =
      .next (((s.selectRises p).afterReset x).shiftOut p (commandOut (s.port p).shown 5)) := by
  refine (if_pos ?_ : execResetDevice p tag ps x s = _)
  simp [hears, length, right]

theorem exec_resetDevice_refused {s : State} {p : Port} {tag : Byte} {ps : List Byte} {x : Samples} {r : Result}
    (takes : Takes s p ps) (refused : ps.length ≠ 0 ∨ s.hasDevice p .rights = false)
    (result : r = if ps.length ≠ 0 then .badParameter else .noRight) :
    exec (.resetDevice p tag ps x) s = .next (s.answered (s.acceptFrame p) p 0x06 tag ps r []) := by
  have row : execResetDevice p tag ps x s =
      command 0x06 p tag ps (fun t => refuse t (if ps.length ≠ 0 then .badParameter else .noRight)) s := by
    refine if_neg fun accepted => ?_
    rw [Bool.and_eq_true, Bool.and_eq_true, decide_eq_true_eq] at accepted
    obtain ⟨⟨-, length⟩, right⟩ := accepted
    rcases refused with filled | lacks
    · exact filled length
    · rw [right] at lacks
      cases lacks
  rw [result]
  exact row.trans (command_takes takes)

/-! ### Rejected frames and FETCH (R163, R164) -/

theorem exec_unknownCommand {s : State} {p : Port} {code tag : Byte} {ps : List Byte} (takes : Takes s p ps)
    (unnamed : code.toNat ∉ commandCodes) :
    exec (.unknownCommand p code tag ps) s =
      .next (s.answered (s.acceptFrame p) p code tag ps .unknownCommand []) :=
  (if_neg unnamed : execUnknownCommand p code tag ps s = _).trans (command_takes takes)

theorem modPort_modPort (s : State) (p : Port) (f k : PortUnit → PortUnit) :
    (s.modPort p f).modPort p k = s.modPort p fun u => k (f u) := by
  cases p <;> rfl

theorem exec_frameRejected {s : State} {p : Port} {bytes : List Byte} {cause : Nat} (hears : s.hears p = true)
    (some : bytes ≠ []) (fetch : argByte bytes 0 ≠ 0xB2) (rejected : rejectCause bytes = .some cause) :
    exec (.frameRejected p bytes) s =
      .next (s.modPort p fun u =>
        { u with
          reply := .some ⟨argByte bytes 2, argByte bytes 1, .frameRejected, [byteOf cause]⟩
          miso := (s.port p).shown :: List.replicate (bytes.length - 1) 0
          select := .high }) := by
  have row : isRejectedFrame bytes = true := by
    rw [isRejectedFrame, decide_eq_true fetch, rejected]
    simp [some]
  refine ((if_pos row : execFrameRejected p bytes s = _).trans (transfer_hears hears)).trans ?_
  rw [rejected]
  dsimp only
  rw [State.selectRises, State.shiftOut, State.putReply, modPort_modPort, modPort_modPort]
  rfl

theorem exec_rises_none {s : State} {p : Port} (hears : s.hears p = true) :
    exec (.fetch p (.rises 0)) s = .next (s.modPort p fun u => { u with select := .high }) :=
  (transfer_hears hears : transfer p (fun s => if 0 = 0 then s else s.fetch p 0) s = _)

theorem exec_rises_some {s : State} {p : Port} {n : Nat} (hears : s.hears p = true) (clocked : 0 < n) :
    exec (.fetch p (.rises n)) s = .next ((s.fetch p n).selectRises p) := by
  refine (transfer_hears hears : transfer p (fun s => if n = 0 then s else s.fetch p n) s = _).trans ?_
  rw [if_neg (Nat.ne_of_gt clocked)]

/-- A FETCH that ends before the check byte leaves the slot. -/
theorem fetch_short {s : State} {p : Port} {n : Nat} {out : List Byte}
    (shown : out = fetchBytes (s.port p).shown ((s.port p).offered.getD noReply)) (short : n < out.length) :
    s.fetch p n = s.modPort p fun u => { u with miso := out.take n } := by
  unfold State.fetch
  dsimp only
  rw [← shown, if_neg (Nat.not_le.mpr short), Nat.sub_eq_zero_of_le short.le]
  simp [State.shiftOut]

/-- A FETCH through the check byte empties the slot. -/
theorem fetch_whole {s : State} {p : Port} {n : Nat} {out : List Byte}
    (shown : out = fetchBytes (s.port p).shown ((s.port p).offered.getD noReply)) (whole : out.length ≤ n) :
    s.fetch p n = s.modPort p fun u => { u with miso := out ++ List.replicate (n - out.length) 0, reply := none } := by
  unfold State.fetch
  dsimp only
  rw [← shown, if_pos whole, List.take_of_length_le whole, State.shiftOut, modPort_modPort]

/-! ### Valid frames (R163) -/

theorem arg_byteOf {n : Nat} (small : n ≤ 48) : (byteOf n).toNat = n := by
  rw [byteOf_toNat]
  omega

/-- The last byte of a frame is its check byte. -/
theorem argByte_append_last (ps : List Byte) (x : Byte) : argByte (ps ++ [x]) ps.length = x := by
  simp [argByte]

theorem commandFrame_eq (code tag : Byte) (ps : List Byte) : commandFrame code tag ps =
    0xA1 :: code :: tag :: byteOf ps.length :: (ps ++ [portCheck (code :: tag :: byteOf ps.length :: ps)]) := rfl

theorem rejectCause_commandFrame (code tag : Byte) {ps : List Byte} (fits : ps.length ≤ 48) :
    rejectCause (commandFrame code tag ps) = none := by
  have length : arg (commandFrame code tag ps) 3 = ps.length := arg_byteOf fits
  have marker : argByte (commandFrame code tag ps) 0 = 0xA1 := rfl
  have check : argByte (commandFrame code tag ps) (4 + ps.length) =
      portCheck (code :: tag :: byteOf ps.length :: ps) := by
    rw [commandFrame_eq, Nat.add_comm 4]
    exact argByte_append_last ps _
  have body : ((commandFrame code tag ps).drop 1).take (3 + ps.length) = code :: tag :: byteOf ps.length :: ps := by
    rw [commandFrame_eq, Nat.add_comm 3]
    simp
  have size : (commandFrame code tag ps).length = 5 + ps.length := by
    rw [commandFrame_eq]
    simp
    omega
  unfold rejectCause
  dsimp only
  rw [length, marker, check, body, size, if_neg (by omega), Config.maxParams, if_neg (Nat.not_lt.mpr fits),
    if_neg (fun h => h.1 rfl), if_neg (not_not_intro rfl), if_neg (Nat.lt_irrefl _)]

/-- A list of `4 + n + 1` bytes: a head of four, `n` bytes, and a last one. -/
theorem exists_frame_of_length {bytes : List Byte} {n : Nat} (length : bytes.length = 5 + n) :
    ∃ (a b c d : Byte) (ps : List Byte) (x : Byte), ps.length = n ∧ bytes = a :: b :: c :: d :: (ps ++ [x]) := by
  obtain ⟨a, bytes, rfl⟩ := List.exists_cons_of_length_pos (l := bytes) (by omega)
  obtain ⟨b, bytes, rfl⟩ := List.exists_cons_of_length_pos (l := bytes) (by simp at length; omega)
  obtain ⟨c, bytes, rfl⟩ := List.exists_cons_of_length_pos (l := bytes) (by simp at length; omega)
  obtain ⟨d, bytes, rfl⟩ := List.exists_cons_of_length_pos (l := bytes) (by simp at length; omega)
  have rest : bytes.length = n + 1 := by simp at length; omega
  have filled : bytes ≠ [] := List.ne_nil_of_length_eq_add_one rest
  refine ⟨a, b, c, d, bytes.dropLast, bytes.getLast filled, by simp [rest], ?_⟩
  rw [List.dropLast_append_getLast]

theorem frame_of_rejectCause_none {bytes : List Byte} (marker : argByte bytes 0 = 0xA1)
    (valid : rejectCause bytes = none) :
    ∃ code tag ps, ps.length ≤ 48 ∧ bytes = commandFrame code tag ps := by
  unfold rejectCause at valid
  dsimp only at valid
  split at valid
  · cases valid
  · next long =>
    split at valid
    · cases valid
    · next fits =>
      split at valid
      · cases valid
      · split at valid
        · cases valid
        · next check =>
          split at valid
          · cases valid
          · next short =>
            obtain ⟨a, code, tag, d, ps, x, length, rfl⟩ :=
              exists_frame_of_length (bytes := bytes) (n := arg bytes 3) (by omega)
            have count : d = byteOf ps.length := BitVec.eq_of_toNat_eq (by
              rw [byteOf_toNat, length, Nat.mod_eq_of_lt (arg_lt _ _)]
              rfl)
            have marker : a = 0xA1 := marker
            have fits : ps.length ≤ 48 := length ▸ Nat.not_lt.mp fits
            refine ⟨code, tag, ps, fits, ?_⟩
            rw [not_not, ← length, Nat.add_comm 4, Nat.add_comm 3] at check
            have last : argByte (a :: code :: tag :: d :: (ps ++ [x])) (ps.length + 4) = x := argByte_append_last ps x
            have body : ((a :: code :: tag :: d :: (ps ++ [x])).drop 1).take (ps.length + 3) =
                code :: tag :: d :: ps := by simp
            rw [last, body] at check
            rw [commandFrame_eq, ← count, ← check, marker]

/-! ### The rows read back (R163 to R165) -/

theorem transaction_commandFrame (p : Port) (code tag : Byte) {ps : List Byte} (fits : ps.length ≤ 48) (x : Samples)
    (e : Env) : transaction p (commandFrame code tag ps) x e = commandOf p code tag ps x e := by
  have length : arg (commandFrame code tag ps) 3 = ps.length := arg_byteOf fits
  have params : ((commandFrame code tag ps).drop 4).take ps.length = ps := by
    rw [commandFrame_eq]
    simp
  have start : ((commandFrame code tag ps).isEmpty || decide (argByte (commandFrame code tag ps) 0 = 0xB2)) = false :=
    rfl
  rw [transaction, start, rejectCause_commandFrame code tag fits, length, params]
  rfl

theorem transaction_of_frame {p : Port} {bytes : List Byte} {code tag : Byte} {ps : List Byte}
    (frame : bytes = commandFrame code tag ps) (fits : ps.length ≤ 48) (x : Samples) (e : Env) :
    transaction p bytes x e = commandOf p code tag ps x e :=
  frame ▸ transaction_commandFrame p code tag fits x e

theorem frameOf_parts {i : Instr} {p : Port} {code tag : Byte} {ps : List Byte}
    (parts : commandParts i = some (p, code, tag, ps)) : frameOf i = some (commandFrame code tag ps) := by
  cases i with
  | resetExit | vddBrownout | powerOn | resetPin | fetch | frameRejected | supervisionLapse | ageTick | staleExpiry
  | periodBoundary | deferredStart | triggerInputEdge | requestSent | responseStartBit | responseWindowExpiry
  | responseFrameEnd | tenthCharacter | backoffExpiry | idleWaitLineIdle | idleWaitExpiry
  | transmitterCurrentLimit | gapEnd | recoveryExpiry | recoveryLineIdle | clampBegin | clampEnd | feedTrip
  | startTimerExpiry | settleTimerExpiry | retryTimerExpiry | supplyLevelChange | temperatureLevelChange =>
    cases parts
  | _ =>
    cases parts
    rfl

theorem commandOf_unnamed (p : Port) {code : Byte} (tag : Byte) (ps : List Byte) (x : Samples) (e : Env)
    (unnamed : code.toNat ∉ commandCodes) : commandOf p code tag ps x e = .unknownCommand p code tag ps := by
  unfold commandOf
  split
  case h_41 => rfl
  all_goals
    next named =>
      rw [named] at unnamed
      exact absurd (by decide) unnamed

theorem commandOf_parts {i : Instr} {p : Port} {code tag : Byte} {ps : List Byte}
    (parts : commandParts i = some (p, code, tag, ps)) (w : i.wellFormed = true) (x : Samples) (e : Env) :
    commandOf p code tag ps (samplesOf x i) (envOf e i) = i := by
  cases i with
  | unknownCommand =>
    cases parts
    exact commandOf_unnamed p tag ps _ _ (wellFormed_unnamed w)
  | resetExit | vddBrownout | powerOn | resetPin | fetch | frameRejected | supervisionLapse | ageTick | staleExpiry
  | periodBoundary | deferredStart | triggerInputEdge | requestSent | responseStartBit | responseWindowExpiry
  | responseFrameEnd | tenthCharacter | backoffExpiry | idleWaitLineIdle | idleWaitExpiry
  | transmitterCurrentLimit | gapEnd | recoveryExpiry | recoveryLineIdle | clampBegin | clampEnd | feedTrip
  | startTimerExpiry | settleTimerExpiry | retryTimerExpiry | supplyLevelChange | temperatureLevelChange =>
    cases parts
  | _ =>
    cases parts
    rfl

theorem transaction_rejected (p : Port) {bytes : List Byte} (rejected : isRejectedFrame bytes = true) (x : Samples)
    (e : Env) : transaction p bytes x e = .frameRejected p bytes := by
  simp only [isRejectedFrame, Bool.and_eq_true, Bool.not_eq_true', decide_eq_true_eq] at rejected
  obtain ⟨⟨filled, marker⟩, cause⟩ := rejected
  rw [transaction, filled, decide_eq_false marker, if_pos cause]
  rfl

/-! ### Codes and checks -/

theorem crcShift_eq (poly r : Byte) :
    crcShift poly r = if r.getLsbD 7 = true then (r <<< 1) ^^^ poly else r <<< 1 := by
  rw [crcShift, BitVec.msb_eq_getLsbD_last]

theorem crc8_append (poly init : Byte) (xs : List Byte) (x : Byte) :
    crc8 poly init (xs ++ [x]) = (crcShift poly)^[8] (crc8 poly init xs ^^^ x) := by
  rw [crc8, List.foldl_append]
  rfl

theorem nodeOf_eq_some_iff (n : Nat) (k : NodeIdx) : nodeOf n = some k ↔ n = k.val + 1 := by
  have bound := k.isLt
  unfold nodeOf
  split
  · rw [Option.some_inj, Fin.ext_iff]
    dsimp only
    omega
  · simp only [reduceCtorEq, false_iff]
    omega

theorem groupOf_eq_some_iff (n : Nat) (k : Fin 16) : groupOf n = some k ↔ n = k.val := by
  have bound := k.isLt
  unfold groupOf
  split
  · rw [Option.some_inj, Fin.ext_iff]
  · simp only [reduceCtorEq, false_iff]
    omega

theorem portOf_eq_some_iff (n : Nat) (p : Port) : portOf n = some p ↔ n = p.code := by
  refine ⟨fun h => ?_, fun h => h ▸ portOf_code p⟩
  unfold portOf at h
  split at h <;> cases h <;> rfl

theorem trgOf_eq_some_iff (n : Nat) (t : Trg) : trgOf n = some t ↔ n = (match t with
    | .trg0 => 0
    | .trg1 => 1) := by
  refine ⟨fun h => ?_, fun h => by cases t <;> subst h <;> rfl⟩
  unfold trgOf at h
  split at h <;> cases h <;> rfl

theorem tallyEventOf_eq_some_iff (n : Nat) (v : TallyEvent) : tallyEventOf n = some v ↔ n = v.code := by
  refine ⟨fun h => ?_, fun h => by cases v <;> subst h <;> rfl⟩
  unfold tallyEventOf at h
  split at h <;> cases h <;> rfl

end Sys2Proof.Machine

namespace Sys2Proof

open Machine

/-- Settles O9: the rows of a device reset, and the reset values. -/
theorem deviceResets : Obligations.DeviceResets := by
  refine ⟨fun s chip selects => ?_, rfl, rfl, fun i => point_reset i, fun n => rfl, fun g => ?_, fun p => ?_, ?_, ?_,
    ?_, ?_⟩
  · have selects (q : Port) : chip q = (s.port q).select.discard := (selects q).trans (discard_eq _).symm
    refine ⟨fun p tag ps x takes => ⟨fun filled => ?_, fun empty lacks => ?_, fun empty right => ?_⟩,
      fun held same => ?_, fun x reset => ?_⟩
    · have length : ps.length ≠ 0 := by simpa using filled
      exact exec_resetDevice_refused takes (.inl length) (by rw [if_pos length])
    · subst empty
      exact exec_resetDevice_refused takes (.inr lacks) rfl
    · subst empty
      rw [exec_resetDevice_accepted takes.1 rfl right]
      cases p
      · rw [if_pos rfl, if_pos rfl, if_neg (by decide), if_neg (by decide), selects .b]
        rfl
      · rw [if_pos rfl, if_pos rfl, if_neg (by decide), if_neg (by decide), selects .a]
        rfl
    · have holds : s.holdReset = held := by
        rw [State.holdReset, resetBlocks_eq selects, same]
      exact ⟨congrArg Host.Outcome.next holds, congrArg Host.Outcome.next holds, congrArg Host.Outcome.next holds⟩
    · refine congrArg Host.Outcome.next ((if_pos reset).trans ?_)
      rw [State.afterReset, resetBlocks_eq selects]
      rfl
  · cases g <;> exact ⟨rfl, rfl, fun n => node_reset _ n, rfl, rfl, rfl⟩
  · cases p <;> exact ⟨rfl, rfl, rfl, rfl, rfl, rfl, rfl, rfl, rfl, rfl, rfl⟩
  · intro k r
    cases r <;> revert k <;> decide
  · exact fun r => by cases r <;> rfl
  · decide
  · exact fun r => by cases r <;> rfl

/-- Settles O10, from the rows of a frame that carries no command. -/
theorem unknownAndRejectedFrames : Obligations.UnknownAndRejectedFrames :=
  ⟨fun _ _ _ _ _ takes unnamed => exec_unknownCommand takes unnamed,
    fun _ _ _ _ hears some fetch rejected => exec_frameRejected hears some fetch rejected⟩

/-- Settles O11: a frame without a cause is taken apart byte by byte. -/
theorem validFrames : Obligations.ValidFrames := by
  refine ⟨fun bytes marker => ⟨fun valid => frame_of_rejectCause_none marker valid, ?_⟩, fun bytes n fetch count => ?_⟩
  · rintro ⟨code, tag, ps, fits, rfl⟩
    exact rejectCause_commandFrame code tag fits
  · subst count
    have early : (bytes.length < 4 ∨ bytes.length < 5 + arg bytes 3) =
        (bytes.length < 5 ∨ bytes.length < 5 + arg bytes 3) := propext (by omega)
    have marker : (argByte bytes 0 ≠ 0xA1 ∧ argByte bytes 0 ≠ 0xB2) = (argByte bytes 0 ≠ 0xA1) :=
      propext (and_iff_left fetch)
    unfold rejectCause
    simp only [early, marker]
    rfl

/-- Settles O12, from the two ends of a FETCH. -/
theorem fetch : Obligations.Fetch := by
  intro s p n r out hears held shown
  have shown : out = fetchBytes (s.port p).shown ((s.port p).offered.getD noReply) := by
    rw [shown, held]
    rfl
  refine ⟨fun none => ?_, fun some short => ?_, fun whole => ?_⟩
  · subst none
    exact exec_rises_none hears
  · rw [exec_rises_some hears some, fetch_short shown short, State.selectRises, modPort_modPort]
  · have some : 0 < n := lt_of_lt_of_le (by rw [shown]; exact Nat.succ_pos _) whole
    rw [exec_rises_some hears some, fetch_whole shown whole, State.selectRises, modPort_modPort]

/-- Settles O13: a row is a command in its parts, a rejected frame or a FETCH. -/
theorem spiRowsReadBack : Obligations.SpiRowsReadBack := by
  intro i p bytes x e w frame row
  cases portRow row with
  | command code tag ps parts =>
    rw [frameOf_parts parts] at frame
    cases frame
    rw [transaction_commandFrame p code tag (of_decide_eq_true (paramsFit_of_parts parts w))]
    exact commandOf_parts parts w x e
  | rejected bytes same =>
    subst same
    cases frame
    exact transaction_rejected p w _ _
  | fetch n same =>
    subst same
    cases n with
    | zero =>
      cases frame
      rfl
    | succ n =>
      cases frame
      simp [transaction, argByte]

/-- Settles O14: the frames by evaluation, the checks byte by byte, and the tables of codes. -/
theorem framesAndCodes : Obligations.FramesAndCodes := by
  refine ⟨fun x e => ?_, ⟨rfl, rfl, fun shift shifts xs c => ?_⟩,
    ⟨fun n g => (segOf_eq_some_iff n g).trans eq_comm, rfl, portOf_eq_some_iff, rfl, trgOf_eq_some_iff,
      nodeOf_eq_some_iff, groupOf_eq_some_iff, tallyEventOf_eq_some_iff⟩,
    ⟨rfl, rfl, rfl, rfl, rfl, rfl, rfl, fun sub x => rfl, rfl, rfl, rfl, rfl, rfl, rfl⟩, rfl, rfl, rfl, rfl, rfl, rfl⟩
  · refine ⟨?_, ?_, ?_, ?_, ?_, ?_, rfl, rfl, by decide +kernel⟩
    · exact transaction_of_frame (code := 0x00) (tag := 0x01) (ps := []) (by decide +kernel) (by decide) x e
    · exact transaction_of_frame (code := 0x41) (tag := 0x07) (ps := [0x02]) (by decide +kernel) (by decide) x e
    · exact transaction_of_frame (code := 0x20) (tag := 0x10) (ps := [0x05, 0x03]) (by decide +kernel) (by decide) x e
    · have frame : [0xA1, 0x30, 0x22, 0x07, 0x00, 0x00, 0xE7, 0x03, 0x00, 0x00, 0x01, 0x35] =
          commandFrame 0x30 0x22 [0x00, 0x00, 0xE7, 0x03, 0x00, 0x00, 0x01] := by decide +kernel
      exact transaction_of_frame frame (by decide) x e
    · exact transaction_of_frame (code := 0x5B) (tag := 0xAB) (ps := []) (by decide +kernel) (by decide) x e
    · exact transaction_of_frame (code := 0x7F) (tag := 0x00) (ps := []) (by decide +kernel) (by decide) x e
  · have shift_eq : (fun poly r => shift poly r) = crcShift :=
      funext fun poly => funext fun r => (shifts poly r).trans (crcShift_eq poly r).symm
    have shift_eq : shift = crcShift := shift_eq
    rw [shift_eq]
    exact ⟨crc8_append _ _ xs c, crc8_append _ _ xs c⟩

end Sys2Proof
end

section
/-! PROOF. DEFINE_POINT, and the refusals of MODIFY_POINT (R7 to R12, R18, R74, R120): O15, O16. -/

namespace Sys2Proof.Machine

/-! ### Values of parameters (R2) -/

theorem boolOf_eq_some_iff (n : Nat) (b : Bool) : boolOf n = some b ↔ n ≤ 1 ∧ b = decide (n = 1) := by
  match n with
  | 0 => exact ⟨fun h => by cases h; simp, fun h => by rw [h.2]; rfl⟩
  | 1 => exact ⟨fun h => by cases h; simp, fun h => by rw [h.2]; rfl⟩
  | n + 2 => exact ⟨nofun, fun h => by omega⟩

theorem kindOf_eq_some_iff (n : Nat) (k : Kind) :
    kindOf n = some k ↔ n ≤ 1 ∧ k = if n = 0 then .input else .output := by
  match n with
  | 0 => exact ⟨fun h => by cases h; simp, fun h => by rw [h.2]; rfl⟩
  | 1 => exact ⟨fun h => by cases h; simp, fun h => by rw [h.2]; rfl⟩
  | n + 2 => exact ⟨nofun, fun h => by omega⟩

theorem widthOf_eq_some_iff (n : Nat) (w : Width) : widthOf n = some w ↔ w.bytes = n := by
  refine ⟨fun h => ?_, fun h => by cases w <;> subst h <;> rfl⟩
  unfold widthOf at h
  split at h <;> cases h <;> rfl

theorem objectOf_eq_some_iff (n : Nat) (o : Fin 1024) : objectOf n = some o ↔ o.val = n := by
  unfold objectOf
  split
  · rw [Option.some_inj, Fin.ext_iff]
    exact eq_comm
  · next big =>
    simp only [reduceCtorEq, false_iff]
    exact fun same => big (same ▸ o.isLt)

theorem within_eq_some_iff (lo hi n m : Nat) : within lo hi n = some m ↔ lo ≤ n ∧ n ≤ hi ∧ m = n := by
  unfold within
  split
  · next inside =>
    rw [Option.some_inj]
    exact ⟨fun same => ⟨inside.1, inside.2, same.symm⟩, fun h => h.2.2.symm⟩
  · next outside =>
    simp only [reduceCtorEq, false_iff]
    exact fun h => outside ⟨h.1, h.2.1⟩

/-- The parameters of DEFINE_POINT, field by field (R7). -/
structure Definition.Reads (d : Definition) (ps : List Byte) : Prop where
  length : ps.length = 15
  kind : arg ps 0 ≤ 1 ∧ d.kind = if arg ps 0 = 0 then .input else .output
  seg : d.seg.code = arg ps 1
  node : arg ps 2 = d.node.val + 1
  object : d.object.val = arg16 ps 3
  width : d.width.bytes = arg ps 5
  signed : arg ps 6 ≤ 1 ∧ d.signed = decide (arg ps 6 = 1)
  group : arg ps 7 = d.group.val
  divider : 1 ≤ arg ps 8 ∧ arg ps 8 ≤ 16 ∧ d.divider = arg ps 8
  stale : d.stale = arg16 ps 9
  verify : arg ps 11 ≤ 1 ∧ d.verify = decide (arg ps 11 = 1)
  before : arg ps 12 ≤ 1 ∧ d.before = decide (arg ps 12 = 1)
  fits : ¬ (d.verify = true ∧ d.kind = .input)

theorem definitionOf_eq_some_iff (ps : List Byte) (d : Definition) : definitionOf ps = some d ↔ d.Reads ps := by
  unfold definitionOf
  simp only [Option.bind_eq_bind, Option.bind_eq_some_iff, kindOf_eq_some_iff, segOf_eq_some_iff, nodeOf_eq_some_iff,
    objectOf_eq_some_iff, widthOf_eq_some_iff, boolOf_eq_some_iff, groupOf_eq_some_iff, within_eq_some_iff,
    Option.ite_none_right_eq_some, Option.some_inj]
  constructor
  · rintro ⟨kind, hkind, seg, hseg, node, hnode, object, hobject, width, hwidth, signed, hsigned, group, hgroup,
      divider, hdivider, verify, hverify, before, hbefore, ⟨length, fits⟩, rfl⟩
    exact ⟨length, hkind, hseg, hnode, hobject, hwidth, hsigned, hgroup, hdivider, rfl, hverify, hbefore, fits⟩
  · intro h
    exact ⟨_, h.kind, _, h.seg, _, h.node, _, h.object, _, h.width, _, h.signed, _, h.group, _, h.divider, _, h.verify,
      _, h.before, ⟨h.length, h.fits⟩, by rw [← h.stale]⟩

theorem Definition.reads_iff (d : Definition) (ps : List Byte) : d.Reads ps ↔
    ps.length = 15 ∧ arg ps 0 ≤ 1 ∧ 1 ≤ arg ps 2 ∧ arg ps 2 ≤ 30 ∧ arg ps 3 + 256 * arg ps 4 ≤ 1023 ∧
      arg ps 6 ≤ 1 ∧ 1 ≤ arg ps 8 ∧ arg ps 8 ≤ 16 ∧ arg ps 11 ≤ 1 ∧ arg ps 12 ≤ 1 ∧
      ¬(arg ps 11 = 1 ∧ arg ps 0 = 0) ∧ d.kind = (if arg ps 0 = 0 then .input else .output) ∧
      d.seg.code = arg ps 1 ∧ d.node.val + 1 = arg ps 2 ∧ d.object.val = arg ps 3 + 256 * arg ps 4 ∧
      d.width.bytes = arg ps 5 ∧ d.signed = decide (arg ps 6 = 1) ∧ d.group.val = arg ps 7 ∧
      d.divider = arg ps 8 ∧ d.stale = arg ps 9 + 256 * arg ps 10 ∧ d.verify = decide (arg ps 11 = 1) ∧
      d.before = decide (arg ps 12 = 1) := by
  have node := d.node.isLt
  have object := d.object.isLt
  have pair (kind : d.kind = if arg ps 0 = 0 then .input else .output) (verify : d.verify = decide (arg ps 11 = 1)) :
      (d.verify = true ∧ d.kind = .input) ↔ (arg ps 11 = 1 ∧ arg ps 0 = 0) := by
    rw [kind, verify, decide_eq_true_iff]
    refine and_congr_right fun _ => ?_
    split
    · next zero => exact iff_of_true rfl zero
    · next other => exact iff_of_false nofun other
  constructor
  · intro h
    refine ⟨h.length, h.kind.1, ?_, ?_, ?_, h.signed.1, h.divider.1, h.divider.2.1, h.verify.1, h.before.1,
      fun k => h.fits ((pair h.kind.2 h.verify.2).mpr k), h.kind.2, h.seg, h.node.symm, h.object, h.width, h.signed.2,
      h.group.symm, h.divider.2.2, h.stale, h.verify.2, h.before.2⟩
    · exact h.node ▸ Nat.le_add_left 1 _
    · have := h.node
      omega
    · have object_eq : d.object.val = arg ps 3 + 256 * arg ps 4 := h.object
      omega
  · rintro ⟨length, kind, -, -, -, signed, divider, divider', verify, before, fits, kind_eq, seg, node, object, width,
      signed_eq, group, divider_eq, stale, verify_eq, before_eq⟩
    exact ⟨length, ⟨kind, kind_eq⟩, seg, node.symm, object, width, ⟨signed, signed_eq⟩, group.symm,
      ⟨divider, divider', divider_eq⟩, stale, ⟨verify, verify_eq⟩, ⟨before, before_eq⟩,
      fun k => fits ((pair kind_eq verify_eq).mp k)⟩

/-! ### The Point Table's searches (R8 to R10) -/

theorem lowestFree_eq_some_iff (s : State) (i : PointIdx) : s.lowestFree = some i ↔
    (s.point i).life = .free ∧ ∀ j, (s.point j).life = .free → i ≤ j := by
  unfold State.lowestFree allPoints
  rw [← Fin.find?_eq_find?_finRange, Fin.find?_eq_some_iff, decide_eq_true_iff]
  refine and_congr_right fun _ => forall_congr' fun j => ?_
  rw [decide_eq_false_iff_not, ← not_lt]
  exact ⟨fun h free below => h below free, fun h below free => h free below⟩

theorem lowestFree_eq_none_iff (s : State) : s.lowestFree = none ↔ ∀ j, (s.point j).life ≠ .free := by
  simp [State.lowestFree, allPoints]

theorem duplicate_iff (s : State) (d : Definition) : s.duplicate d = true ↔
    ∃ j, ((s.point j).life = .live ∨ (s.point j).life = .retiring) ∧ (s.point j).seg = d.seg ∧
      (s.point j).node = d.node ∧ (s.point j).object = d.object := by
  simp only [State.duplicate, allPoints, List.any_eq_true, List.mem_finRange, true_and, Bool.and_eq_true,
    decide_eq_true_eq, counted_iff]

@[simp] theorem lowestFree_acceptFrame (s : State) (p : Port) : (s.acceptFrame p).lowestFree = s.lowestFree := by
  simp only [State.lowestFree, point_acceptFrame]

@[simp] theorem duplicate_acceptFrame (s : State) (p : Port) (d : Definition) :
    (s.acceptFrame p).duplicate d = s.duplicate d := by
  simp only [State.duplicate, point_acceptFrame]

@[simp] theorem segmentFull_acceptFrame (s : State) (p : Port) (g : Seg) :
    (s.acceptFrame p).segmentFull g = s.segmentFull g := by
  simp only [State.segmentFull, point_acceptFrame]

@[simp] theorem initialQuality_acceptFrame (s : State) (p : Port) (g : Seg) (n : NodeIdx) :
    (s.acceptFrame p).initialQuality g n = s.initialQuality g n := by
  simp only [State.initialQuality, powered_acceptFrame, node_acceptFrame]

theorem initialQuality_eq (s : State) (g : Seg) (n : NodeIdx) : s.initialQuality g n =
    if (s.feed g).state ≠ .on then .unpowered
    else if (s.node g n).state = .lost then .nodeLost
    else .initial := by
  have off : (s.powered g = false) = ((s.feed g).state ≠ .on) := propext (powered_eq_false_iff s g)
  unfold State.initialQuality
  simp only [off]

/-! ### The scan list (R74) -/

theorem insertBefore_append {b : PointIdx} (i : PointIdx) {l : List PointIdx} (m : List PointIdx) (new : b ∉ l) :
    insertBefore i b (l ++ b :: m) = l ++ i :: b :: m := by
  induction l with
  | nil => exact if_pos rfl
  | cons x xs ih =>
    rw [List.mem_cons, not_or] at new
    obtain ⟨head, tail⟩ := new
    exact (if_neg fun same => head same.symm).trans (congrArg (x :: ·) (ih tail))

theorem joinList_if (c : Scheduler) (i b : PointIdx) (before : Bool) :
    c.joinList i (if before then some b else none) =
      { c with list := if before then insertBefore i b c.list else c.list ++ [i] } := by
  cases before <;> rfl

/-! ### Refusals in their order (R165) -/

/-- One check of a chain, against the same check of the chain that gives the result. -/
theorem refuses_unless {s : State} {c d : Prop} [Decidable c] [Decidable d] {r q x : Result} {a : Answer} (same : c ↔ d)
    (result : r = if d then q else x) (rest : ¬ c → r = x → a = refuse s r) :
    (if c then refuse s q else a) = refuse s r := by
  by_cases holds : c
  · rw [if_pos holds, result, if_pos (same.mp holds)]
  · rw [if_neg holds]
    rw [if_neg (fun k => holds (same.mpr k))] at result
    exact rest holds result

/-- The refusals of DEFINE_POINT, in their order (R8). -/
def State.defineResult (s : State) (p : Port) (ps : List Byte) (d : Definition) : Result :=
  if d.before && !s.handleOk (argHandle ps 13) then .staleHandle
  else if s.hasGroup p .manage d.group = false then .noRight
  else if d.before && decide ((s.point (argHandle ps 13).idx).seg ≠ d.seg) then .badParameter
  else if s.duplicate d then .duplicate
  else if s.segmentFull d.seg then .segmentFull
  else if s.lowestFree = none then .tableFull
  else .ok

theorem definePoint_unread {p : Port} {ps : List Byte} {s : State} (unread : definitionOf ps = none) :
    definePoint p ps s = refuse s .badParameter := by
  rw [definePoint, unread]

theorem definePoint_refuses {p : Port} {ps : List Byte} {s : State} {d : Definition} (read : definitionOf ps = some d)
    {r : Result} (result : r = s.defineResult p ps d) (refused : r ≠ .ok) : definePoint p ps s = refuse s r := by
  rw [definePoint, read]
  refine refuses_unless Iff.rfl result fun _ result => refuses_unless Iff.rfl result fun _ result =>
    refuses_unless Iff.rfl result fun _ result => refuses_unless Iff.rfl result fun _ result =>
    refuses_unless Iff.rfl result fun _ result => ?_
  cases full : s.lowestFree with
  | none =>
    rw [if_pos full] at result
    rw [result]
  | some i =>
    rw [if_neg (by rw [full]; nofun)] at result
    exact absurd result refused

theorem definePoint_accepts {p : Port} {ps : List Byte} {s : State} {d : Definition} (read : definitionOf ps = some d)
    (passes : s.defineResult p ps d = .ok) {i : PointIdx} (free : s.lowestFree = some i) :
    definePoint p ps s = accept (s.define p d i (if d.before then some (argHandle ps 13).idx else none))
      [byteOf i.val, (s.point i).generation] := by
  unfold State.defineResult at passes
  rw [definePoint, read]
  dsimp only
  generalize (if d.before then some (argHandle ps 13).idx else none) = before
  split_ifs at passes ⊢
  rw [free]

@[simp] theorem defineResult_acceptFrame (s : State) (p q : Port) (ps : List Byte) (d : Definition) :
    (s.acceptFrame q).defineResult p ps d = s.defineResult p ps d := by
  simp only [State.defineResult, handleOk_acceptFrame, hasGroup_acceptFrame, point_acceptFrame, duplicate_acceptFrame,
    segmentFull_acceptFrame, lowestFree_acceptFrame]

theorem defineResult_eq (s : State) (p : Port) (ps : List Byte) (d : Definition) [Decidable
    (∃ j, ((s.point j).life = .live ∨ (s.point j).life = .retiring) ∧ (s.point j).seg = d.seg ∧
      (s.point j).node = d.node ∧ (s.point j).object = d.object)]
    [Decidable (∀ j, (s.point j).life ≠ .free)] : s.defineResult p ps d =
      if d.before = true ∧ s.handleOk (argHandle ps 13) = false then Result.staleHandle
      else if s.hasGroup p .manage d.group = false then .noRight
      else if d.before = true ∧ (s.point (argHandle ps 13).idx).seg ≠ d.seg then .badParameter
      else if ∃ j, ((s.point j).life = .live ∨ (s.point j).life = .retiring) ∧ (s.point j).seg = d.seg ∧
        (s.point j).node = d.node ∧ (s.point j).object = d.object then .duplicate
      else if s.segmentFull d.seg = true then .segmentFull
      else if ∀ j, (s.point j).life ≠ .free then .tableFull
      else .ok := by
  simp only [State.defineResult, Bool.and_eq_true, Bool.not_eq_true', decide_eq_true_eq, duplicate_iff,
    lowestFree_eq_none_iff]

/-! ### The refusals of MODIFY_POINT (R18) -/

/-- The parameters of MODIFY_POINT within their values (R18). -/
theorem modifyValid_iff (ps : List Byte) : modifyValid ps = true ↔
    arg ps 2 ≤ 31 ∧ (selected ps 0 = true → 1 ≤ arg ps 3 ∧ arg ps 3 ≤ 16) ∧ (selected ps 2 = true → arg ps 6 ≤ 15) ∧
      (selected ps 3 = true → arg ps 7 ≤ 1) ∧ (selected ps 4 = true → arg ps 8 ≤ 1) := by
  simp only [modifyValid, isSome_within, isSome_groupOf, isSome_boolOf, Bool.and_eq_true, Bool.or_eq_true,
    Bool.not_eq_true', decide_eq_true_eq, and_assoc, Nat.lt_succ_iff]
  have chosen (b : Bool) (c : Prop) : (b = false ∨ c) ↔ (b = true → c) := by cases b <;> simp
  simp only [chosen]

theorem modifyGroup_eq {ps : List Byte} {present k : Fin 16}
    (value : k.val = if selected ps 2 then arg ps 6 else present.val) : modifyGroup ps present = k := by
  unfold modifyGroup
  split
  · next chosen =>
    rw [if_pos chosen] at value
    rw [(groupOf_eq_some_iff _ k).mpr value.symm, Option.getD_some]
  · next kept =>
    rw [if_neg kept] at value
    exact Fin.ext value.symm

theorem modifyPoint_unfit {p : Port} {ps : List Byte} {e : Env} {s : State}
    (unfit : ps.length ≠ 11 ∨ modifyValid ps = false) : modifyPoint p ps e s = refuse s .badParameter := if_pos unfit

/-- The refusals of MODIFY_POINT with fitting parameters, in their order (R18). -/
def State.modifyResult (s : State) (p : Port) (ps : List Byte) : Result :=
  let h := argHandle ps 0
  let b := argHandle ps 9
  let t := s.point h.idx
  if s.handleOk h = false then .staleHandle
  else if modifyBefore ps && !s.handleOk b then .staleHandle
  else if s.hasGroup p .manage t.group = false then .noRight
  else if s.hasGroup p .manage (modifyGroup ps t.group) = false then .noRight
  else if selected ps 3 && decide (t.kind = .input) then .wrongKind
  else if modifyBefore ps && decide (b.idx = h.idx) then .badParameter
  else if modifyBefore ps && decide ((s.point b.idx).seg ≠ t.seg) then .badParameter
  else .ok

theorem modifyPoint_refuses {p : Port} {ps : List Byte} {e : Env} {s : State} (length : ps.length = 11)
    (valid : modifyValid ps = true) {r : Result} (result : r = s.modifyResult p ps) (refused : r ≠ .ok) :
    modifyPoint p ps e s = refuse s r := by
  rw [modifyPoint, if_neg (by simp [length, valid])]
  exact refuses_unless Iff.rfl result fun _ result => refuses_unless Iff.rfl result fun _ result =>
    refuses_unless Iff.rfl result fun _ result => refuses_unless Iff.rfl result fun _ result =>
    refuses_unless Iff.rfl result fun _ result => refuses_unless Iff.rfl result fun _ result =>
    refuses_unless Iff.rfl result fun _ result => absurd result refused

theorem modifyPoint_accepts {p : Port} {ps : List Byte} {e : Env} {s : State} (length : ps.length = 11)
    (valid : modifyValid ps = true) (passes : s.modifyResult p ps = .ok) :
    modifyPoint p ps e s = accept (s.takeParts
      (State.modifyPart (s.point (argHandle ps 0).idx).seg (argHandle ps 0).idx ps e)
      (arrange e.order [.points (s.point (argHandle ps 0).idx).seg, .sched (s.point (argHandle ps 0).idx).seg])) [] := by
  unfold State.modifyResult at passes
  rw [modifyPoint, if_neg (by simp [length, valid])]
  dsimp only at passes ⊢
  split_ifs at passes ⊢
  rfl

@[simp] theorem modifyResult_acceptFrame (s : State) (p q : Port) (ps : List Byte) :
    (s.acceptFrame q).modifyResult p ps = s.modifyResult p ps := by
  simp only [State.modifyResult, handleOk_acceptFrame, hasGroup_acceptFrame, point_acceptFrame]

theorem modifyBefore_iff (ps : List Byte) : modifyBefore ps = true ↔ selected ps 4 = true ∧ arg ps 8 = 1 := by
  rw [modifyBefore, Bool.and_eq_true, decide_eq_true_iff]

/-- The port lacks MANAGE on the new group but not on the present one exactly where a new group is chosen (R18). -/
theorem lacksNew_iff {s : State} {p : Port} {ps : List Byte} {present : Fin 16} (valid : modifyValid ps = true)
    (manages : s.hasGroup p .manage present = true) :
    s.hasGroup p .manage (modifyGroup ps present) = false ↔
      ∃ k : Fin 16, selected ps 2 = true ∧ k.val = arg ps 6 ∧ s.hasGroup p .manage k = false := by
  cases chosen : selected ps 2 with
  | false =>
    rw [modifyGroup_eq (k := present) (by rw [chosen]; rfl), manages]
    simp
  | true =>
    have inside := ((modifyValid_iff ps).mp valid).2.2.1 chosen
    have same : modifyGroup ps present = ⟨arg ps 6, by omega⟩ := modifyGroup_eq (by rw [chosen]; rfl)
    rw [same]
    exact ⟨fun lacks => ⟨_, rfl, rfl, lacks⟩, fun ⟨k, _, value, lacks⟩ => by
      rwa [show (⟨arg ps 6, by omega⟩ : Fin 16) = k from Fin.ext value.symm]⟩

theorem ite_congr_of_not {c d : Prop} [Decidable c] [Decidable d] {x y z : Result} (same : c ↔ d)
    (rest : ¬ c → y = z) : (if c then x else y) = if d then x else z := by
  by_cases holds : c
  · rw [if_pos holds, if_pos (same.mp holds)]
  · rw [if_neg holds, if_neg (fun k => holds (same.mpr k)), rest holds]

end Sys2Proof.Machine

namespace Sys2Proof

open Machine

/-- Settles O15: the checks pass, and the new record, list and count are those of R11 and R12. -/
theorem definePointAccepted : Obligations.DefinePointAccepted := by
  refine ⟨fun i b l m new => insertBefore_append i m new, ?_⟩
  intro s p tag ps d i hears read before manage single room free lowest
  have reads := (definitionOf_eq_some_iff ps d).mp read
  have takes : Takes s p ps := ⟨hears, by rw [reads.length]; decide⟩
  have lowestFree : s.lowestFree = some i := (lowestFree_eq_some_iff s i).mpr ⟨free, lowest⟩
  have unique : s.duplicate d = false := by
    rw [← Bool.not_eq_true, duplicate_iff]
    exact fun ⟨j, used, same⟩ => single j used same
  have passes : s.defineResult p ps d = .ok := by
    unfold State.defineResult
    rw [if_neg, if_neg, if_neg, if_neg (by simp [unique]), if_neg (by simp [room]), if_neg (by simp [lowestFree])]
    · rw [Bool.and_eq_true, decide_eq_true_iff]
      exact fun k => k.2 (before k.1).2
    · rw [manage]
      nofun
    · rw [Bool.and_eq_true, Bool.not_eq_true']
      exact fun k => absurd ((before k.1).1.symm.trans k.2) nofun
  refine command_answers takes ((definePoint_accepts read (by simpa using passes)
    (i := i) (by simpa using lowestFree)).trans ?_)
  have joins (c : Scheduler) := joinList_if c i (argHandle ps 13).idx d.before
  rw [State.define, point_acceptFrame, initialQuality_acceptFrame, initialQuality_eq, accept]
  simp only [joins]
  rfl

/-- Settles O16: both chains of checks, each against the same chain of the statement. -/
theorem defineAndModifyRefused : Obligations.DefineAndModifyRefused := by
  refine ⟨fun ps d => (definitionOf_eq_some_iff ps d).trans (d.reads_iff ps), segmentFull_iff, fun s p tag ps takes =>
    ⟨fun unread => command_answers takes (definePoint_unread unread), fun d r read result refused => ?_⟩,
    fun s p tag ps e takes => ⟨fun unfit => ?_, ?_⟩⟩
  · refine command_answers takes (definePoint_refuses read ?_ refused)
    rw [defineResult_acceptFrame, defineResult_eq]
    exact result
  · refine command_answers takes (modifyPoint_unfit (unfit.imp_right fun unfit => ?_))
    rw [← Bool.not_eq_true, modifyValid_iff]
    rintro ⟨bits, divider, group, verify, position⟩
    rcases unfit with h | ⟨chosen, h⟩ | ⟨chosen, h⟩ | ⟨chosen, h⟩ | ⟨chosen, h⟩
    · omega
    · have := divider chosen
      omega
    · have := group chosen
      omega
    · have := verify chosen
      omega
    · have := position chosen
      omega
  · intro i b before _ r length valid hi hb hbefore result refused
    have before_iff : modifyBefore ps = true ↔ before := (modifyBefore_iff ps).trans hbefore.symm
    refine command_answers takes (modifyPoint_refuses length valid ?_ refused)
    rw [modifyResult_acceptFrame, result]
    subst hi hb
    unfold State.modifyResult
    dsimp only
    refine (ite_congr_of_not Iff.rfl fun _ => ite_congr_of_not ?_ fun _ => ite_congr_of_not Iff.rfl fun manages =>
      ite_congr_of_not ?_ fun _ => ite_congr_of_not ?_ fun _ => ite_congr_of_not ?_ fun _ => ite_congr_of_not ?_
        fun _ => rfl).symm
    · rw [Bool.and_eq_true, before_iff, Bool.not_eq_true']
    · exact lacksNew_iff valid (eq_true_of_ne_false manages)
    · rw [Bool.and_eq_true, decide_eq_true_iff]
    · rw [Bool.and_eq_true, before_iff, decide_eq_true_iff]
    · rw [Bool.and_eq_true, before_iff, decide_eq_true_iff]

end Sys2Proof
end

section
/-! PROOF. READ_POINT, DEMAND_READ, the Limit Evaluator and WRITE_POINT (R37, R39, R41 to R44, R49, R50, R55 to R57, R95):
O21, O22, O24, O25. -/

namespace Sys2Proof.Machine

/-! ### READ_POINT (R37, Table 2-4) -/

theorem length_le2 (n : Nat) : (le2 n).length = 2 := rfl

theorem length_le4Opt (v : Option Int) : (le4Opt v).length = 4 := rfl

theorem length_bandBytes (b : Option Band) : (bandBytes b).length = 13 := by
  cases b <;> rfl

theorem length_deadbandBytes (d : Option Deadband) : (deadbandBytes d).length = 8 := by
  cases d <;> rfl

theorem length_slotBytes (f : Option Slot) : (slotBytes f).length = 5 := by
  cases f <;> rfl

theorem length_pointBytes (s : State) (p : Port) (i : PointIdx) : (s.pointBytes p i).length = 65 := by
  simp only [State.pointBytes, List.length_append, List.length_cons, List.length_nil, length_le2, length_le4Opt,
    length_bandBytes, length_deadbandBytes, length_slotBytes]

theorem byteOf_kind (k : Kind) : byteOf k.code = if k = .output then 1 else 0 := by cases k <;> rfl

theorem byteOf_port (p : Port) : byteOf p.code = if p = .b then 1 else 0 := by cases p <;> rfl

theorem presence_eq (t : Point) : t.presence =
    (if t.value.isSome then 1 else 0) + (if t.observed.isSome then 2 else 0) + (if t.band.isSome then 4 else 0) +
      (if t.deadband.isSome then 8 else 0) + (if (t.deadband.bind Deadband.reference).isSome then 16 else 0) +
      (if t.slot.isSome then 32 else 0) + (if t.inFlight.isSome then 64 else 0) + (if t.safe.isSome then 128 else 0) :=
  rfl

theorem urgentPending_eq (t : Point) : t.urgentPending = t.slot.any Slot.urgent := by
  unfold Point.urgentPending
  cases t.slot <;> rfl

theorem serves_eq (l : Link) (i : PointIdx) : l.serves i = l.exchange.any fun x => decide (x.target = i) := by
  unfold Link.serves
  cases l.exchange <;> rfl

theorem flags_eq (t : Point) (serving : Bool) : t.flags serving =
    (if t.verify then 1 else 0) + (if t.slot.any Slot.urgent then 2 else 0) + (if t.demanders.a then 4 else 0) +
      (if t.demanders.b then 8 else 0) + (if serving then 16 else 0) := by
  rw [Point.flags, urgentPending_eq]
  rfl

@[simp] theorem pointBytes_acceptFrame (s : State) (p q : Port) (i : PointIdx) :
    (s.acceptFrame q).pointBytes p i = s.pointBytes p i := by
  simp only [State.pointBytes, point_acceptFrame, link_acceptFrame]

/-! ### The demand queue (R39, R57, R95) -/

theorem entry_eq_none_iff (c : Scheduler) (i : PointIdx) : c.entry i = none ↔ ∀ d ∈ c.queue, d.point ≠ i := by
  simp [Scheduler.entry]

theorem room_eq_false_iff (c : Scheduler) : c.room = false ↔ 8 ≤ c.queue.length := by
  rw [Scheduler.room, decide_eq_false_iff_not, not_lt, Config.queueEntries]

theorem room_eq_true_iff (c : Scheduler) : c.room = true ↔ c.queue.length < 8 := decide_eq_true_iff

theorem powered_of_on {s : State} {g : Seg} (on : (s.feed g).state = .on) : s.powered g = true := decide_eq_true on

section
variable {s : State} {p : Port} {ps : List Byte} {e : Env} {i : PointIdx} {g : Seg}
  (holds : Entitled s p ps .read i) (length : ps.length = 2) (home : g = (s.point i).seg)
include holds length home

theorem demandRead_notPowered (off : (s.feed g).state ≠ .on) : demandRead p ps e s = refuse s .notPowered := by
  subst home
  exact (holds.onPoint length rfl _).trans (if_pos ((powered_eq_false_iff s _).mpr off))

theorem demandRead_joins (on : (s.feed g).state = .on) (queued : ∃ d ∈ (s.sched g).queue, d.point = i) :
    demandRead p ps e s =
      accept ((s.modPoint i fun t => { t with demanders := t.demanders.set p true }).joinEntry g i p) [1] := by
  subst home
  refine (holds.onPoint length rfl _).trans ((if_neg (by rw [powered_of_on on]; nofun)).trans ?_)
  cases entry : (s.sched (s.point i).seg).entry i with
  | none =>
    obtain ⟨d, member, same⟩ := queued
    exact absurd same ((entry_eq_none_iff _ i).mp entry d member)
  | some d => rfl

theorem demandRead_queueFull (on : (s.feed g).state = .on) (new : ∀ d ∈ (s.sched g).queue, d.point ≠ i)
    (full : 8 ≤ (s.sched g).queue.length) : demandRead p ps e s = refuse s .queueFull := by
  subst home
  refine (holds.onPoint length rfl _).trans ((if_neg (by rw [powered_of_on on]; nofun)).trans ?_)
  dsimp only
  rw [(entry_eq_none_iff _ i).mpr new]
  exact if_pos ((room_eq_false_iff _).mpr full)

theorem demandRead_enters (on : (s.feed g).state = .on) (new : ∀ d ∈ (s.sched g).queue, d.point ≠ i)
    (room : (s.sched g).queue.length < 8) : demandRead p ps e s =
      accept (((s.modPoint i fun t => { t with demanders := t.demanders.set p true }).joinQueue g i
        (onePort p)).arbitrate g e) [0] := by
  subst home
  refine (holds.onPoint length rfl _).trans ((if_neg (by rw [powered_of_on on]; nofun)).trans ?_)
  dsimp only
  rw [(entry_eq_none_iff _ i).mpr new]
  exact if_neg (by rw [(room_eq_true_iff _).mpr room]; nofun)

end

/-! ### The Limit Evaluator (R43, R44, R49, R50) -/

theorem classify_eq (b : Band) (v : Int) : b.classify v =
    (match b.state with
      | .unset => if v > b.high then .above else if v < b.low then .below else .inside
      | .inside => if v > b.high then .above else if v < b.low then .below else .inside
      | .above => if v < b.low then .below else if v > b.high - b.hysteresis then .above else .inside
      | .below => if v > b.high then .above else if v < b.low + b.hysteresis then .below else .inside) := by
  unfold Band.classify
  cases b.state with
  | unset => rfl
  | inside => rfl
  | above =>
    dsimp only
    split
    · rfl
    · simp only [← not_lt, ite_not, gt_iff_lt]
  | below =>
    dsimp only
    split
    · rfl
    · simp only [← not_lt, ite_not]

theorem limitDue_iff (before after : BandState) :
    limitDue before after = true ↔ after ≠ before ∧ ¬(before = .unset ∧ after = .inside) := by
  simp only [limitDue, Bool.and_eq_true, Bool.not_eq_true', Bool.and_eq_false_iff, decide_eq_true_eq,
    decide_eq_false_iff_not, ne_comm (a := before), not_and_or]

theorem judgeBand_some {s : State} {i : PointIdx} {b : Band} (band : (s.point i).band = some b) (v : Int) :
    s.judgeBand i v =
      if limitDue b.state (b.classify v) then
        (s.modPoint i fun t => { t with band := some { b with state := b.classify v } }).raisePoint i .limit
          ((s.point i).subscribers 1)
      else s.modPoint i fun t => { t with band := some { b with state := b.classify v } } := by
  unfold State.judgeBand
  rw [band]

theorem judgeBand_none {s : State} {i : PointIdx} (band : (s.point i).band = none) (v : Int) :
    s.judgeBand i v = s := by
  rw [State.judgeBand, band]

theorem changeDue_iff (d : Option Deadband) (old : Option Int) (v : Int) : changeDue d old v = true ↔
    old = none ∨ d = none ∧ old ≠ some v ∨
      ∃ e, d = some e ∧ (e.reference = none ∨ ∃ r, e.reference = some r ∧ e.width ≤ (v - r).natAbs) := by
  unfold changeDue
  cases old with
  | none => simp
  | some u =>
    cases d with
    | none => simp
    | some e => cases reference : e.reference <;> simp [reference]

theorem judgeChange_eq (s : State) (i : PointIdx) (old : Option Int) (v : Int) : s.judgeChange i old v =
    if changeDue (s.point i).deadband old v then
      (s.modPoint i fun t =>
        { t with deadband := t.deadband.map fun d => { d with reference := some v } }).raisePoint i .change
          ((s.point i).subscribers 0)
    else s := rfl

/-! ### WRITE_POINT (R55 to R57) -/

/-- Results other than DELIVERED and REFUSED go to a port writer and to no subscriber (R60, Table 4-4). -/
theorem raiseWrite_superseded (s : State) (i : PointIdx) (w : Writer) :
    s.raiseWrite i .superseded w = s.raisePoint i (.write .superseded w) (writerPorts w) := by
  have nobodyElse : portUnion (writerPorts w) noPorts = writerPorts w := by
    simp only [portUnion, noPorts, Bool.or_false]
  exact congrArg (s.raisePoint i _) nobodyElse

theorem placeValue_eq (s : State) (i : PointIdx) (f : Slot) : s.placeValue i f =
    (match (s.point i).slot with
      | some old =>
        (s.modPoint i fun t => { t with slot := some f }).raisePoint i (.write .superseded old.writer)
          (writerPorts old.writer)
      | none => s.modPoint i fun t => { t with slot := some f }) := by
  unfold State.placeValue
  cases (s.point i).slot with
  | none => rfl
  | some old => exact raiseWrite_superseded _ i old.writer

theorem urgentCode_eq (s : State) (g : Seg) (i : PointIdx) : s.urgentCode g i =
    if (s.feed g).state ≠ .on then 4
    else match (s.sched g).queue.find? fun d => decide (d.point = i) with
      | some d => if d.granted then 5 else 2
      | none => if 8 ≤ (s.sched g).queue.length then 3 else 1 := by
  unfold State.urgentCode
  by_cases on : (s.feed g).state = .on
  · rw [if_pos (powered_of_on on), if_neg (not_not_intro on)]
    show (match (s.sched g).queue.find? fun d => decide (d.point = i) with
      | some d => if d.granted then 5 else 2
      | none => if (s.sched g).room then 1 else 3) = _
    split
    · rfl
    · split
      · next room => exact (if_neg (Nat.not_le.mpr ((room_eq_true_iff _).mp room))).symm
      · next full => exact (if_pos ((room_eq_false_iff _).mp (eq_false_of_ne_true full))).symm
  · rw [if_neg (by rw [(powered_eq_false_iff s g).mpr on]; nofun), if_pos on]

theorem sched_placeValue (s : State) (i : PointIdx) (f : Slot) (g : Seg) : (s.placeValue i f).sched g = s.sched g :=
  (touches_placeValue (F := noSeg) (L := noSeg) (G := noSeg) s i f).sched g id

theorem feed_placeValue (s : State) (i : PointIdx) (f : Slot) (g : Seg) : (s.placeValue i f).feed g = s.feed g :=
  (touches_placeValue (F := noSeg) (L := noSeg) (G := noSeg) s i f).feed g id

theorem urgentCode_placeValue (s : State) (i j : PointIdx) (f : Slot) (g : Seg) :
    (s.placeValue i f).urgentCode g j = s.urgentCode g j := by
  simp only [urgentCode_eq, sched_placeValue, feed_placeValue]

@[simp] theorem urgentCode_acceptFrame (s : State) (p : Port) (g : Seg) (i : PointIdx) :
    (s.acceptFrame p).urgentCode g i = s.urgentCode g i := by
  simp only [urgentCode_eq, sched_acceptFrame, feed_acceptFrame]

/-- What an offer leaves, by its code (R57). -/
theorem offerWrite_eq (s : State) (g : Seg) (i : PointIdx) (urgent : Bool) (e : Env) : s.offerWrite g i urgent e =
    (if urgent = true ∧ s.urgentCode g i = 1 then (s.joinQueue g i noPorts).arbitrate g e else s,
      if urgent then s.urgentCode g i else 0) := by
  unfold State.offerWrite
  cases urgent with
  | false => rfl
  | true =>
    dsimp only
    by_cases enters : s.urgentCode g i = 1
    · simp [enters, State.offerUrgent]
    · simp [enters]

section
variable {s : State} {p : Port} {ps : List Byte} {e : Env} {i : PointIdx}
  (holds : Entitled s p ps .write i) (length : ps.length = 7) (flag : arg ps 6 ≤ 1)
include holds length flag

theorem writePoint_wrongKind (input : (s.point i).kind = .input) : writePoint p ps e s = refuse s .wrongKind :=
  (holds.onPoint length (by rw [isSome_boolOf, decide_eq_true flag]) _).trans (if_pos input)

theorem writePoint_outOfRange (output : (s.point i).kind = .output)
    (outside : inRange (s.point i).width (s.point i).signed (argInt (s.point i).signed ps 2) = false) :
    writePoint p ps e s = refuse s .badParameter :=
  (holds.onPoint length (by rw [isSome_boolOf, decide_eq_true flag]) _).trans
    ((if_neg (by rw [output]; nofun)).trans (if_pos outside))

theorem writePoint_accepts (output : (s.point i).kind = .output)
    (inside : inRange (s.point i).width (s.point i).signed (argInt (s.point i).signed ps 2) = true)
    {r : State × Nat}
    (offered : (s.placeValue i ⟨argInt (s.point i).signed ps 2, .port p, decide (arg ps 6 = 1)⟩).offerWrite
      (s.point i).seg i (decide (arg ps 6 = 1)) e = r) :
    writePoint p ps e s = accept r.1 [byteOf r.2, byteOf (r.1.point i).writeState, writerByte (s.point i).slot] := by
  subst offered
  exact (holds.onPoint length (by rw [isSome_boolOf, decide_eq_true flag]) _).trans
    ((if_neg (by rw [output]; nofun)).trans (if_neg (by rw [inside]; nofun)))

end

end Sys2Proof.Machine

namespace Sys2Proof

open Machine

/-- Settles O21: the bytes of the snapshot one by one. -/
theorem readPoint : Obligations.ReadPoint := by
  intro s p tag ps i t data hears length handle point record right bytes
  subst record
  have same : data = s.pointBytes p i := by
    rw [bytes, State.pointBytes, byteOf_kind, byteOf_port, byteOf_boolCode, presence_eq, flags_eq, serves_eq]
    rfl
  rw [same]
  have holds : Entitled s p ps .read i := ⟨handle, point, right⟩
  refine ⟨length_pointBytes s p i, command_answers ⟨hears, by rw [length]; decide⟩ ?_⟩
  refine (holds.acceptFrame.onPoint length rfl _).trans ?_
  rw [pointBytes_acceptFrame]
  rfl

/-- Settles O22, from the four cases of the command. -/
theorem demandRead : Obligations.DemandRead := by
  intro s p tag ps e i g hears length handle point home right
  have holds : Entitled s p ps .read i := ⟨handle, point, right⟩
  have takes : Takes s p ps := ⟨hears, by rw [length]; decide⟩
  have home : g = ((s.acceptFrame p).point i).seg := by rw [point_acceptFrame, home]
  refine ⟨fun off => ?_, fun on queued => ?_, fun on new full => ?_, fun on new room => ?_⟩
  · exact command_answers takes (demandRead_notPowered holds.acceptFrame length home (by rwa [feed_acceptFrame]))
  · exact command_answers takes (demandRead_joins holds.acceptFrame length home (by rwa [feed_acceptFrame])
      (by rwa [sched_acceptFrame]))
  · exact command_answers takes (demandRead_queueFull holds.acceptFrame length home (by rwa [feed_acceptFrame])
      (by rwa [sched_acceptFrame]) (by rwa [sched_acceptFrame]))
  · exact command_answers takes (demandRead_enters holds.acceptFrame length home (by rwa [feed_acceptFrame])
      (by rwa [sched_acceptFrame]) (by rwa [sched_acceptFrame]))

/-- Settles O24: the two judgements, and a value update as both in turn. -/
theorem limitEvaluator : Obligations.LimitEvaluator := by
  refine ⟨fun s i b v after band classified => ?_, fun s i old v changes due => ?_, fun s i old v => rfl⟩
  · have classified : after = b.classify v := classified.trans (classify_eq b v).symm
    rw [judgeBand_some band, ← classified]
    refine ⟨fun silent => if_neg fun limit => ?_, fun moved told => if_pos ((limitDue_iff _ _).mpr ⟨moved, told⟩)⟩
    obtain ⟨moved, told⟩ := (limitDue_iff _ _).mp limit
    exact silent.elim moved told
  · rw [judgeChange_eq]
    exact ⟨fun h => if_pos ((changeDue_iff _ _ _).mpr (due.mp h)), fun h =>
      if_neg fun k => h (due.mpr ((changeDue_iff _ _ _).mp k))⟩

/-- Settles O25: the value is placed, then offered by its code. -/
theorem writePoint : Obligations.WritePoint := by
  intro s p tag ps e i g v urgent placed code hears length flag handle point home right value placed_eq code_eq
  have holds := (Entitled.acceptFrame (s := s) (p := p) ⟨handle, point, right⟩ : Entitled _ p ps .write i)
  have takes : Takes s p ps := ⟨hears, by rw [length]; decide⟩
  have small : arg ps 6 ≤ 1 := by
    rw [flag]
    split
    · exact le_rfl
    · exact Nat.zero_le 1
  have urgent_eq : decide (arg ps 6 = 1) = urgent := by
    rw [flag]
    cases urgent <;> rfl
  have value_eq : argInt ((s.acceptFrame p).point i).signed ps 2 = v := by rw [point_acceptFrame, value]
  refine ⟨fun input => ?_, fun output outside => ?_, fun output inside => ?_⟩
  · exact command_answers takes (writePoint_wrongKind holds length small (by rwa [point_acceptFrame]))
  · exact command_answers takes (writePoint_outOfRange holds length small (by rwa [point_acceptFrame])
      (by rw [value_eq, point_acceptFrame, outside]))
  · have placed_eq : (s.acceptFrame p).placeValue i ⟨v, .port p, urgent⟩ = placed := by
      rw [placeValue_eq, point_acceptFrame]
      exact placed_eq.symm
    have code_eq : (if urgent then placed.urgentCode g i else 0) = code := by
      rw [← placed_eq, urgentCode_placeValue, urgentCode_acceptFrame, urgentCode_eq, code_eq]
      cases urgent
      · rfl
      · rfl
    have enters : (urgent = true ∧ placed.urgentCode g i = 1) ↔ code = 1 := by
      rw [← code_eq]
      cases urgent <;> simp
    have offered : ((s.acceptFrame p).placeValue i
        ⟨argInt ((s.acceptFrame p).point i).signed ps 2, .port p, decide (arg ps 6 = 1)⟩).offerWrite
          ((s.acceptFrame p).point i).seg i (decide (arg ps 6 = 1)) e =
        (if code = 1 then (placed.joinQueue g i noPorts).arbitrate g e else placed, code) := by
      rw [value_eq, urgent_eq, placed_eq, point_acceptFrame, ← home, offerWrite_eq, code_eq]
      simp only [enters]
    refine ⟨if code = 1 then (placed.joinQueue g i noPorts).arbitrate g e else placed,
      (command_answers takes (writePoint_accepts holds length small (by rwa [point_acceptFrame])
        (by rw [value_eq, point_acceptFrame, inside]) offered)).trans ?_, fun other => if_neg other, fun one => if_pos one⟩
    rw [point_acceptFrame]
    rfl

end Sys2Proof
end

section
/-! PROOF. Configuration, the scan commands, due starts, cycles, and the commands of links and nodes (R80 to R91, R101,
R115, R116, R124, R128, R131, R132, R143): O28, O29, O31, O32, O35. -/

namespace Sys2Proof.Machine

/-! ### Two changes of one part -/

theorem modSched_modSched (s : State) (g : Seg) (f k : Scheduler → Scheduler) :
    (s.modSched g f).modSched g k = s.modSched g fun c => k (f c) := by
  cases g <;> rfl

theorem modSeg_congr {s : State} {g : Seg} {f k : Segment → Segment} (same : f (s.seg g) = k (s.seg g)) :
    s.modSeg g f = s.modSeg g k := by
  have same : f (s.segs.get g) = k (s.segs.get g) := same
  unfold State.modSeg
  rw [same]

theorem modSched_congr {s : State} {g : Seg} {f k : Scheduler → Scheduler} (same : f (s.sched g) = k (s.sched g)) :
    s.modSched g f = s.modSched g k :=
  modSeg_congr (congrArg (fun c => { s.seg g with sched := c }) same)

/-! ### Settings (R80, R116, R143) -/

theorem scanModeOf_eq_some_iff (n : Nat) (m : ScanMode) :
    scanModeOf n = some m ↔ n ≤ 1 ∧ m = if n = 0 then .freeRun else .triggered := by
  match n with
  | 0 => exact ⟨fun h => by cases h; simp, fun h => by rw [h.2]; rfl⟩
  | 1 => exact ⟨fun h => by cases h; simp, fun h => by rw [h.2]; rfl⟩
  | n + 2 => exact ⟨nofun, fun h => by omega⟩

theorem policyOf_eq_some_iff (n : Nat) (o : OverrunPolicy) :
    policyOf n = some o ↔ n ≤ 1 ∧ o = if n = 0 then .skip else .cut := by
  match n with
  | 0 => exact ⟨fun h => by cases h; simp, fun h => by rw [h.2]; rfl⟩
  | 1 => exact ⟨fun h => by cases h; simp, fun h => by rw [h.2]; rfl⟩
  | n + 2 => exact ⟨nofun, fun h => by omega⟩

theorem scanCfgOf_eq_some_iff (ps : List Byte) (f : ScanCfg) : scanCfgOf ps = some f ↔
    arg ps 1 ≤ 1 ∧ 1 ≤ arg ps 5 ∧ arg ps 5 ≤ 15 ∧ arg ps 6 ≤ 1 ∧ 1 ≤ arg ps 7 ∧ arg ps 7 ≤ 4 ∧
      f = ⟨if arg ps 1 = 0 then .freeRun else .triggered, arg ps 2 + 256 * arg ps 3, arg ps 4, arg ps 5,
        if arg ps 6 = 0 then .skip else .cut, arg ps 7⟩ := by
  unfold scanCfgOf
  simp only [Option.bind_eq_bind, Option.bind_eq_some_iff, scanModeOf_eq_some_iff, within_eq_some_iff,
    policyOf_eq_some_iff, Option.some_inj]
  constructor
  · rintro ⟨mode, ⟨hmode, rfl⟩, trigger, ⟨low, high, rfl⟩, policy, ⟨hpolicy, rfl⟩, share, ⟨some, four, rfl⟩, rfl⟩
    exact ⟨hmode, low, high, hpolicy, some, four, rfl⟩
  · rintro ⟨hmode, low, high, hpolicy, some, four, rfl⟩
    exact ⟨_, ⟨hmode, rfl⟩, _, ⟨low, high, rfl⟩, _, ⟨hpolicy, rfl⟩, _, ⟨some, four, rfl⟩, rfl⟩

theorem bitRateOf_eq_some_iff (n : Nat) (b : BitRate) : bitRateOf n = some b ↔ n ≤ 3 ∧ b = (match n with
    | 0 => .k62
    | 1 => .k125
    | 2 => .k250
    | _ => .k500) := by
  match n with
  | 0 => exact ⟨fun h => by cases h; simp, fun h => by rw [h.2]; rfl⟩
  | 1 => exact ⟨fun h => by cases h; simp, fun h => by rw [h.2]; rfl⟩
  | 2 => exact ⟨fun h => by cases h; simp, fun h => by rw [h.2]; rfl⟩
  | 3 => exact ⟨fun h => by cases h; simp, fun h => by rw [h.2]; rfl⟩
  | n + 4 => exact ⟨nofun, fun h => by omega⟩

theorem recoveryOf_eq_some_iff (n : Nat) (r : RecoveryTime) : recoveryOf n = some r ↔ n ≤ 3 ∧ r = (match n with
    | 0 => .ms50
    | 1 => .ms100
    | 2 => .ms200
    | _ => .ms500) := by
  match n with
  | 0 => exact ⟨fun h => by cases h; simp, fun h => by rw [h.2]; rfl⟩
  | 1 => exact ⟨fun h => by cases h; simp, fun h => by rw [h.2]; rfl⟩
  | 2 => exact ⟨fun h => by cases h; simp, fun h => by rw [h.2]; rfl⟩
  | 3 => exact ⟨fun h => by cases h; simp, fun h => by rw [h.2]; rfl⟩
  | n + 4 => exact ⟨nofun, fun h => by omega⟩

theorem linkCfgOf_eq_some_iff (ps : List Byte) (f : LinkCfg) : linkCfgOf ps = some f ↔
    arg ps 1 ≤ 3 ∧ 1 ≤ arg ps 2 ∧ arg ps 3 ≤ 3 ∧ arg ps 4 ≤ 7 ∧ arg ps 5 ≤ 3 ∧ 1 ≤ arg ps 6 ∧ arg ps 6 ≤ 15 ∧
      f = ⟨match arg ps 1 with
          | 0 => .k62
          | 1 => .k125
          | 2 => .k250
          | _ => .k500,
        arg ps 2, arg ps 3, arg ps 4,
        match arg ps 5 with
          | 0 => .ms50
          | 1 => .ms100
          | 2 => .ms200
          | _ => .ms500,
        arg ps 6⟩ := by
  have window := arg_lt ps 2
  unfold linkCfgOf
  simp only [Option.bind_eq_bind, Option.bind_eq_some_iff, bitRateOf_eq_some_iff, within_eq_some_iff,
    recoveryOf_eq_some_iff, Option.some_inj]
  constructor
  · rintro ⟨rate, ⟨hrate, rfl⟩, window, ⟨one, -, rfl⟩, retries, ⟨-, three, rfl⟩, faults, ⟨-, seven, rfl⟩, recovery,
      ⟨hrecovery, rfl⟩, lost, ⟨low, high, rfl⟩, rfl⟩
    exact ⟨hrate, one, three, seven, hrecovery, low, high, rfl⟩
  · rintro ⟨hrate, one, three, seven, hrecovery, low, high, rfl⟩
    exact ⟨_, ⟨hrate, rfl⟩, _, ⟨one, Nat.le_of_lt_succ window, rfl⟩, _, ⟨Nat.zero_le _, three, rfl⟩, _,
      ⟨Nat.zero_le _, seven, rfl⟩, _, ⟨hrecovery, rfl⟩, _, ⟨low, high, rfl⟩, rfl⟩

theorem limitOf_eq_some_iff (n : Nat) (l : CurrentLimit) : limitOf n = some l ↔
    n ≤ 3 ∧ l.code = n ∧ l.milliamps = 250 * (n + 1) := by
  refine ⟨fun h => ?_, fun ⟨_, code, _⟩ => by cases l <;> subst code <;> rfl⟩
  unfold limitOf at h
  split at h <;> cases h <;> exact ⟨by decide, rfl, rfl⟩

theorem blankingOf_eq_some_iff (n : Nat) (b : Blanking) : blankingOf n = some b ↔
    n ≤ 3 ∧ b.code = n ∧ b.millis = (match n with
      | 0 => 5
      | 1 => 15
      | 2 => 50
      | _ => 150) := by
  refine ⟨fun h => ?_, fun ⟨_, code, _⟩ => by cases b <;> subst code <;> rfl⟩
  unfold blankingOf at h
  split at h <;> cases h <;> exact ⟨by decide, rfl, rfl⟩

theorem retryOf_eq_some_iff (n : Nat) (r : Retry) : retryOf n = some r ↔ n ≤ 3 ∧ r = (match n with
    | 0 => .latch
    | 1 => .ms500
    | 2 => .ms2000
    | _ => .ms10000) := by
  match n with
  | 0 => exact ⟨fun h => by cases h; simp, fun h => by rw [h.2]; rfl⟩
  | 1 => exact ⟨fun h => by cases h; simp, fun h => by rw [h.2]; rfl⟩
  | 2 => exact ⟨fun h => by cases h; simp, fun h => by rw [h.2]; rfl⟩
  | 3 => exact ⟨fun h => by cases h; simp, fun h => by rw [h.2]; rfl⟩
  | n + 4 => exact ⟨nofun, fun h => by omega⟩

theorem feedCfgOf_eq_some_iff (ps : List Byte) (f : FeedCfg) : feedCfgOf ps = some f ↔
    arg ps 1 ≤ 3 ∧ arg ps 2 ≤ 3 ∧ arg ps 3 ≤ 1 ∧ arg ps 4 ≤ 1 ∧ arg ps 5 ≤ 3 ∧ f.limit.code = arg ps 1 ∧
      f.limit.milliamps = 250 * (arg ps 1 + 1) ∧ f.blanking.code = arg ps 2 ∧
      f.blanking.millis = (match arg ps 2 with
        | 0 => 5
        | 1 => 15
        | 2 => 50
        | _ => 150) ∧
      f.doubleStart = decide (arg ps 3 = 1) ∧ f.fastShort = decide (arg ps 4 = 1) ∧
      f.retry = (match arg ps 5 with
        | 0 => .latch
        | 1 => .ms500
        | 2 => .ms2000
        | _ => .ms10000) ∧
      f.settle = arg ps 6 := by
  unfold feedCfgOf
  simp only [Option.bind_eq_bind, Option.bind_eq_some_iff, limitOf_eq_some_iff, blankingOf_eq_some_iff,
    boolOf_eq_some_iff, retryOf_eq_some_iff, Option.some_inj]
  constructor
  · rintro ⟨limit, ⟨hlimit, code, milliamps⟩, blanking, ⟨hblanking, bcode, millis⟩, double, ⟨hdouble, rfl⟩, fast,
      ⟨hfast, rfl⟩, retry, ⟨hretry, rfl⟩, rfl⟩
    exact ⟨hlimit, hblanking, hdouble, hfast, hretry, code, milliamps, bcode, millis, rfl, rfl, rfl, rfl⟩
  · rintro ⟨hlimit, hblanking, hdouble, hfast, hretry, code, milliamps, bcode, millis, double, fast, retry, settle⟩
    exact ⟨_, ⟨hlimit, code, milliamps⟩, _, ⟨hblanking, bcode, millis⟩, _, ⟨hdouble, double⟩, _, ⟨hfast, fast⟩, _,
      ⟨hretry, retry⟩, by rw [← settle]⟩

/-! ### The checks of segment commands (R165) -/

/-- The frame names the segment, and the port holds the device right: `Feeds` for any right and length. -/
structure Serves (s : State) (p : Port) (ps : List Byte) (right : Option DeviceRight) (g : Seg) : Prop where
  seg : segOf (arg ps 0) = some g
  right : ∀ r, right = some r → s.hasDevice p r = true

section
variable {s : State} {p : Port} {ps : List Byte} {right : Option DeviceRight} {g : Seg}

theorem serves_some {r : DeviceRight} (seg : segOf (arg ps 0) = some g) (holds : s.hasDevice p r = true) :
    Serves s p ps (some r) g :=
  ⟨seg, fun _ same => Option.some_inj.mp same ▸ holds⟩

theorem serves_none (seg : segOf (arg ps 0) = some g) : Serves s p ps none g := ⟨seg, nofun⟩

theorem Serves.acceptFrame (h : Serves s p ps right g) : Serves (s.acceptFrame p) p ps right g :=
  ⟨h.seg, fun r same => by rw [hasDevice_acceptFrame, h.right r same]⟩

theorem Serves.onSeg (h : Serves s p ps right g) {len : Nat} {valid : Bool} (length : ps.length = len)
    (fits : valid = true) (body : Seg → Answer) : onSeg s p ps len valid right body = body g := by
  subst length fits
  refine onSeg_passes h.seg ?_
  cases right with
  | none => rfl
  | some r => simp [State.lacksDevice, h.right r rfl]

/-! ### Configuration commands (R80, R101, R116, R131, R143) -/

theorem configureScan_eq (h : Serves s p ps (some .scan) g) (length : ps.length = 8) {f : ScanCfg}
    (read : scanCfgOf ps = some f) : configureScan p ps s =
      if (s.sched g).scan ≠ .stopped then refuse s .busyState
      else accept (s.modSched g fun c => c.configure f) [] := by
  rw [configureScan, read]
  exact h.onSeg length rfl _

theorem configureLink_eq (h : Serves s p ps (some .scan) g) (length : ps.length = 7) {f : LinkCfg}
    (read : linkCfgOf ps = some f) : configureLink p ps s =
      if (s.sched g).scan ≠ .stopped ∨ (s.link g).exchange.isSome = true then refuse s .busyState
      else accept (s.modLink g fun l => { l with cfg := f }) [] := by
  rw [configureLink, read]
  exact h.onSeg length rfl _

theorem configureFeed_eq (h : Serves s p ps (some .feed) g) (length : ps.length = 7) {f : FeedCfg}
    (read : feedCfgOf ps = some f) : configureFeed p ps s =
      if (s.feed g).state ≠ .off ∧ (s.feed g).state ≠ .latched then refuse s .busyState
      else accept (s.modFeed g fun d => { d with cfg := f, trips := 0 }) [byteOf (s.feed g).trips] := by
  rw [configureFeed, read]
  exact h.onSeg length rfl _

theorem configureTally_eq (h : Serves s p ps (some .scan) g) (length : ps.length = 4) {second : Bool} {ev : TallyEvent}
    (counter : boolOf (arg ps 1) = some second) (event : tallyEventOf (arg ps 2) = some ev) (filter : arg ps 3 ≤ 30) :
    configureTally p ps s =
      accept (s.modSeg g fun v => v.setTally second ⟨ev, arg ps 3, 0⟩)
        (le2 ((s.seg g).tally second).count.toNat) := by
  rw [configureTally, counter, event, (within_eq_some_iff 0 30 _ _).mpr ⟨Nat.zero_le _, filter, rfl⟩]
  exact h.onSeg length rfl _

theorem exchange_eq_some_iff (l : Link) (x : Exchange) : l.exchange = some x ↔ ∃ sub, l.state = .busy sub x := by
  unfold Link.exchange
  split
  · next sub y busy =>
    rw [busy]
    exact ⟨fun same => ⟨sub, by rw [Option.some_inj.mp same]⟩, fun ⟨_, same⟩ => by cases same; rfl⟩
  · next rest => exact ⟨nofun, fun ⟨sub, busy⟩ => absurd busy (rest sub x)⟩

theorem exchange_isSome_iff (l : Link) : l.exchange.isSome = true ↔ ∃ sub x, l.state = .busy sub x := by
  rw [Option.isSome_iff_exists]
  simp only [exchange_eq_some_iff]
  exact exists_comm

theorem triggerCfgOf_eq {t : Trg} {v : Option (Fin 16)} (input : trgOf (arg ps 0) = some t) (falling : arg ps 2 ≤ 1)
    (level : arg ps 3 ≤ 1) (value : arg ps 1 = 0xFF ∧ v = none ∨ ∃ k, groupOf (arg ps 1) = some k ∧ v = some k) :
    triggerCfgOf ps = some (t, v, decide (arg ps 2 = 1), decide (arg ps 3 = 1)) := by
  unfold triggerCfgOf
  rw [input, (boolOf_eq_some_iff _ _).mpr ⟨falling, rfl⟩, (boolOf_eq_some_iff _ _).mpr ⟨level, rfl⟩]
  rcases value with ⟨all, rfl⟩ | ⟨k, read, rfl⟩
  · exact if_pos all
  · have other : arg ps 1 ≠ 0xFF := by
      have inside := k.isLt
      rw [(groupOf_eq_some_iff _ k).mp read]
      omega
    refine (if_neg other).trans ?_
    rw [read]
    rfl

theorem configureTriggerInput_accepts {t : Trg} {v : Option (Fin 16)} {falling level : Bool}
    (length : ps.length = 4) (read : triggerCfgOf ps = some (t, v, falling, level))
    (right : s.hasDevice p .scan = true) : configureTriggerInput p ps s =
      accept (s.modTrg t fun i => { i with value := v, falling := falling, levelModel := level, held := false })
        [byteOf (boolCode (s.trigs.get t).level)] := by
  rw [configureTriggerInput, read]
  dsimp only
  rw [if_neg (by simp [length]), if_neg (by rw [right]; nofun)]

/-! ### START_SCAN, STOP_SCAN and FINISH_SCAN (R86 to R88, R94) -/

theorem setGoing_freeRun (mode : (s.sched g).cfg.mode = .freeRun) : s.setGoing g =
    (s.modSched g fun c =>
      { c with
        scan := .waiting
        periodTimer := if c.cfg.period = 0 then none else some (c.cfg.period * 100) }).startCycle g := by
  unfold State.setGoing
  dsimp only
  rw [mode]
  dsimp only
  rw [modSched_modSched]
  exact congrArg (State.startCycle · g) (modSched_congr rfl)

theorem heldFor_modSched {f : Scheduler → Scheduler} (keeps : ∀ c, (f c).cfg = c.cfg) :
    (s.modSched g f).heldFor g = s.heldFor g := by
  rw [State.heldFor, sched_modSched_same, keeps]
  rfl

theorem setGoing_triggered (mode : (s.sched g).cfg.mode = .triggered) : s.setGoing g =
    if s.heldFor g then (s.modSched g fun c => { c with scan := .waiting }).startCycle g
    else s.modSched g fun c => { c with scan := .waiting } := by
  unfold State.setGoing
  dsimp only
  rw [mode]
  dsimp only
  rw [heldFor_modSched (f := fun c => { c with scan := .waiting }) fun _ => rfl]

theorem triggeredBy_iff (c : ScanCfg) (v : Fin 16) :
    c.triggeredBy v = true ↔ c.mode = .triggered ∧ (v.val = 0 ∨ v.val = c.trigger) := by
  simp only [ScanCfg.triggeredBy, Bool.and_eq_true, decide_eq_true_eq]

theorem holdsFor_iff (t : TriggerInput) (c : ScanCfg) :
    t.holdsFor c = true ↔ t.held = true ∧ ∃ v, t.value = some v ∧ c.triggeredBy v = true := by
  unfold TriggerInput.holdsFor
  cases t.value <;> simp

theorem heldFor_iff (s : State) (g : Seg) : s.heldFor g = true ↔ (s.sched g).cfg.mode = .triggered ∧
    ∃ i v, (s.trigs.get i).held = true ∧ (s.trigs.get i).value = some v ∧
      (v.val = 0 ∨ v.val = (s.sched g).cfg.trigger) := by
  rw [State.heldFor, Bool.or_eq_true, holdsFor_iff, holdsFor_iff]
  simp only [triggeredBy_iff]
  constructor
  · rintro (⟨held, v, value, mode, match_v⟩ | ⟨held, v, value, mode, match_v⟩)
    · exact ⟨mode, .trg0, v, held, value, match_v⟩
    · exact ⟨mode, .trg1, v, held, value, match_v⟩
  · rintro ⟨mode, i, v, held, value, match_v⟩
    cases i with
    | trg0 => exact .inl ⟨held, v, value, mode, match_v⟩
    | trg1 => exact .inr ⟨held, v, value, mode, match_v⟩

theorem startScan_eq (h : Serves s p ps (some .scan) g) (length : ps.length = 1) (e : Env) :
    startScan p ps e s = accept (s.startScan g e) ((s.startScan g e).scanBytes g) := h.onSeg length rfl _

theorem stopScan_eq (h : Serves s p ps (some .scan) g) (length : ps.length = 1) :
    stopScan p ps s = accept (s.stopScan g) ((s.stopScan g).scanBytes g) := h.onSeg length rfl _

theorem finishScan_eq (h : Serves s p ps (some .scan) g) (length : ps.length = 1) :
    finishScan p ps s =
      accept (s.modSched g Scheduler.finish) ((s.modSched g Scheduler.finish).scanBytes g) := h.onSeg length rfl _

theorem modSched_self {f : Scheduler → Scheduler} (same : f (s.sched g) = s.sched g) : s.modSched g f = s := by
  have seg : s.segs.set g { s.segs.get g with sched := f (s.segs.get g).sched } = s.segs := by
    have same : f (s.segs.get g).sched = (s.segs.get g).sched := same
    rw [same]
    cases g <;> rfl
  unfold State.modSched State.modSeg
  rw [seg]

/-! ### Overruns, cuts and cycles (R81 to R83, R89 to R91) -/

theorem overrun_eq (s : State) (g : Seg) (e : Env) : s.overrun g e =
    let u := ((s.modSched g fun c => { c with overruns := min (c.overruns + 1) 255 }).raiseSeg g .overrun).tally g
      [.overruns] none
    if (s.sched g).cfg.policy = .cut ∧ (s.sched g).scan = .running then
      if (s.link g).exchange.isSome then u.modSched g fun c => { c with cut := true } else (u.applyCut g).arbitrate g e
    else u := by
  unfold State.overrun
  simp only [Bool.and_eq_true, decide_eq_true_eq]
  rfl

theorem reached_iff (c : Scheduler) (n : Nat) : c.reached n = true ↔ c.cfg.cycles ≠ 0 ∧ n = c.cfg.cycles :=
  decide_eq_true_iff

/-- A cut that ends a cycle in progress (R91). -/
theorem applyCut_eq (cycle : (s.sched g).scan.inCycle = true) : s.applyCut g =
    let t := s.modSched g fun d => { d with cut := false, cyclesEnded := (s.sched g).counted }
    if (s.sched g).reached (s.sched g).counted then t.endScan g else t.startCycle g := by
  unfold State.applyCut
  dsimp only
  rw [if_pos cycle, cycle, Bool.true_or, if_pos rfl]

theorem completeOnce_ends (ends : (s.sched g).reached (s.sched g).counted = true ∨ (s.sched g).scan = .finishing) :
    s.completeOnce g = ((s.modSched g fun c => { c with cyclesEnded := (s.sched g).counted }).endScan g, false) := by
  unfold State.completeOnce
  exact if_pos (by rw [Bool.or_eq_true, decide_eq_true_iff]; exact ends)

theorem completeOnce_waits (goes : ¬ (s.sched g).reached (s.sched g).counted = true)
    (running : (s.sched g).scan ≠ .finishing) : s.completeOnce g =
      (s.modSched g fun d =>
        { d with
          cyclesEnded := (s.sched g).counted, scan := .waiting
          deferred := s.restarts g && !(s.sched g).cycleMark }, s.restarts g && (s.sched g).cycleMark) := by
  unfold State.completeOnce
  dsimp only
  rw [if_neg (by rw [Bool.or_eq_true, decide_eq_true_iff]; exact not_or.mpr ⟨goes, running⟩), modSched_modSched]

theorem restarts_iff (s : State) (g : Seg) : s.restarts g = true ↔
    (s.sched g).cfg.mode = .freeRun ∧ (s.sched g).cfg.period = 0 ∨ s.heldFor g = true := by
  simp only [State.restarts, Bool.or_eq_true, Bool.and_eq_true, decide_eq_true_eq]

theorem endScan_modSched (f : Scheduler → Scheduler) : (s.modSched g f).endScan g =
    (s.modSched g fun c => (f c).stop).raiseSeg g .scanEnded := by
  rw [State.endScan, modSched_modSched]

theorem startCycle_filled (filled : (s.sched g).list ≠ []) : s.startCycle g = s.beginCycle g := by
  refine if_neg ?_
  rw [State.beginCycle, sched_mapNodes, sched_modSched_same]
  exact fun none => filled (List.head?_eq_none_iff.mp none)

/-- A cycle on an empty list granted nothing, so no cycle starts behind it. -/
theorem startCycle_empty (empty : (s.sched g).list = []) : s.startCycle g = (s.beginCycle g).complete g := by
  have sched : (s.beginCycle g).sched g =
      { s.sched g with scan := .running, cursor := none, cycleMark := false, deferred := false } := by
    have head : (s.sched g).list.head? = none := by rw [empty]; rfl
    rw [State.beginCycle, sched_mapNodes, sched_modSched_same, head]
  have once : ((s.beginCycle g).completeOnce g).2 = false := by
    unfold State.completeOnce
    dsimp only
    rw [sched]
    split
    · rfl
    · exact Bool.and_false _
  have started : s.startCycle g = ((s.beginCycle g).completeOnce g).1 := if_pos (by rw [sched])
  rw [started, State.complete, once]
  rfl

end

end Sys2Proof.Machine

namespace Sys2Proof

open Machine

/-- Settles O28: the settings read from the bytes, and each command by its state. -/
theorem configurationCommands : Obligations.ConfigurationCommands := by
  refine ⟨scanCfgOf_eq_some_iff, linkCfgOf_eq_some_iff, feedCfgOf_eq_some_iff, fun s p tag ps g hears seg =>
    ⟨fun f right length read => ?_, fun f right length read => ?_, fun f right length read => ?_,
      fun ev right length event filter => ?_, fun i v right length input falling level value => ?_⟩⟩
  · have answer := configureScan_eq (serves_some seg right).acceptFrame length read
    have takes : Takes s p ps := ⟨hears, by rw [length]; decide⟩
    rw [sched_acceptFrame] at answer
    exact ⟨fun busy => command_answers takes (answer.trans (if_pos busy)), fun stopped =>
      command_answers takes (answer.trans (if_neg (not_not_intro stopped)))⟩
  · have answer := configureLink_eq (serves_some seg right).acceptFrame length read
    have takes : Takes s p ps := ⟨hears, by rw [length]; decide⟩
    rw [sched_acceptFrame, link_acceptFrame] at answer
    exact ⟨fun busy => command_answers takes
        (answer.trans (if_pos (busy.imp_right (exchange_isSome_iff (s.link g)).mpr))),
      fun stopped idle => command_answers takes (answer.trans (if_neg (not_or.mpr ⟨not_not_intro stopped, fun flying =>
        have ⟨sub, x, busy⟩ := (exchange_isSome_iff (s.link g)).mp flying
        idle sub x busy⟩)))⟩
  · have answer := configureFeed_eq (serves_some seg right).acceptFrame length read
    have takes : Takes s p ps := ⟨hears, by rw [length]; decide⟩
    rw [feed_acceptFrame] at answer
    exact ⟨fun off latched => command_answers takes (answer.trans (if_pos ⟨off, latched⟩)), fun rests =>
      command_answers takes (answer.trans (if_neg fun k => rests.elim k.1 k.2))⟩
  · have takes : Takes s p ps := ⟨hears, by rw [length]; decide⟩
    have serves := (serves_some (s := s) seg right).acceptFrame
    refine ⟨fun first => ?_, fun second => ?_⟩
    · have answer := configureTally_eq serves length (second := false) (by rw [first]; rfl) event filter
      rw [seg_acceptFrame] at answer
      exact command_answers takes answer
    · have answer := configureTally_eq serves length (second := true) (by rw [second]; rfl) event filter
      rw [seg_acceptFrame] at answer
      exact command_answers takes answer
  · have answer := configureTriggerInput_accepts (s := s.acceptFrame p) (p := p) length
      (triggerCfgOf_eq input falling level value) (by rw [hasDevice_acceptFrame, right])
    rw [trigs_acceptFrame, byteOf_boolCode] at answer
    refine (command_answers ⟨hears, by rw [length]; decide⟩ answer).trans ?_
    rw [State.modTrg, trigs_acceptFrame]

/-- Settles O29: each scan state's case. -/
theorem scanCommands : Obligations.ScanCommands := by
  refine ⟨fun s g => ⟨setGoing_freeRun, fun mode => ⟨fun free => ?_, fun held => ?_⟩, heldFor_iff s g⟩, ?_, ?_⟩
  · rw [setGoing_triggered mode, free]
    rfl
  · rw [setGoing_triggered mode, held]
    rfl
  · intro s t p tag ps e g hears length seg right left
    have same : (s.acceptFrame p).startScan g e = t := by
      rw [left]
      unfold State.startScan
      rw [sched_acceptFrame, powered_acceptFrame, link_acceptFrame]
      cases (s.sched g).scan with
      | stopped =>
        dsimp only
        by_cases on : (s.feed g).state = .on
        · rw [if_neg (by rw [powered_of_on on]; nofun), if_neg (not_not_intro on)]
          split
          · rw [modSched_modSched]
            rfl
          · rfl
        · rw [if_pos ((powered_eq_false_iff s g).mpr on), if_pos on, modSched_modSched]
          rfl
      | _ => rfl
    rw [← same]
    exact command_answers ⟨hears, by rw [length]; decide⟩
      (startScan_eq (serves_some seg right).acceptFrame length e)
  · intro s t u p tag ps g stopped hears length seg right stop left finished
    subst stop
    have takes : Takes s p ps := ⟨hears, by rw [length]; decide⟩
    have serves := (serves_some (s := s) seg right).acceptFrame
    have stops : (s.acceptFrame p).stopScan g = t := by
      rw [left]
      unfold State.stopScan
      rw [sched_acceptFrame, link_acceptFrame]
      have ends (busy : Bool) : (s.acceptFrame p).modSched g (Scheduler.endCycle busy) =
          if busy then
            (s.acceptFrame p).modSched g fun c => { c with scan := .stopping, periodTimer := none, cut := false }
          else (s.acceptFrame p).modSched g Scheduler.stop := by
        cases busy <;> rfl
      cases (s.sched g).scan with
      | running => exact ends _
      | finishing => exact ends _
      | _ => rfl
    have finishes : (s.acceptFrame p).modSched g Scheduler.finish = u := by
      rw [finished]
      have at_scan {c : ScanState} (scan : (s.sched g).scan = c) {f : Scheduler → Scheduler}
          (same : ∀ d : Scheduler, d.scan = c → d.finish = f d) :
          (s.acceptFrame p).modSched g Scheduler.finish = (s.acceptFrame p).modSched g f :=
        modSched_congr (same _ (by rw [sched_acceptFrame, scan]))
      have unchanged {c : ScanState} (scan : (s.sched g).scan = c) (same : ∀ d : Scheduler, d.scan = c → d.finish = d) :
          (s.acceptFrame p).modSched g Scheduler.finish = s.acceptFrame p :=
        modSched_self (same _ (by rw [sched_acceptFrame, scan]))
      cases scan : (s.sched g).scan with
      | running => exact at_scan scan fun d h => by rw [Scheduler.finish, h]
      | waiting | haltedPower | haltedLine =>
        exact at_scan (f := Scheduler.stop) scan fun d h => by rw [Scheduler.finish, h]
      | stopped | finishing | stopping => exact unchanged scan fun d h => by rw [Scheduler.finish, h]
    rw [← stops, ← finishes]
    exact ⟨command_answers takes (stopScan_eq serves length), command_answers takes (finishScan_eq serves length)⟩

/-- Settles O31: the two events by their scan states, an overrun by its policy, and a cut in a cycle. -/
theorem dueStarts : Obligations.DueStarts := by
  refine ⟨fun s g e awake => ⟨fun none => ?_, fun runs => ?_, fun clear => ?_, fun due => ?_⟩, fun s u g e same => ?_,
    fun s g n cycle count => ?_⟩
  · refine (event_takes awake).trans (congrArg Host.Outcome.next (if_neg ?_))
    simp [none]
  · have boundary : exec (.periodBoundary g e) s = .next (s.boundary g e) :=
      (event_takes awake).trans (congrArg Host.Outcome.next (if_pos (Option.isSome_iff_ne_none.mpr runs)))
    rw [boundary, State.boundary]
    refine ⟨fun waiting => by rw [waiting], fun cycle => ?_, fun waiting running finishing => ?_⟩
    · rcases cycle with running | finishing
      · rw [running]
      · rw [finishing]
    · cases scan : (s.sched g).scan with
      | waiting => exact absurd scan waiting
      | running => exact absurd scan running
      | finishing => exact absurd scan finishing
      | _ => rfl
  · refine (event_takes awake).trans (congrArg Host.Outcome.next (if_neg ?_))
    simp [clear]
  · have start : exec (.deferredStart g e) s = .next (s.deferredStart g e) :=
      (event_takes awake).trans (congrArg Host.Outcome.next (if_pos due))
    have goes_iff : (decide ((s.sched g).scan = .waiting) &&
        (decide ((s.sched g).cfg.mode = .freeRun) || s.heldFor g)) = true ↔
          (s.sched g).scan = .waiting ∧ ((s.sched g).cfg.mode = .freeRun ∨ s.heldFor g = true) := by
      simp only [Bool.and_eq_true, Bool.or_eq_true, decide_eq_true_eq]
    rw [start]
    exact ⟨fun waiting free => congrArg Host.Outcome.next (if_pos (goes_iff.mpr ⟨waiting, free⟩)), fun stays =>
      congrArg Host.Outcome.next (if_neg fun k => stays (goes_iff.mp k))⟩
  · rw [overrun_eq, ← same]
    dsimp only
    refine ⟨fun goes => if_neg fun cut => ?_, fun cut running => ?_⟩
    · rcases goes with skip | other
      · exact absurd (skip.symm.trans cut.1) nofun
      · exact other cut.2
    · rw [if_pos ⟨cut, running⟩]
      exact ⟨fun flying => if_pos flying, fun idle => if_neg (by simp [idle])⟩
  · subst count
    have inCycle : (s.sched g).scan.inCycle = true := by
      rcases cycle with running | finishing
      · rw [running]
        rfl
      · rw [finishing]
        rfl
    rw [applyCut_eq inCycle]
    dsimp only
    refine ⟨fun reached => ?_, fun goes => if_neg fun k => goes ((reached_iff _ _).mp k)⟩
    rw [if_pos ((reached_iff (s.sched g) (s.sched g).counted).mpr reached), endScan_modSched]
    rfl

/-- Settles O32: a cycle's start and its completion by their branches. -/
theorem cycleStartsAndCompletions : Obligations.CycleStartsAndCompletions := by
  refine ⟨fun s g filled => startCycle_filled filled, fun s g empty => ?_, fun s g n c same count => ?_⟩
  · rw [startCycle_empty empty, State.beginCycle]
    exact congrArg (fun t => (State.mapNodes t g fun n => { n with probe := false }).complete g)
      (modSched_congr (by rw [empty]; rfl))
  · subst same count
    refine ⟨fun ends => ?_, fun goes running => ?_⟩
    · rw [State.complete, completeOnce_ends (ends.imp_left (reached_iff _ _).mpr)]
      dsimp only
      rw [if_neg nofun, endScan_modSched]
      rfl
    · have once := completeOnce_waits (fun k => goes ((reached_iff _ _).mp k)) running
      rw [State.complete, once]
      dsimp only
      refine ⟨fun due => ?_, fun undue => ?_⟩
      · rw [(restarts_iff s g).mpr due]
        refine ⟨fun mark => ?_, fun clear => ?_⟩
        · rw [mark]
          rfl
        · rw [clear]
          rfl
      · rw [Bool.eq_false_iff.mpr fun k => undue ((restarts_iff s g).mp k)]
        rfl

/-- Settles O35: the four commands, each on its two kinds of state. -/
theorem linkAndNodeCommands : Obligations.LinkAndNodeCommands := by
  refine fun s p tag ps g hears seg => ⟨fun right length => ?_, fun n right length node => ?_, fun length => ?_,
    fun length flag => ?_⟩
  · have takes : Takes s p ps := ⟨hears, by rw [length]; decide⟩
    have answer : recoverLine p ps (s.acceptFrame p) = accept ((s.acceptFrame p).recoverLine g) _ :=
      (serves_some (s := s) seg right).acceptFrame.onSeg length rfl _
    refine ⟨fun down => ?_, fun other => ?_⟩
    · have recovers : (s.acceptFrame p).recoverLine g =
          ((s.acceptFrame p).modLink g fun l => { l with faults := 0 }.recover).raiseSeg g .line :=
        if_pos (by rw [link_acceptFrame, down])
      rw [recovers, (raiseSeg_noticesOnly _ g .line).link, link_modLink_same] at answer
      exact command_answers takes answer
    · have same : (s.acceptFrame p).recoverLine g = s.acceptFrame p := if_neg (by rwa [link_acceptFrame])
      rw [same, link_acceptFrame] at answer
      exact command_answers takes answer
  · have takes : Takes s p ps := ⟨hears, by rw [length]; decide⟩
    have answer : releaseNode p ps (s.acceptFrame p) = accept ((s.acceptFrame p).releaseNode g n)
        [byteOf (((s.acceptFrame p).releaseNode g n).node g n).state.code,
          byteOf (((s.acceptFrame p).releaseNode g n).node g n).refs] := by
      rw [releaseNode, node]
      exact (serves_some (s := s) seg right).acceptFrame.onSeg length rfl _
    refine ⟨fun lost => ?_, fun other => ?_⟩
    · have releases : (s.acceptFrame p).releaseNode g n =
          ((s.acceptFrame p).modNode g n fun r => { r with state := .unknown, failures := 0 }).raiseSeg g (.node n) :=
        if_pos (by rw [node_acceptFrame, lost])
      rw [releases, (raiseSeg_noticesOnly _ g _).node, node_modNode_same, node_acceptFrame] at answer
      exact command_answers takes answer
    · have same : (s.acceptFrame p).releaseNode g n = s.acceptFrame p := if_neg (by rwa [node_acceptFrame])
      rw [same, node_acceptFrame] at answer
      exact command_answers takes answer
  · have answer : readNodes p ps (s.acceptFrame p) = accept (s.acceptFrame p) _ :=
      (serves_none (s := s) seg).acceptFrame.onSeg length rfl _
    rw [link_acceptFrame, seg_acceptFrame] at answer
    exact command_answers ⟨hears, by rw [length]; decide⟩ answer
  · have answer : readTally p ps (s.acceptFrame p) =
        accept (if arg ps 1 = 1 then (s.acceptFrame p).modSeg g Segment.clearTallies else s.acceptFrame p) _ :=
      (serves_none (s := s) seg).acceptFrame.onSeg length (by rw [isSome_boolOf, decide_eq_true flag]) _
    rw [seg_acceptFrame, Tally.bytes, Tally.bytes, ← List.append_assoc] at answer
    exact command_answers ⟨hears, by rw [length]; decide⟩ answer

end Sys2Proof
end

section
/-! PROOF. MODIFY_POINT without a move (R19, R20), the link's entry into READY with the exit from HALTED (R94, R112,
R115), and the 10 ms tick with the stale expiry (R35, R169). -/

namespace Sys2Proof.Machine

section
variable {s : State} {g : Seg} {i : PointIdx} {p : Port} {ps : List Byte} {k : Fin 16}

/-! ### The record's part of MODIFY_POINT -/

theorem modPoint_congr {f h : Point → Point} (same : f (s.point i) = h (s.point i)) :
    s.modPoint i f = s.modPoint i h := by
  rw [State.modPoint, same, State.modPoint]

/-- A MODIFY_POINT that no check refuses. -/
theorem modifyResult_ok (handle : s.handleOk (argHandle ps 0) = true)
    (manages : s.hasGroup p .manage (s.point (argHandle ps 0).idx).group = true)
    (value : k.val = if selected ps 2 then arg ps 6 else (s.point (argHandle ps 0).idx).group.val)
    (managesNew : s.hasGroup p .manage k = true)
    (kind : ¬(selected ps 3 = true ∧ (s.point (argHandle ps 0).idx).kind = .input))
    (before : modifyBefore ps = true → s.handleOk (argHandle ps 9) = true ∧
      (argHandle ps 9).idx ≠ (argHandle ps 0).idx ∧
      (s.point (argHandle ps 9).idx).seg = (s.point (argHandle ps 0).idx).seg) :
    s.modifyResult p ps = .ok := by
  unfold State.modifyResult
  dsimp only
  rw [modifyGroup_eq value, handle, manages, managesNew]
  cases placed : modifyBefore ps with
  | false => simpa using kind
  | true =>
    obtain ⟨named, other, home⟩ := before placed
    simpa [named, other, home] using kind

/-- A subscription goes with the port's loss of READ on a new group (R20). -/
theorem keptSubs_eq (chosen reads : Bool) (mask : BitVec 4) :
    (if (!chosen || reads) = true then mask else 0) = if chosen = true ∧ reads = false then 0 else mask := by
  cases chosen with
  | false => rfl
  | true => cases reads <;> rfl

theorem modifyFields_eq (value : k.val = if selected ps 2 then arg ps 6 else (s.point i).group.val) :
    s.modifyFields i ps = s.modPoint i fun t =>
      { t with
        divider := if selected ps 0 then arg ps 3 else t.divider
        phase := if selected ps 0 then 0 else t.phase
        staleLimit := if selected ps 1 then arg16 ps 4 else t.staleLimit
        group := k
        subs :=
          ⟨if selected ps 2 = true ∧ s.hasGroup .a .read k = false then 0 else t.subs.a,
            if selected ps 2 = true ∧ s.hasGroup .b .read k = false then 0 else t.subs.b⟩
        verify := if selected ps 3 then decide (arg ps 7 = 1) else t.verify } := by
  refine modPoint_congr ?_
  dsimp only
  rw [modifyGroup_eq value, keptSubs_eq, keptSubs_eq]

theorem expired_iff (t : Point) : t.expired = true ↔ t.quality = .good ∧ t.staleLimit ≠ 0 ∧ t.staleLimit ≤ t.age := by
  simp only [Point.expired, Bool.and_eq_true, decide_eq_true_eq, and_assoc]

/-- The record's part judges the new stale limit first (R19). -/
theorem modifyRecord_eq (s : State) (i : PointIdx) (ps : List Byte) : s.modifyRecord i ps =
    (if selected ps 1 = true ∧ arg16 ps 4 ≠ 0 ∧ (s.point i).quality = .good ∧ arg16 ps 4 ≤ (s.point i).age then
        s.setQuality i .stale
      else s).modifyFields i ps := by
  refine congrArg (State.modifyFields · i ps) (if_congr ?_ rfl rfl)
  rw [Bool.and_eq_true, expired_iff]
  exact and_congr_right fun _ => ⟨fun ⟨good, limit, due⟩ => ⟨limit, good, due⟩, fun ⟨limit, good, due⟩ =>
    ⟨good, limit, due⟩⟩

@[simp] theorem group_setQuality (s : State) (i j : PointIdx) (q : Quality) :
    ((s.setQuality i q).point j).group = (s.point j).group := by
  unfold State.setQuality
  split
  · rfl
  · rw [(raisePoint_noticesOnly _ i _ _).point, point_modPoint]
    split
    · next same => rw [same]
    · rfl

@[simp] theorem hasGroup_setQuality (s : State) (i : PointIdx) (q : Quality) (p : Port) (r : GroupRight)
    (k : Fin 16) : (s.setQuality i q).hasGroup p r k = s.hasGroup p r k := by
  have bare := congrArg PortUnit.rights ((touches_setQuality (F := noSeg) (L := noSeg) (G := noSeg) s i q).ports p)
  have kept : ((s.setQuality i q).port p).rights = (s.port p).rights := bare
  rw [State.hasGroup, kept, State.hasGroup]

/-- Without a move, MODIFY_POINT is the record's part alone, whatever the order. -/
theorem modifyParts_stays (stays : selected ps 4 = false) (e : Env) (order : List Part) (s : State) (g : Seg)
    (i : PointIdx) :
    s.takeParts (State.modifyPart g i ps e) (arrange order [.points g, .sched g]) = s.modifyRecord i ps := by
  have idle (t : State) : State.modifyPart g i ps e (.sched g) t = t := if_neg (by rw [stays]; nofun)
  rcases arrange_pair order (a := .points g) (b := .sched g) nofun with first | last
  · rw [first]
    exact idle _
  · rw [last]
    exact congrArg (State.modifyRecord · i ps) (idle s)

/-! ### The link becomes READY -/

theorem sched_beginCycle (s : State) (g : Seg) : (s.beginCycle g).sched g =
    { s.sched g with
      scan := .running, cursor := (s.sched g).list.head?, cycleMark := false, deferred := false } := by
  rw [State.beginCycle, sched_mapNodes, sched_modSched_same]

theorem halted_iff (c : ScanState) : c.halted = true ↔ c = .haltedPower ∨ c = .haltedLine := by
  cases c <;> simp [ScanState.halted]

theorem leaveHalted_of_halted (halted : (s.sched g).scan.halted = true) : s.leaveHalted g = s.setGoing g :=
  if_pos halted

theorem leaveHalted_of_going (going : (s.sched g).scan.halted = false) : s.leaveHalted g = s :=
  if_neg (by rw [going]; nofun)

/-- FREE_RUN goes on from HALTED with a cycle and, where P is not 0, the period timer (R84, R94). -/
theorem sched_setGoing_freeRun (mode : (s.sched g).cfg.mode = .freeRun) (filled : (s.sched g).list ≠ []) :
    (s.setGoing g).sched g =
      { s.sched g with
        scan := .running, cursor := (s.sched g).list.head?, cycleMark := false, deferred := false
        periodTimer := if (s.sched g).cfg.period = 0 then none else some ((s.sched g).cfg.period * 100) } := by
  rw [setGoing_freeRun mode, startCycle_filled (by rwa [sched_modSched_same]), sched_beginCycle, sched_modSched_same]

end

end Sys2Proof.Machine

namespace Sys2Proof
open Machine

/-- Settles O18: the Scheduler's part finds no move, so the record's part stands alone. -/
theorem modifyPointFields : Obligations.ModifyPointFields := by
  intro s p tag ps e i k hears length valid stays handle point manages value managesNew kind
  subst point
  have takes : Takes s p ps := ⟨hears, by rw [length]; decide⟩
  have unplaced : modifyBefore ps ≠ true := fun placed => by
    rw [((modifyBefore_iff ps).mp placed).1] at stays
    exact nomatch stays
  have passes : s.modifyResult p ps = .ok := modifyResult_ok handle manages value managesNew kind (absurd · unplaced)
  refine command_answers takes ((modifyPoint_accepts length valid (by rwa [modifyResult_acceptFrame])).trans ?_)
  rw [modifyParts_stays stays, modifyRecord_eq, point_acceptFrame]
  split
  · rw [modifyFields_eq (k := k) (by rw [group_setQuality, point_acceptFrame]; exact value)]
    simp only [hasGroup_setQuality, hasGroup_acceptFrame]
    rfl
  · rw [modifyFields_eq (k := k) (by rw [point_acceptFrame]; exact value)]
    simp only [hasGroup_acceptFrame]
    rfl

/-- Settles O39: each event in its own state is the entry into READY, and an exit from HALTED sets the scan going. -/
theorem linkBecomesReady : Obligations.LinkBecomesReady := by
  refine ⟨fun s ready g e awake entered => ?_, fun s g => ⟨fun power line => ?_, fun halted => ⟨?_, ?_, ?_⟩⟩⟩
  · subst entered
    refine ⟨fun gap => ?_, fun recovering timer idle => ?_, fun recovering timer busy => ?_, fun recovering wait => ?_⟩
    · exact (event_takes awake).trans (congrArg _ (if_pos gap))
    · exact (event_takes awake).trans (congrArg _
        ((if_pos ⟨recovering, Option.isSome_iff_ne_none.mpr timer⟩).trans (if_pos idle)))
    · exact (event_takes awake).trans (congrArg _
        ((if_pos ⟨recovering, Option.isSome_iff_ne_none.mpr timer⟩).trans (if_neg (by rw [busy]; nofun))))
    · exact (event_takes awake).trans
        (congrArg _ (if_pos ⟨recovering, Option.isSome_iff_ne_none.mpr wait⟩))
  · exact leaveHalted_of_going (eq_false_of_ne_true fun halted => ((halted_iff _).mp halted).elim power line)
  · exact leaveHalted_of_halted ((halted_iff _).mpr halted)
  · intro mode filled
    rw [leaveHalted_of_halted ((halted_iff _).mpr halted)]
    exact sched_setGoing_freeRun mode filled
  · intro mode unheld
    rw [leaveHalted_of_halted ((halted_iff _).mpr halted), setGoing_triggered mode, unheld]
    rfl

/-- Settles O52: the tick maps every record and both ports' timers; the expiry is a change of quality from GOOD. -/
theorem ticksAndStaleness : Obligations.TicksAndStaleness := by
  intro s awake
  refine ⟨⟨_, (event_takes awake : execAgeTick s = _), fun i => ?_, fun p => ?_, rfl, rfl, rfl, rfl, rfl, rfl⟩,
    fun i => ⟨?_, ?_⟩⟩
  · rw [point_modPort, point_modPort, point_mapPoints, Point.tick]
    exact if_congr (and_congr_right fun _ => Option.isSome_iff_ne_none) rfl rfl
  · cases p with
    | a => rfl
    | b => rfl
  · rintro ⟨live, good, limit, due⟩
    refine (event_takes awake).trans (congrArg _ ?_)
    rw [if_pos ⟨live, (expired_iff _).mpr ⟨good, limit, due⟩⟩, State.setQuality, if_neg (by rw [good]; nofun)]
  · intro early
    exact (event_takes awake).trans
      (congrArg _ (if_neg fun ⟨live, expired⟩ => early ⟨live, (expired_iff _).mp expired⟩))

end Sys2Proof
end

section
/-! PROOF. The attention lists: what a take answers and leaves (R17, R158, R159) and where a reason goes (R152 to
R157). -/

namespace Sys2Proof.Machine

/-! ### Merging into a list -/

section
variable {same : Entry → Bool} {add : Entry → Entry} {fresh x : Entry}

theorem mergeEntry_absent {l : List Entry} (absent : ∀ e ∈ l, same e = false) :
    mergeEntry same add fresh l = l ++ [add fresh] := by
  induction l with
  | nil => rfl
  | cons e l ih =>
    rw [mergeEntry, absent e List.mem_cons_self, if_neg nofun, ih fun d hd => absent d (List.mem_cons_of_mem e hd)]
    rfl

theorem mergeEntry_present {l m : List Entry} (hit : same x = true) (miss : ∀ e ∈ l, same e = false) :
    mergeEntry same add fresh (l ++ x :: m) = l ++ add x :: m := by
  induction l with
  | nil => exact if_pos hit
  | cons e l ih =>
    rw [List.cons_append, mergeEntry, miss e List.mem_cons_self, if_neg nofun,
      ih fun d hd => miss d (List.mem_cons_of_mem e hd)]
    rfl

variable (s : State) (p : Port)

/-- A reason for a thing that the port's list does not name stands in a new entry at the tail. -/
theorem merge_absent (absent : ∀ e ∈ (s.port p).attention, same e = false) :
    (s.modPort p fun u => { u with attention := mergeEntry same add fresh u.attention }) =
      s.modPort p fun u => { u with attention := u.attention ++ [add fresh] } :=
  modPort_congr (by rw [mergeEntry_absent absent])

/-- A reason for a thing that the port's list names joins its entry, which keeps its place. -/
theorem merge_present {l m : List Entry} (split : (s.port p).attention = l ++ x :: m) (hit : same x = true)
    (miss : ∀ e ∈ l, same e = false) :
    (s.modPort p fun u => { u with attention := mergeEntry same add fresh u.attention }) =
      s.modPort p fun u => { u with attention := l ++ add x :: m } :=
  modPort_congr (by rw [split, mergeEntry_present hit miss])

end

theorem isPoint_absent {i : PointIdx} {gen : Byte} {l : List Entry} (absent : ∀ n, Entry.point i gen n ∉ l) :
    ∀ e ∈ l, Entry.isPoint i gen e = false := fun e he => eq_false_of_ne_true fun hit => by
  obtain ⟨n, rfl⟩ := isPoint_eq hit
  exact absent n he

theorem isSegment_absent {g : Seg} {l : List Entry} (absent : ∀ n, Entry.segment g n ∉ l) :
    ∀ e ∈ l, Entry.isSegment g e = false := fun e he => eq_false_of_ne_true fun hit => by
  obtain ⟨n, rfl⟩ := isSegment_eq hit
  exact absent n he

theorem isDevice_absent {l : List Entry} (absent : ∀ n, Entry.device n ∉ l) :
    ∀ e ∈ l, Entry.isDevice e = false := fun e he => eq_false_of_ne_true fun hit => by
  obtain ⟨n, rfl⟩ := isDevice_eq hit
  exact absent n he

theorem noteSeg_masked {s : State} {p : Port} {r : SegReason} (masked : (s.port p).segMask.getLsbD r.bit = false)
    (g : Seg) : s.noteSeg p g r = s := if_neg (by rw [masked]; nofun)

theorem noteSeg_passes {s : State} {p : Port} {r : SegReason} (passes : (s.port p).segMask.getLsbD r.bit = true)
    (g : Seg) : s.noteSeg p g r = s.modPort p fun u =>
      { u with attention := mergeEntry (Entry.isSegment g) (Entry.addSegment r) (.segment g .empty) u.attention } :=
  if_pos passes

theorem raiseDev_masked {s : State} {p : Port} {r : DevReason} (masked : (s.port p).devMask.getLsbD r.bit = false) :
    s.raiseDev p r = s := if_neg (by rw [masked]; nofun)

theorem raiseDev_passes {s : State} {p : Port} {r : DevReason} (passes : (s.port p).devMask.getLsbD r.bit = true) :
    s.raiseDev p r = s.modPort p fun u =>
      { u with attention := mergeEntry Entry.isDevice (Entry.addDevice r) (.device 0) u.attention } := if_pos passes

/-! ### The bytes of an entry (Table 9-1) -/

theorem reasons_point (n : PointNote) : n.reasons =
    (if n.changes ≠ 0 then 1 else 0) + (if n.limits ≠ 0 then 2 else 0) + (if n.quality then 4 else 0) +
      (if n.write.isSome then 8 else 0) + (if n.demand.isSome then 16 else 0) + (if n.retired then 32 else 0) := by
  simp only [PointNote.reasons, bit, decide_eq_true_eq]
  rfl

theorem reasons_segment (n : SegNote) : n.reasons =
    (if n.feed then 1 else 0) + (if n.scanEnded then 2 else 0) + (if n.overruns ≠ 0 then 4 else 0) +
      (if n.line then 8 else 0) + (if n.nodes ≠ 0 then 16 else 0) + (if n.wrap0 ∨ n.wrap1 then 32 else 0) := by
  simp only [SegNote.reasons, bit, decide_eq_true_eq, Bool.or_eq_true]
  rfl

theorem byteOf_snapCode (l : Life) : byteOf l.snapCode =
    match l with
    | .live => (0 : Byte)
    | .retiring => 1
    | .closed => 2
    | .free => 3 := by cases l <;> rfl

theorem bandStateByte_eq (b : Option Band) : bandStateByte b =
    match b with
    | none => (0 : Byte)
    | some b => byteOf b.state.code := by cases b <;> rfl

theorem writeNoteBytes_eq (w : Option (WriteResult × Writer)) : writeNoteBytes w =
    match w with
    | none => [0xFF, 0xFF]
    | some (w, by_) => [byteOf w.code, byteOf by_.code] := by cases w <;> rfl

theorem demandNoteByte_eq (d : Option DemandOutcome) : demandNoteByte d =
    match d with
    | none => (0xFF : Byte)
    | some o => byteOf o.code := by cases d <;> rfl

/-- A snapshot's pending value: its writer and its integer. -/
theorem slotBytes_snapshot (f : Option Slot) : writerByte f :: le4Opt (f.map Slot.value) =
    match f with
    | none => 0xFF :: le4 0
    | some f => byteOf f.writer.code :: le4 f.value := by cases f <;> rfl

theorem snapshot_eq (r : Point) : r.snapshot =
    [match r.life with
      | .live => (0 : Byte)
      | .retiring => 1
      | .closed => 2
      | .free => 3,
      if r.kind = .output then 1 else 0, byteOf r.seg.code, byteOf (r.node.val + 1)] ++ le2 r.object.val ++
      [byteOf r.width.bytes, if r.signed then 1 else 0, byteOf r.group.val, if r.owner = .b then 1 else 0,
        byteOf r.quality.code] ++ le2 r.age ++
      [byteOf ((if r.value.isSome then 1 else 0) + (if r.observed.isSome then 2 else 0) +
        (if r.band.isSome then 4 else 0) + (if r.slot.isSome then 8 else 0) +
        (if r.inFlight.isSome then 16 else 0))] ++
      le4 (r.value.getD 0) ++ le4 (r.observed.getD 0) ++
      [match r.band with
        | none => (0 : Byte)
        | some b => byteOf b.state.code] ++
      [byteOf ((if r.slot.isSome then 1 else 0) + (if r.inFlight.isSome then 2 else 0))] ++
      (match r.slot with
        | none => 0xFF :: le4 0
        | some f => byteOf f.writer.code :: le4 f.value) ++
      [byteOf r.failed] := by
  rw [← byteOf_snapCode, ← byteOf_kind, ← byteOf_boolCode, ← byteOf_port, ← bandStateByte_eq, ← slotBytes_snapshot]
  simp only [Point.snapshot, List.append_assoc, List.cons_append, List.nil_append]
  rfl

theorem length_snapshot (r : Point) : r.snapshot.length = 30 := by
  simp only [Point.snapshot, List.length_append, length_le2, length_le4Opt]
  rfl

theorem length_writeNoteBytes (w : Option (WriteResult × Writer)) : (writeNoteBytes w).length = 2 := by
  cases w <;> rfl

theorem length_entryBytes_point (s : State) (p : Port) (remain : Nat) (i : PointIdx) (gen : Byte) (n : PointNote) :
    (s.entryBytes p remain (.point i gen n)).length = 41 := by
  simp only [State.entryBytes, List.length_append, List.length_cons, length_le2, length_writeNoteBytes,
    length_snapshot]
  rfl

theorem entryBytes_point (s : State) (p : Port) (remain : Nat) (i : PointIdx) (gen : Byte) (n : PointNote) :
    s.entryBytes p remain (.point i gen n) =
      0 :: le2 remain ++ [byteOf i.val, gen, byteOf n.reasons, byteOf n.changes, byteOf n.limits] ++
        writeNoteBytes n.write ++ [demandNoteByte n.demand] ++ (s.point i).snapshot := rfl

/-! ### TAKE_ATTENTION -/

section
variable {s : State} {p : Port}

theorem attention_acceptFrame_self (s : State) (p : Port) :
    ((s.acceptFrame p).port p).attention = (s.port p).attention := by rw [port_acceptFrame_self]

/-- An accepted frame leaves the other port's supervision. -/
theorem supervision_acceptFrame_other (s : State) (p : Port) :
    ((s.acceptFrame p).port p.other).lapsed = (s.port p.other).lapsed ∧
      ((s.acceptFrame p).port p.other).supPeriod = (s.port p.other).supPeriod := by
  rw [port_acceptFrame_other]
  split
  · have bare := (raiseDev_noticesOnly s p.other .peerResumed).ports p.other
    have lapsed := congrArg PortUnit.lapsed bare
    have period := congrArg PortUnit.supPeriod bare
    exact ⟨lapsed, period⟩
  · exact ⟨rfl, rfl⟩

theorem takeAttention_empty (empty : (s.port p).attention = []) :
    takeAttention p [] (s.acceptFrame p) = refuse (s.acceptFrame p) .nothingPending := by
  unfold takeAttention
  rw [if_neg (fun h => h rfl), attention_acceptFrame_self, empty]

theorem takeAttention_entry {x : Entry} {rest : List Entry} (list : (s.port p).attention = x :: rest) :
    takeAttention p [] (s.acceptFrame p) =
      accept (((s.acceptFrame p).modPort p fun u => { u with attention := rest }).afterTake x)
        (((s.acceptFrame p).modPort p fun u => { u with attention := rest }).entryBytes p rest.length x) := by
  unfold takeAttention
  rw [if_neg (fun h => h rfl), attention_acceptFrame_self, list]

end

end Sys2Proof.Machine

namespace Sys2Proof
open Machine

/-- Settles O50: the head entry's bytes, and the closure test of a point entry's record. -/
theorem takeAttention : Obligations.TakeAttention := by
  intro s p tag x rest t hears left
  have takes : Takes s p [] := ⟨hears, by decide⟩
  have seg (g : Seg) : t.seg g = s.seg g := by rw [left, seg_modPort, seg_acceptFrame]
  refine ⟨fun empty => command_answers takes (takeAttention_empty empty), fun list => ?_⟩
  refine ⟨t.afterTake x, t.entryBytes p rest.length x,
    command_answers takes (by rw [takeAttention_entry list, left]; rfl), ?_, ?_, ?_⟩
  · rintro i gen n r rfl rfl
    have record : t.point i = s.point i := by rw [left, point_modPort, point_acceptFrame]
    refine ⟨length_entryBytes_point _ _ _ _ _ _, ?_, ?_⟩
    · rw [entryBytes_point, record, snapshot_eq, writeNoteBytes_eq, demandNoteByte_eq, reasons_point]
      simp only [List.append_assoc]
      rfl
    · rw [← record]
      rfl
  · rintro g n rfl
    refine ⟨?_, rfl, rfl⟩
    simp only [State.entryBytes, State.feed, State.sched, State.link, seg, reasons_segment]
    rfl
  · rintro n rfl
    have other : t.port p.other = (s.acceptFrame p).port p.other := by
      rw [left, port_modPort, if_neg p.other_ne]
    obtain ⟨lapsed, period⟩ := supervision_acceptFrame_other s p
    refine ⟨?_, rfl, rfl⟩
    have levels : t.supply = s.supply ∧ t.temperature = s.temperature := by
      rw [left, supply_modPort, temperature_modPort, supply_acceptFrame, temperature_acceptFrame]
      exact ⟨rfl, rfl⟩
    simp only [State.entryBytes, levels, other, lapsed, period, byteOf_boolCode]

/-- Settles O51: a raise is the notes of its target ports, and a note merges into the entry of its thing or appends
one. -/
theorem mergedReasons : Obligations.MergedReasons := by
  refine ⟨fun s i r dst => ⟨?_, ?_, ?_, ?_, fun k => rfl⟩, fun _ _ _ => rfl, fun s p => ⟨fun i r => ⟨?_, ?_⟩,
    fun g r masked => noteSeg_masked masked g, fun g r passes => ?_, fun r => raiseDev_masked, fun r passes => ?_,
    fun n => ⟨rfl, rfl, rfl, fun _ _ => rfl, fun _ => rfl, rfl⟩,
    fun n => ⟨rfl, rfl, rfl, rfl, fun _ => rfl, rfl, rfl⟩, rfl, fun _ => rfl, fun _ => rfl, rfl⟩⟩
  · rintro rfl
    rfl
  · rintro rfl
    rfl
  · rintro rfl
    rfl
  · rintro rfl
    rfl
  · exact fun absent => merge_absent s p (isPoint_absent absent)
  · exact fun n l m list absent =>
      merge_present s p list (decide_eq_true ⟨rfl, rfl⟩) (isPoint_absent absent)
  · rw [noteSeg_passes passes]
    exact ⟨fun absent => merge_absent s p (isSegment_absent absent), fun n l m list absent =>
      merge_present s p list (decide_eq_true rfl) (isSegment_absent absent)⟩
  · rw [raiseDev_passes passes]
    refine ⟨fun absent => (merge_absent s p (isDevice_absent absent)).trans ?_, fun n l m list absent =>
      merge_present s p list rfl (isDevice_absent absent)⟩
    have fresh : (0 : DevNote) ||| BitVec.twoPow 5 r.bit = BitVec.twoPow 5 r.bit := BitVec.zero_or
    rw [Entry.addDevice, fresh]

end Sys2Proof
end

section
/-! PROOF. The events of one segment: each is a steady change that reaches only that segment, and touches no other
segment's blocks. -/

namespace Sys2Proof.Machine

section
variable {c : Scope} {g : Seg}

/-! ### The events as steady changes -/

theorem steady_boundary (hg : c.reach g) (s : State) (e : Env) : Steady c s (s.boundary g e) := by
  unfold State.boundary
  split
  · exact (steady_startCycle hg s).trans (steady_arbitrate hg _ e)
  · exact steady_overrun hg s e
  · exact steady_overrun hg s e
  · exact .refl s

theorem steady_deferredStart (hg : c.reach g) (s : State) (e : Env) : Steady c s (s.deferredStart g e) := by
  have cleared : Steady c s (s.modSched g fun c => { c with deferred := false }) :=
    steady_modSched hg ⟨rfl, fun _ => .inl, .refl _, id, id, id⟩
  unfold State.deferredStart
  dsimp only
  split
  · exact (cleared.trans (steady_startCycle hg _)).trans (steady_arbitrate hg _ e)
  · exact cleared

/-- An attempt in flight goes on to another sub-phase. -/
theorem steady_rephase (hg : c.reach g) {s : State} {f : Link → Link}
    (same : (f (s.link g)).exchange = (s.link g).exchange) : Steady c s (s.modLink g f) :=
  steady_modLink hg fun y hy => ⟨y, same ▸ hy, rfl, rfl⟩

theorem steady_requestSent (hg : c.reach g) (s : State) : Steady c s (s.requestSent g) := by
  unfold State.requestSent
  split
  · next x busy => exact .ite fun _ => steady_rephase hg (exchange_of_busy busy).symm
  · exact .refl s

theorem steady_responseStart (hg : c.reach g) (s : State) : Steady c s (s.responseStart g) := by
  unfold State.responseStart
  split
  · next x busy => exact steady_rephase hg (exchange_of_busy busy).symm
  · exact .refl s

theorem steady_backoffExpiry (hg : c.reach g) (s : State) (e : Env) : Steady c s (s.backoffExpiry g e) := by
  unfold State.backoffExpiry
  split
  · next x busy => exact steady_beginAttempt hg _ (exchange_of_busy busy) rfl rfl
  · exact .refl s

theorem steady_idleWaitIdle (hg : c.reach g) (s : State) : Steady c s (s.idleWaitIdle g) := by
  unfold State.idleWaitIdle
  split
  · exact steady_modLink_same hg s
  · exact .refl s

theorem steady_recoveryExpiry (hg : c.reach g) (s : State) (e : Env) : Steady c s (s.recoveryExpiry g e) := by
  unfold State.recoveryExpiry
  split
  · split
    · exact steady_enterReady hg s e
    · exact steady_modLink_same hg s
  · exact .refl s

section
variable (hg : c.reach g) (hc : c.close g) (hj : c.join g) {s : State} (aim : c.assume → AllAimed s)
include hg hc hj aim

theorem steady_windowExpiry (e : Env) : Steady c s (s.windowExpiry g e) := by
  unfold State.windowExpiry
  split
  · next x busy =>
    have stopped : Steady c s (s.modLink g fun l => { l with windowTimer := none }) := steady_modLink_same hg s
    refine stopped.trans (steady_endAttempt hg hc hj (x := x) ?_ (fun a =>
      stopped.stays (aim a g x (exchange_of_busy busy))) _ _ _ _)
    rw [link_modLink_same]
    exact exchange_of_busy busy
  · exact .refl s

theorem steady_responseEnd (frame : List RxChar) (e : Env) : Steady c s (s.responseEnd g frame e) := by
  unfold State.responseEnd
  split
  · next x busy =>
    exact steady_endAttempt hg hc hj (exchange_of_busy busy) (fun a => aim a g x (exchange_of_busy busy)) _ _ _ _
  · exact .refl s

theorem steady_tenthCharacter (e : Env) : Steady c s (s.tenthCharacter g e) := by
  unfold State.tenthCharacter
  split
  · next x busy =>
    exact steady_endAttempt hg hc hj (exchange_of_busy busy) (fun a => aim a g x (exchange_of_busy busy)) _ _ _ _
  · exact .refl s

theorem steady_idleWaitExpiry : Steady c s (s.idleWaitExpiry g) := by
  have fault : Steady c s (s.lineFault g) := steady_lineFault hg hc hj fun a => aim a g
  unfold State.idleWaitExpiry
  split
  · exact .refl s
  · split
    · exact fault
    · exact fault
    · exact .refl s

end

end

/-! ### One segment's changes -/

/-- From `s` to `t`, only segment `g` changes, and only points of it, as far as the laws hold. -/
structure WithinSeg (g : Seg) (s t : State) : Prop where
  touches : Touches (onlySeg g) (onlySeg g) (onlySeg g) s t
  steady : Steady ⟨Lawful s, onlySeg g, onlySeg g, onlySeg g⟩ s t

section
variable {g : Seg} {s t : State}

theorem WithinSeg.refl (g : Seg) (s : State) : WithinSeg g s s := ⟨.refl _ _ _ s, .refl s⟩

theorem WithinSeg.ite {q : Prop} [Decidable q] (h : WithinSeg g s t) : WithinSeg g s (if q then t else s) := by
  split
  · exact h
  · exact .refl g s

theorem withinSeg_modFeed (g : Seg) (s : State) (f : Feed → Feed) : WithinSeg g s (s.modFeed g f) :=
  ⟨touches_modFeed (onlySeg_self g) s f, steady_modFeed rfl f s⟩

/-- The events of one segment. -/
inductive SegEvent (g : Seg) : Instr → Prop
  | periodBoundary (e : Env) : SegEvent g (.periodBoundary g e)
  | deferredStart (e : Env) : SegEvent g (.deferredStart g e)
  | requestSent : SegEvent g (.requestSent g)
  | responseStartBit : SegEvent g (.responseStartBit g)
  | responseWindowExpiry (e : Env) : SegEvent g (.responseWindowExpiry g e)
  | responseFrameEnd (frame : List RxChar) (e : Env) : SegEvent g (.responseFrameEnd g frame e)
  | tenthCharacter (e : Env) : SegEvent g (.tenthCharacter g e)
  | backoffExpiry (e : Env) : SegEvent g (.backoffExpiry g e)
  | idleWaitLineIdle : SegEvent g (.idleWaitLineIdle g)
  | idleWaitExpiry : SegEvent g (.idleWaitExpiry g)
  | transmitterCurrentLimit : SegEvent g (.transmitterCurrentLimit g)
  | gapEnd (e : Env) : SegEvent g (.gapEnd g e)
  | recoveryExpiry (e : Env) : SegEvent g (.recoveryExpiry g e)
  | recoveryLineIdle : SegEvent g (.recoveryLineIdle g)
  | clampBegin : SegEvent g (.clampBegin g)
  | clampEnd : SegEvent g (.clampEnd g)
  | feedTrip (ticks : Nat) (low : Bool) (e : Env) : SegEvent g (.feedTrip g ticks low e)
  | startTimerExpiry (e : Env) : SegEvent g (.startTimerExpiry g e)
  | settleTimerExpiry (e : Env) : SegEvent g (.settleTimerExpiry g e)
  | retryTimerExpiry : SegEvent g (.retryTimerExpiry g)

theorem SegEvent.exec_eq {i : Instr} (event : SegEvent g i) (s : State) :
    exec i s = Machine.event (effectOf i) s := by
  cases event <;> rfl

theorem SegEvent.within {i : Instr} (event : SegEvent g i) (s : State) : WithinSeg g s (effectOf i s) := by
  have aim (l : Lawful s) : AllAimed s := l.2.2
  have own (l : Lawful s) : QueuesOwn s := l.2.1
  have gl := onlySeg_self g
  have link (frame : List RxChar) (e : Env) := touches_linkEvents (F := onlySeg g) gl gl s frame e
  cases event with
  | periodBoundary e => exact .ite ⟨touches_boundary gl gl s e, steady_boundary rfl s e⟩
  | deferredStart e => exact .ite ⟨touches_deferredStart gl gl s e, steady_deferredStart rfl s e⟩
  | requestSent => exact ⟨(link [] allIdle).1, steady_requestSent rfl s⟩
  | responseStartBit => exact ⟨(link [] allIdle).2.1, steady_responseStart rfl s⟩
  | responseWindowExpiry e => exact ⟨(link [] e).2.2.1, steady_windowExpiry rfl rfl rfl aim e⟩
  | responseFrameEnd frame e => exact ⟨(link frame e).2.2.2.1, steady_responseEnd rfl rfl rfl aim frame e⟩
  | tenthCharacter e => exact ⟨(link [] e).2.2.2.2.1, steady_tenthCharacter rfl rfl rfl aim e⟩
  | backoffExpiry e => exact ⟨(link [] e).2.2.2.2.2.1, steady_backoffExpiry rfl s e⟩
  | idleWaitLineIdle => exact ⟨(link [] allIdle).2.2.2.2.2.2.1, steady_idleWaitIdle rfl s⟩
  | idleWaitExpiry => exact ⟨(link [] allIdle).2.2.2.2.2.2.2.1, steady_idleWaitExpiry rfl rfl rfl aim⟩
  | transmitterCurrentLimit => exact .ite ⟨touches_lineFault gl gl s, steady_lineFault rfl rfl rfl fun l => aim l g⟩
  | gapEnd e => exact .ite ⟨touches_enterReady gl gl s e, steady_enterReady rfl s e⟩
  | recoveryExpiry e => exact ⟨(link [] e).2.2.2.2.2.2.2.2.1, steady_recoveryExpiry rfl s e⟩
  | recoveryLineIdle => exact .ite ⟨touches_enterReady gl gl s allIdle, steady_enterReady rfl s allIdle⟩
  | clampBegin => exact withinSeg_modFeed g s _
  | clampEnd => exact withinSeg_modFeed g s _
  | feedTrip ticks low e =>
    exact .ite ⟨touches_feedTrips gl gl gl s e.order, steady_feedChange rfl rfl rfl own aim _ _ _ _⟩
  | startTimerExpiry e => exact .ite ⟨touches_feedSettles gl gl gl s e, steady_feedSettles rfl rfl s e⟩
  | settleTimerExpiry e => exact .ite ⟨touches_feedEntersOn gl gl gl s e, steady_feedEntersOn rfl rfl s e⟩
  | retryTimerExpiry => exact .ite (withinSeg_modFeed g s _)

/-- A step of a segment's event stays within the segment: in a device reset it changes nothing (R147). -/
theorem SegEvent.step {i : Instr} (event : SegEvent g i) (next : exec i s = .next t) : WithinSeg g s t := by
  rw [event.exec_eq] at next
  cases reset : s.inReset with
  | true =>
    rw [event_inReset reset] at next
    cases next
    exact .refl g s
  | false =>
    rw [event_takes reset] at next
    cases next
    exact event.within s

end

end Sys2Proof.Machine

namespace Sys2Proof
open Machine

/-- Settles O53: an event of one segment is a steady change that reaches only that segment. -/
theorem segmentIndependence : Obligations.SegmentIndependence := by
  intro s t g e frame ticks low i member next
  have event : SegEvent g i := by
    simp only [List.mem_cons, List.not_mem_nil, or_false] at member
    rcases member with rfl | rfl | rfl | rfl | rfl | rfl | rfl | rfl | rfl | rfl | rfl | rfl | rfl | rfl | rfl | rfl |
      rfl | rfl | rfl | rfl <;> constructor
  obtain ⟨touches, steady⟩ := event.step next
  refine ⟨fun h other => ⟨touches.feed h other, touches.sched h other, touches.link h other, touches.tally0 h other,
    touches.tally1 h other⟩, touches.trigs, touches.supply, touches.temperature, touches.pending, touches.inReset,
    touches.ports, fun lists law => ?_⟩
  have lawful := lawful_of_law lists law
  exact ⟨fun h other => steady.seg lawful lawful.1 lawful.2.1 h other,
    fun j away => steady.point lawful lawful.1 lawful.2.1 j away⟩

end Sys2Proof
end

section
/-! PROOF. The arbiter's choice and the exchange it begins (R54, R97, R98, R105 to R108), and the course of an attempt
with the judgement of its response (R106, R108 to R110). -/

namespace Sys2Proof.Machine

/-! ### Integers as bytes (R25, R37, R54) -/

theorem le4_eq (v : Int) : le4 v =
    [BitVec.ofInt 8 v, BitVec.ofInt 8 (v / 256), BitVec.ofInt 8 (v / 65536), BitVec.ofInt 8 (v / 16777216)] := by
  simp only [le4, List.cons.injEq, and_true]
  refine ⟨?_, ?_, ?_, ?_⟩ <;>
  · refine BitVec.eq_of_toNat_eq ?_
    rw [BitVec.extractLsb'_toNat, BitVec.toNat_ofInt, BitVec.toNat_ofInt, Nat.shiftRight_eq_div_pow]
    omega

theorem le2_eq (n : Nat) : le2 n = [BitVec.ofNat 8 n, BitVec.ofNat 8 (n / 256)] := rfl

theorem requestFrame_read (node : NodeIdx) (object : Fin 1024) (w : Width) :
    requestFrame node object w .read none =
      [0xD5, byteOf (node.val + 1), 1] ++ le2 object.val ++
        [byteOf w.bytes, linkCheck ([byteOf (node.val + 1), 1] ++ le2 object.val ++ [byteOf w.bytes])] := by
  simp only [requestFrame, requestBody, List.append_nil, List.append_assoc]
  rfl

theorem requestFrame_write (node : NodeIdx) (object : Fin 1024) (w : Width) (v : Int) :
    requestFrame node object w .write (some v) =
      [0xD5, byteOf (node.val + 1), 2] ++ le2 object.val ++ [byteOf w.bytes] ++ (le4 v).take w.bytes ++
        [linkCheck ([byteOf (node.val + 1), 2] ++ le2 object.val ++ [byteOf w.bytes] ++ (le4 v).take w.bytes)] := rfl

/-! ### Grants (R54, R78, R107, R108) -/

section
variable (s : State) (g : Seg) (i : PointIdx) (f : Func) (k : GrantKind) (e : Env)

/-- The exchange of a grant, its first attempt begun. -/
def Point.granted (t : Point) (i : PointIdx) (f : Func) (k : GrantKind) : Exchange :=
  { t.exchange i f k with attempts := 1 }

/-- The link when an attempt begins: no other timer runs than that of a wait for an idle line. -/
def Link.sending (l : Link) (x : Exchange) (idle : Bool) : Link :=
  { l with
    state := .busy .sending x, windowTimer := none, backoffTimer := none
    idleTimer := if idle then none else some 2000
    gapTimer := none, recoveryTimer := none }

theorem beginAttempt_eq (x : Exchange) (idle : Bool) : s.beginAttempt g x idle =
    s.modLink g fun l => l.sending { x with attempts := x.attempts + 1 } idle := rfl

theorem link_grant : (s.grant g i f k e).link g = (s.link g).sending ((s.point i).granted i f k) (e.idle.get g) := by
  unfold State.grant
  dsimp only
  rw [beginAttempt_eq, link_modLink_same]
  cases f with
  | read => rfl
  | write => rfl

theorem sched_grant (h : Seg) : (s.grant g i f k e).sched h = s.sched h := by
  unfold State.grant
  dsimp only
  rw [beginAttempt_eq, sched_modLink]
  cases f with
  | read => rfl
  | write => rfl

theorem node_grant (h : Seg) (n : NodeIdx) : (s.grant g i f k e).node h n = s.node h n := by
  unfold State.grant
  dsimp only
  rw [beginAttempt_eq, node_modLink]
  cases f with
  | read => rfl
  | write => rfl

/-- A READ changes no record. -/
theorem point_grant_read (j : PointIdx) : (s.grant g i .read k e).point j = s.point j := rfl

/-- A WRITE takes the pending value in flight. -/
theorem point_grant_write : (s.grant g i .write k e).point i =
    { s.point i with inFlight := (s.point i).slot, slot := none } := by
  unfold State.grant
  dsimp only
  rw [beginAttempt_eq, point_modLink, point_modPoint_same]

theorem point_grant_ne {j : PointIdx} (other : j ≠ i) : (s.grant g i f k e).point j = s.point j := by
  cases f with
  | read => rfl
  | write =>
    have kept := point_modPoint_ne s (fun t : Point => { t with inFlight := t.slot, slot := none }) other
    exact kept

end

/-! ### The arbiter (R97, R98) -/

section
variable {s : State} {g : Seg} {d : DemandEntry} {ds : List DemandEntry}

theorem grantHead_nil (empty : (s.sched g).queue = []) (e : Env) : s.grantHead g e = s := by
  rw [State.grantHead, empty]

theorem grantHead_cons (queue : (s.sched g).queue = d :: ds) (e : Env) : s.grantHead g e =
    (s.modSched g fun c =>
      { c with queue := { d with granted := true } :: ds, backToBack := min (c.backToBack + 1) 4 }).grant
      g d.point (s.point d.point).demandFunc .demand e := by
  rw [State.grantHead, queue]
  rfl

/-- There is a cycle to walk: one is in progress with its cursor on a point. -/
def Scheduler.walks (c : Scheduler) : Bool := c.scan.inCycle && c.cursor.isSome

theorem walks_eq_false_iff (c : Scheduler) : c.walks = false ↔ c.scan.inCycle = false ∨ c.cursor = none := by
  rw [Scheduler.walks, Bool.and_eq_false_iff, Option.isSome_eq_false_iff, Option.isNone_iff_eq_none]

/-- Cases A and C: a demand entry within the share, or with no cycle to walk; and Case D, with neither. -/
theorem arbitrate_demand (ready : (s.link g).state = .ready)
    (choice : (s.sched g).queue ≠ [] ∧ (s.sched g).backToBack < (s.sched g).cfg.share ∨ (s.sched g).walks = false)
    (e : Env) : s.arbitrate g e = s.grantHead g e := by
  unfold State.arbitrate
  rw [if_pos ready]
  dsimp only
  by_cases within : (!(s.sched g).queue.isEmpty && decide ((s.sched g).backToBack < (s.sched g).cfg.share)) = true
  · rw [if_pos within]
  · rw [if_neg within]
    have free := choice.resolve_left fun ⟨filled, below⟩ => within (by simp [filled, below])
    exact if_neg (by rw [← Scheduler.walks, free]; nofun)

/-- Case B: a cycle to walk, and no demand entry within the share. -/
theorem arbitrate_walk (ready : (s.link g).state = .ready) (walks : (s.sched g).walks = true)
    (spent : (s.sched g).queue = [] ∨ (s.sched g).cfg.share ≤ (s.sched g).backToBack) (e : Env) :
    s.arbitrate g e = if (s.walk g e).2 then (s.walk g e).1 else (s.walk g e).1.grantHead g e := by
  unfold State.arbitrate
  rw [if_pos ready]
  dsimp only
  rw [if_neg, ← Scheduler.walks, if_pos walks]
  rw [Bool.and_eq_true, Bool.not_eq_true', List.isEmpty_eq_false_iff, decide_eq_true_eq]
  exact fun ⟨filled, below⟩ => spent.elim filled (Nat.not_le_of_lt below)

/-- What the grant of the head of the demand queue leaves (R78, R96). -/
structure HeadGranted (s : State) (g : Seg) (d : DemandEntry) (ds : List DemandEntry) (idle : Bool) (t : State) :
    Prop where
  link : t.link g = (s.link g).sending ((s.point d.point).granted d.point (s.point d.point).demandFunc .demand) idle
  sched : t.sched g =
    { s.sched g with
      queue := { d with granted := true } :: ds, backToBack := min ((s.sched g).backToBack + 1) 4 }
  reads : (s.point d.point).demandFunc = .read → ∀ j, t.point j = s.point j
  writes : (s.point d.point).demandFunc = .write →
    t.point d.point = { s.point d.point with inFlight := (s.point d.point).slot, slot := none }
  others : ∀ j, j ≠ d.point → t.point j = s.point j

theorem headGranted (queue : (s.sched g).queue = d :: ds) (e : Env) :
    HeadGranted s g d ds (e.idle.get g) (s.grantHead g e) := by
  rw [grantHead_cons queue]
  refine ⟨?_, ?_, fun reads j => ?_, fun writes => ?_, fun j other => point_grant_ne _ _ _ _ _ _ other⟩
  · rw [link_grant, link_modSched, point_modSched]
  · rw [sched_grant, sched_modSched_same]
  · rw [reads, point_grant_read, point_modSched]
  · rw [writes, point_grant_write, point_modSched]

end

theorem demandFunc_write {t : Point} (output : t.kind = .output) {f : Slot} (pending : t.slot = some f) :
    t.demandFunc = .write := by
  rw [Point.demandFunc, output]
  exact if_pos (by rw [pending]; rfl)

theorem demandFunc_read {t : Point} (plain : t.kind = .input ∨ t.slot = none) : t.demandFunc = .read := by
  unfold Point.demandFunc
  split
  · rfl
  · next output =>
    have empty := plain.resolve_left (by rw [output]; nofun)
    exact if_neg (by rw [empty]; nofun)

/-! ### Responses (R106) -/

/-- The parity of a byte as the parity of its count of ones. -/
theorem foldl_xor_eq (p : Nat → Bool) (l : List Nat) (acc : Bool) :
    l.foldl (fun acc k => acc ^^ p k) acc = (acc ^^ decide ((l.filter p).length % 2 = 1)) := by
  induction l generalizing acc with
  | nil => cases acc <;> rfl
  | cons k l ih =>
    rw [List.foldl_cons, ih, List.filter_cons]
    cases p k with
    | false => rw [Bool.xor_false]; rfl
    | true =>
      have flips : decide (((k :: l.filter p).length) % 2 = 1) = !decide ((l.filter p).length % 2 = 1) := by
        rw [List.length_cons, ← decide_not]
        exact decide_eq_decide.mpr (by omega)
      rw [if_pos rfl, flips, Bool.xor_true, Bool.xor_not, Bool.not_xor]

theorem parityBit_eq (x : Byte) :
    parityBit x = decide (((List.range 8).filter fun k => x.getLsbD k).length % 2 = 1) := by
  rw [parityBit, oddOnes, foldl_xor_eq, Bool.false_xor]

theorem sound_iff (c : RxChar) : RxChar.sound c = true ↔ c.stop = true ∧
    c.parity = decide (((List.range 8).filter fun k => c.data.getLsbD k).length % 2 = 1) := by
  rw [RxChar.sound, Bool.and_eq_true, decide_eq_true_eq, parityBit_eq, and_comm]

/-- The results that a response status names (Table 6-4b). -/
def statusTable : List (Nat × AttemptResult) :=
  [(0, .accepted), (1, .busy), (2, .noObject), (3, .badLength), (4, .readOnly)]

theorem statusResult_eq_some_iff (n : Nat) (r : AttemptResult) :
    statusResult n = some r ↔ (n, r) ∈ statusTable := by
  match n with
  | 0 => simp [statusTable, statusResult, eq_comm]
  | 1 => simp [statusTable, statusResult, eq_comm]
  | 2 => simp [statusTable, statusResult, eq_comm]
  | 3 => simp [statusTable, statusResult, eq_comm]
  | 4 => simp [statusTable, statusResult, eq_comm]
  | n + 5 => simp [statusTable, statusResult]

theorem accepted_of_status {n : Nat} {r : AttemptResult} (named : (n, r) ∈ statusTable) :
    (r = .accepted ↔ n = 0) ∧ n < 5 := by
  simp only [statusTable, List.mem_cons, List.not_mem_nil, or_false, Prod.mk.injEq] at named
  rcases named with ⟨rfl, rfl⟩ | ⟨rfl, rfl⟩ | ⟨rfl, rfl⟩ | ⟨rfl, rfl⟩ | ⟨rfl, rfl⟩ <;> simp

/-- The characters of a response: the marker, the node, the status, the length, the data and the check. -/
def responseChars (node status : Nat) (data : List Byte) : List Byte :=
  0x5D :: byteOf node :: byteOf status :: byteOf data.length :: data ++
    [linkCheck (byteOf node :: byteOf status :: byteOf data.length :: data)]

/-- What the judgement asks of the characters, beside their parity and pauses. -/
def ResponseFits (bytes : List Byte) (node status expected : Nat) : Prop :=
  (5 ≤ bytes.length ∧ bytes.length ≤ 9) ∧ argByte bytes 0 = 0x5D ∧ arg bytes 1 = node ∧ arg bytes 2 = status ∧
    arg bytes 3 = bytes.length - 5 ∧ arg bytes 3 = expected ∧
    argByte bytes (bytes.length - 1) = linkCheck ((bytes.drop 1).take (bytes.length - 2))

theorem byteOf_toNat (b : Byte) : byteOf b.toNat = b := BitVec.ofNat_toNat 8 b |>.trans (BitVec.setWidth_eq b)

theorem responseFits_chars {node status expected : Nat} {data : List Byte} (nodeByte : node < 256)
    (statusByte : status < 256) (short : expected ≤ 4) (length : data.length = expected) :
    ResponseFits (responseChars node status data) node status expected := by
  have size : (responseChars node status data).length = data.length + 5 := by simp [responseChars]
  have lengthByte : data.length < 256 := by omega
  refine ⟨by omega, rfl, Nat.mod_eq_of_lt nodeByte, Nat.mod_eq_of_lt statusByte, ?_, ?_, ?_⟩
  · rw [size]
    exact Nat.mod_eq_of_lt lengthByte
  · rw [← length]
    exact Nat.mod_eq_of_lt lengthByte
  · rw [size]
    have last : argByte (responseChars node status data) (data.length + 5 - 1) =
        linkCheck (byteOf node :: byteOf status :: byteOf data.length :: data) :=
      argByte_append_last (0x5D :: byteOf node :: byteOf status :: byteOf data.length :: data) _
    rw [last]
    refine congrArg linkCheck (Eq.symm ?_)
    exact List.take_left' (l₁ := byteOf node :: byteOf status :: byteOf data.length :: data) (by simp)

theorem exists_chars {bytes : List Byte} (low : 5 ≤ bytes.length) :
    ∃ b0 b1 b2 b3 tail, tail ≠ [] ∧ bytes = b0 :: b1 :: b2 :: b3 :: tail := by
  rcases bytes with _ | ⟨b0, _ | ⟨b1, _ | ⟨b2, _ | ⟨b3, _ | ⟨b4, rest⟩⟩⟩⟩⟩
  case cons.cons.cons.cons.cons => exact ⟨b0, b1, b2, b3, b4 :: rest, nofun, rfl⟩
  all_goals simp at low

theorem chars_of_responseFits {bytes : List Byte} {node status expected : Nat}
    (fits : ResponseFits bytes node status expected) :
    ∃ data, bytes = responseChars node status data ∧ data.length = expected := by
  obtain ⟨⟨low, -⟩, marker, atNode, atStatus, lengthByte, expects, check⟩ := fits
  obtain ⟨b0, b1, b2, b3, tail, filled, rfl⟩ := exists_chars low
  obtain ⟨data, z, rfl⟩ : ∃ data z, tail = data ++ [z] :=
    ⟨_, _, (List.dropLast_append_getLast filled).symm⟩
  have size : (b0 :: b1 :: b2 :: b3 :: (data ++ [z])).length = data.length + 5 := by simp
  have last : argByte (b0 :: b1 :: b2 :: b3 :: (data ++ [z])) (data.length + 5 - 1) = z :=
    argByte_append_last (b0 :: b1 :: b2 :: b3 :: data) z
  have covered : ((b0 :: b1 :: b2 :: b3 :: (data ++ [z])).drop 1).take (data.length + 5 - 2) =
      b1 :: b2 :: b3 :: data := List.take_left' (l₁ := b1 :: b2 :: b3 :: data) (by simp)
  rw [size] at lengthByte check
  rw [last, covered] at check
  have node_eq : b1 = byteOf node := (byteOf_toNat b1).symm.trans (congrArg byteOf atNode)
  have status_eq : b2 = byteOf status := (byteOf_toNat b2).symm.trans (congrArg byteOf atStatus)
  have length_eq : b3 = byteOf data.length := (byteOf_toNat b3).symm.trans (congrArg byteOf lengthByte)
  have marker_eq : b0 = 0x5D := marker
  refine ⟨data, ?_, by omega⟩
  rw [check, responseChars, node_eq, status_eq, length_eq, marker_eq]
  rfl

theorem judgeResponse_eq (x : Exchange) (frame : List RxChar) :
    judgeResponse x frame =
      match statusResult (arg (frame.map RxChar.data) 2) with
      | none => .checkError
      | some r =>
        if frame.all RxChar.sound && (frame.drop 1).all (fun c => !c.paused) &&
          decide (5 ≤ (frame.map RxChar.data).length ∧ (frame.map RxChar.data).length ≤ 9) &&
          decide (argByte (frame.map RxChar.data) 0 = 0x5D) &&
          decide (arg (frame.map RxChar.data) 1 = nodeAddress x.node) &&
          decide (arg (frame.map RxChar.data) 3 = (frame.map RxChar.data).length - 5) &&
          decide (arg (frame.map RxChar.data) 3 = dataLength x r) &&
          decide (argByte (frame.map RxChar.data) ((frame.map RxChar.data).length - 1) =
            linkCheck (((frame.map RxChar.data).drop 1).take ((frame.map RxChar.data).length - 2))) then r
        else .checkError := rfl

/-- A valid response: its status names the result, and its characters fit. -/
theorem judgeResponse_iff_fits (x : Exchange) (frame : List RxChar) {r : AttemptResult} (valid : r ≠ .checkError) :
    judgeResponse x frame = r ↔ ∃ status, (status, r) ∈ statusTable ∧ (∀ c ∈ frame, RxChar.sound c = true) ∧
      (∀ c ∈ frame.drop 1, c.paused = false) ∧
      ResponseFits (frame.map RxChar.data) (nodeAddress x.node) status (dataLength x r) := by
  rw [judgeResponse_eq]
  constructor
  · intro judged
    split at judged
    · exact absurd judged.symm valid
    · next q named =>
      split at judged
      · next all =>
        subst judged
        simp only [Bool.and_eq_true, List.all_eq_true, decide_eq_true_eq, Bool.not_eq_true'] at all
        obtain ⟨⟨⟨⟨⟨⟨⟨sound, paced⟩, size⟩, marker⟩, node⟩, length⟩, expected⟩, check⟩ := all
        exact ⟨_, (statusResult_eq_some_iff _ _).mp named, sound, paced, size, marker, node, rfl, length, expected,
          check⟩
      · exact absurd judged.symm valid
  · rintro ⟨status, named, sound, paced, size, marker, node, atStatus, length, expected, check⟩
    rw [atStatus, (statusResult_eq_some_iff _ _).mpr named]
    refine if_pos ?_
    simp only [Bool.and_eq_true, List.all_eq_true, decide_eq_true_eq, Bool.not_eq_true']
    exact ⟨⟨⟨⟨⟨⟨⟨sound, paced⟩, size⟩, marker⟩, node⟩, length⟩, expected⟩, check⟩

theorem dataLength_le (x : Exchange) (r : AttemptResult) : dataLength x r ≤ 4 := by
  unfold dataLength
  split
  · cases x.width <;> decide
  · exact Nat.zero_le 4

theorem judgeResponse_iff (x : Exchange) (frame : List RxChar) {r : AttemptResult} (valid : r ≠ .checkError) :
    judgeResponse x frame = r ↔ ∃ status data, (status, r) ∈ statusTable ∧
      (∀ c ∈ frame, c.stop = true ∧
        c.parity = decide (((List.range 8).filter fun k => c.data.getLsbD k).length % 2 = 1)) ∧
      (∀ c ∈ frame.drop 1, c.paused = false) ∧
      frame.map RxChar.data = responseChars (x.node.val + 1) status data ∧
      data.length = if status = 0 ∧ x.func = .read then x.width.bytes else 0 := by
  rw [judgeResponse_iff_fits x frame valid]
  simp only [sound_iff]
  refine exists_congr fun status => ⟨?_, ?_⟩
  · rintro ⟨named, sound, paced, fits⟩
    obtain ⟨data, chars, length⟩ := chars_of_responseFits fits
    refine ⟨data, named, sound, paced, chars, length.trans ?_⟩
    exact if_congr (and_congr_left fun _ => (accepted_of_status named).1) rfl rfl
  · rintro ⟨data, named, sound, paced, chars, length⟩
    have expected : data.length = dataLength x r :=
      length.trans (if_congr (and_congr_left fun _ => (accepted_of_status named).1.symm) rfl rfl)
    refine ⟨named, sound, paced, ?_⟩
    rw [chars]
    have address : x.node.val + 1 < 256 := by have := x.node.isLt; omega
    exact responseFits_chars address (by have := (accepted_of_status named).2; omega) (dataLength_le x r) expected

/-! ### The course of an attempt (R108 to R110) -/

section
variable {s : State} {g : Seg} {x : Exchange}

theorem SegEvent.gives {i : Instr} {t : State} (event : SegEvent g i) (awake : s.inReset = false)
    (effect : effectOf i s = t) : exec i s = .next t :=
  (event.exec_eq s).trans ((event_takes awake).trans (congrArg _ effect))

theorem requestSent_sending (busy : (s.link g).state = .busy .sending x) (driven : (s.link g).idleTimer = none) :
    s.requestSent g = s.modLink g fun l =>
      { l with state := .busy .awaiting x, windowTimer := some (l.cfg.window * 100) } := by
  unfold State.requestSent
  rw [busy]
  refine if_pos ?_
  rw [Link.driving, busy]
  exact Option.isNone_iff_eq_none.mpr driven

theorem responseStart_awaiting (busy : (s.link g).state = .busy .awaiting x) : s.responseStart g =
    s.modLink g fun l => { l with state := .busy .receiving x, windowTimer := none } := by
  rw [State.responseStart, busy]

theorem backoffExpiry_backoff (busy : (s.link g).state = .busy .backoff x) (e : Env) :
    s.backoffExpiry g e = s.beginAttempt g x (e.idle.get g) := by
  rw [State.backoffExpiry, busy]

theorem idleWaitIdle_sending (busy : (s.link g).state = .busy .sending x) :
    s.idleWaitIdle g = s.modLink g fun l => { l with idleTimer := none } := by
  rw [State.idleWaitIdle, busy]

end

end Sys2Proof.Machine

namespace Sys2Proof
open Machine

/-- Settles O33: with no cycle to walk, or within the share, the arbiter grants the head of the queue. -/
theorem arbiterChoice : Obligations.ArbiterChoice := by
  refine ⟨fun node object w v => ⟨requestFrame_read node object w, requestFrame_write node object w v⟩,
    fun v n => ⟨le4_eq v, le2_eq n⟩, fun s g e => ⟨fun rest => arbitrate_of_not_ready rest e, fun ready => ⟨?_, ?_⟩⟩⟩
  · intro empty idle
    rw [arbitrate_demand ready (.inr ((walks_eq_false_iff _).mpr idle)), grantHead_nil empty]
  · intro d ds queue choice
    have head : s.arbitrate g e = s.grantHead g e := arbitrate_demand ready
      (choice.imp (fun below => ⟨by rw [queue]; nofun, below⟩) (walks_eq_false_iff _).mpr) e
    have granted := headGranted queue e
    rw [← head] at granted
    refine ⟨_, congrArg Link.state granted.link, rfl, rfl, rfl, rfl, rfl, rfl, rfl,
      congrArg Scheduler.queue granted.sched, congrArg Scheduler.backToBack granted.sched, fun output f pending => ?_,
      fun plain => ?_, granted.others⟩
    · have writes := demandFunc_write output pending
      rw [granted.writes writes, writes]
      exact ⟨rfl, congrArg (Option.map Slot.value) pending, pending, rfl⟩
    · rw [demandFunc_read plain]
      exact ⟨rfl, rfl⟩

/-- Settles O36: the judgement reads the characters back, and each event finds the link in its own sub-phase. -/
theorem attemptCourse : Obligations.AttemptCourse := by
  refine ⟨fun x frame r valid => judgeResponse_iff x frame valid, fun s g x e awake => ⟨fun busy driven => ?_,
    fun busy => ?_, fun busy => ?_, fun busy => ?_⟩⟩
  · exact SegEvent.requestSent.gives awake (requestSent_sending busy driven)
  · exact SegEvent.responseStartBit.gives awake (responseStart_awaiting busy)
  · exact SegEvent.gives (.backoffExpiry e) awake (backoffExpiry_backoff busy e)
  · exact SegEvent.idleWaitLineIdle.gives awake (idleWaitIdle_sending busy)

end Sys2Proof
end

section
/-! PROOF. What the Scheduler's going on leaves (R76 to R83, R91, R97, R98): the relations of a cycle's end and start and
of the arbiter's decision, one lemma per operation. -/

namespace Sys2Proof.Machine

/-! ### Lists that name a record, under reasons of segments -/

theorem named_noteSeg (s : State) (p q : Port) (g : Seg) (r : SegReason) (j : PointIdx) :
    (s.noteSeg p g r).named q j = s.named q j := by
  unfold State.noteSeg
  split
  · rw [named_eq_isSome_find, named_eq_isSome_find, point_modPort,
      find_attention_merge_other (fun e k => by obtain ⟨n, rfl⟩ := isSegment_eq k; rfl)
        (fun e k => by obtain ⟨n, rfl⟩ := isSegment_eq k; rfl) (by simp [Entry.isSegment]) s p q]
  · rfl

theorem named_raiseSeg_if (s : State) (g : Seg) (r : SegReason) (due : Bool) (q : Port) (j : PointIdx) :
    (if due then s.raiseSeg g r else s).named q j = s.named q j := by
  split
  · exact (named_noteSeg _ .b q g r j).trans (named_noteSeg s .a q g r j)
  · rfl

/-! ### The relations -/

/-- The Scheduler goes on: its list, settings and overruns stay, and its scan keeps its state or takes one of those in
which a cycle leaves it. -/
structure Scheduler.Goes (c d : Scheduler) : Prop where
  list : d.list = c.list
  cfg : d.cfg = c.cfg
  overruns : d.overruns = c.overruns
  scan : d.scan = c.scan ∨ d.scan = .running ∨ d.scan = .waiting ∨ d.scan = .stopped

theorem Scheduler.Goes.refl (c : Scheduler) : c.Goes c := ⟨rfl, rfl, rfl, .inl rfl⟩

theorem Scheduler.Goes.trans {c d b : Scheduler} (h : c.Goes d) (k : d.Goes b) : c.Goes b :=
  ⟨k.list.trans h.list, k.cfg.trans h.cfg, k.overruns.trans h.overruns,
    k.scan.elim (fun same => same ▸ h.scan) .inr⟩

/-- A scan that is not HALTED is not HALTED when it has gone on. -/
theorem Scheduler.Goes.not_halted {c d : Scheduler} (h : c.Goes d) (going : c.scan.halted = false) :
    d.scan.halted = false := by
  rcases h.scan with same | same | same | same
  · rw [same, going]
  · rw [same]; rfl
  · rw [same]; rfl
  · rw [same]; rfl

/-- Only the Scheduler, the link and the probe marks of segment `g` change, and of all notes only SCAN_ENDED of `g`. -/
structure Decides (g : Seg) (s t : State) : Prop where
  touches : Touches noSeg (onlySeg g) (onlySeg g) s t
  others : ∀ h, h ≠ g → t.seg h = s.seg h
  tally0 : (t.seg g).tally0 = (s.seg g).tally0
  tally1 : (t.seg g).tally1 = (s.seg g).tally1
  nodes : ∀ n, { t.node g n with probe := (s.node g n).probe } = s.node g n
  sched : (s.sched g).Goes (t.sched g)
  notes : ∀ p j, t.noteOf p j = s.noteOf p j
  ended : ∀ p, { t.segNoteOf p g with scanEnded := (s.segNoteOf p g).scanEnded } = s.segNoteOf p g
  segNotes : ∀ p h, h ≠ g → t.segNoteOf p h = s.segNoteOf p h
  devNotes : ∀ p, t.devNoteOf p = s.devNoteOf p
  named : ∀ p j, t.named p j = s.named p j

section
variable {g : Seg} {s t u : State}

theorem Decides.refl (g : Seg) (s : State) : Decides g s s :=
  ⟨.refl _ _ _ s, fun _ _ => rfl, rfl, rfl, fun _ => rfl, .refl _, fun _ _ => rfl, fun _ => rfl, fun _ _ _ => rfl,
    fun _ => rfl, fun _ _ => rfl⟩

theorem Decides.trans (h : Decides g s t) (k : Decides g t u) : Decides g s u where
  touches := h.touches.trans k.touches
  others x other := (k.others x other).trans (h.others x other)
  tally0 := k.tally0.trans h.tally0
  tally1 := k.tally1.trans h.tally1
  nodes n := (congrArg (fun r : NodeRec => { r with probe := (s.node g n).probe }) (k.nodes n)).trans (h.nodes n)
  sched := h.sched.trans k.sched
  notes p j := (k.notes p j).trans (h.notes p j)
  ended p := (congrArg (fun r : SegNote => { r with scanEnded := (s.segNoteOf p g).scanEnded }) (k.ended p)).trans
    (h.ended p)
  segNotes p x other := (k.segNotes p x other).trans (h.segNotes p x other)
  devNotes p := (k.devNotes p).trans (h.devNotes p)
  named p j := (k.named p j).trans (h.named p j)

theorem Decides.link_ne (h : Decides g s t) {x : Seg} (other : x ≠ g) : t.link x = s.link x :=
  h.touches.link x other

theorem Decides.feed (h : Decides g s t) (x : Seg) : t.feed x = s.feed x := h.touches.feed x id

/-- A change of the segment's Scheduler alone. -/
theorem decides_modSched {f : Scheduler → Scheduler} (s : State) (goes : (s.sched g).Goes (f (s.sched g))) :
    Decides g s (s.modSched g f) where
  touches := touches_modSched (onlySeg_self g) s f
  others x other := (seg_modSeg s g x _).trans (if_neg other)
  tally0 := tally0_modSched s g f g
  tally1 := tally1_modSched s g f g
  nodes n := by rw [node_modSched]
  sched := by rw [sched_modSched_same]; exact goes
  notes _ _ := rfl
  ended _ := rfl
  segNotes _ _ _ := rfl
  devNotes _ := rfl
  named _ _ := rfl

theorem decides_modLink (s : State) (f : Link → Link) : Decides g s (s.modLink g f) where
  touches := touches_modLink (onlySeg_self g) s f
  others x other := (seg_modSeg s g x _).trans (if_neg other)
  tally0 := tally0_modLink s g f g
  tally1 := tally1_modLink s g f g
  nodes n := by rw [node_modLink]
  sched := by rw [sched_modLink]; exact .refl _
  notes _ _ := rfl
  ended _ := rfl
  segNotes _ _ _ := rfl
  devNotes _ := rfl
  named _ _ := rfl

theorem decides_mapNodes (s : State) {f : NodeRec → NodeRec} (probe : ∀ n, { f n with probe := n.probe } = n) :
    Decides g s (s.mapNodes g f) where
  touches := touches_mapNodes g s f
  others x other := (seg_modSeg s g x _).trans (if_neg other)
  tally0 := tally0_mapNodes s g f g
  tally1 := tally1_mapNodes s g f g
  nodes n := by rw [node_mapNodes_same, probe]
  sched := by rw [sched_mapNodes]; exact .refl _
  notes _ _ := rfl
  ended _ := rfl
  segNotes _ _ _ := rfl
  devNotes _ := rfl
  named _ _ := rfl

theorem decides_modNode (s : State) (n : NodeIdx) {f : NodeRec → NodeRec}
    (probe : ∀ n, { f n with probe := n.probe } = n) : Decides g s (s.modNode g n f) where
  touches := touches_modNode g s n f
  others x other := (seg_modSeg s g x _).trans (if_neg other)
  tally0 := tally0_modNode s g n f g
  tally1 := tally1_modNode s g n f g
  nodes m := by
    rw [node_modNode]
    split
    · next same => rw [same.2, probe]
    · rfl
  sched := by rw [sched_modNode]; exact .refl _
  notes _ _ := rfl
  ended _ := rfl
  segNotes _ _ _ := rfl
  devNotes _ := rfl
  named _ _ := rfl

theorem decides_modPoint (s : State) (i : PointIdx) {f : Point → Point}
    (generation : ∀ t, (f t).generation = t.generation) : Decides g s (s.modPoint i f) :=
  have kept (j : PointIdx) : ((s.modPoint i f).point j).generation = (s.point j).generation := by
    rw [point_modPoint]
    split
    · next same => rw [generation, same]
    · rfl
  { touches := touches_modPoint s i f
    others := fun _ _ => rfl
    tally0 := rfl
    tally1 := rfl
    nodes := fun _ => rfl
    sched := .refl _
    notes := fun _ j => noteOf_congr rfl (kept j)
    ended := fun _ => rfl
    segNotes := fun _ _ _ => rfl
    devNotes := fun _ => rfl
    named := fun _ j => named_congr rfl (kept j) }

theorem decides_scanEnded (s : State) : Decides g s (s.raiseSeg g .scanEnded) :=
  have quiet := raiseSeg_noticesOnly s g .scanEnded
  { touches := touches_raiseSeg s g _
    others := fun x _ => quiet.seg x
    tally0 := by rw [quiet.seg]
    tally1 := by rw [quiet.seg]
    nodes := fun n => by rw [quiet.node]
    sched := by rw [quiet.sched]; exact .refl _
    notes := fun p j => noteOf_raiseSeg s g j _ p
    ended := fun p => by
      rw [segNoteOf_raiseSeg]
      split
      · rfl
      · rfl
    segNotes := fun p x other => by rw [segNoteOf_raiseSeg, if_neg fun both => other both.1]
    devNotes := fun p => devNoteOf_raiseSeg s p g _
    named := fun p j => named_raiseSeg_if s g .scanEnded true p j }

/-! ### Cycles (R81 to R83, R91) -/

/-- A cycle ends or starts: no point, no link and no queue changes. -/
structure Cycles (g : Seg) (s t : State) : Prop extends Decides g s t where
  points : t.points = s.points
  link : t.link g = s.link g
  queue : (t.sched g).queue = (s.sched g).queue
  backToBack : (t.sched g).backToBack = (s.sched g).backToBack

theorem Cycles.refl (g : Seg) (s : State) : Cycles g s s := ⟨.refl g s, rfl, rfl, rfl, rfl⟩

theorem Cycles.trans (h : Cycles g s t) (k : Cycles g t u) : Cycles g s u :=
  ⟨h.toDecides.trans k.toDecides, k.points.trans h.points, k.link.trans h.link, k.queue.trans h.queue,
    k.backToBack.trans h.backToBack⟩

theorem Cycles.point (h : Cycles g s t) (j : PointIdx) : t.point j = s.point j := by
  rw [State.point, State.point, h.points]

theorem cycles_modSched {f : Scheduler → Scheduler} (s : State) (goes : (s.sched g).Goes (f (s.sched g)))
    (queue : (f (s.sched g)).queue = (s.sched g).queue := by rfl)
    (backToBack : (f (s.sched g)).backToBack = (s.sched g).backToBack := by rfl) : Cycles g s (s.modSched g f) :=
  ⟨decides_modSched s goes, rfl, link_modSched s g f g, by rw [sched_modSched_same, queue],
    by rw [sched_modSched_same, backToBack]⟩

theorem cycles_scanEnded (s : State) : Cycles g s (s.raiseSeg g .scanEnded) :=
  have quiet := raiseSeg_noticesOnly s g .scanEnded
  ⟨decides_scanEnded s, quiet.points, quiet.link g, by rw [quiet.sched], by rw [quiet.sched]⟩

theorem cycles_mapNodes (s : State) {f : NodeRec → NodeRec} (probe : ∀ n, { f n with probe := n.probe } = n) :
    Cycles g s (s.mapNodes g f) :=
  ⟨decides_mapNodes s probe, rfl, link_mapNodes s g f g, by rw [sched_mapNodes], by rw [sched_mapNodes]⟩

theorem cycles_endScan (s : State) : Cycles g s (s.endScan g) :=
  (cycles_modSched (f := Scheduler.stop) s ⟨rfl, rfl, rfl, .inr (.inr (.inr rfl))⟩).trans (cycles_scanEnded _)

theorem cycles_beginCycle (s : State) : Cycles g s (s.beginCycle g) :=
  (cycles_modSched (f := fun c =>
    { c with scan := .running, cursor := c.list.head?, cycleMark := false, deferred := false }) s
    ⟨rfl, rfl, rfl, .inr (.inl rfl)⟩).trans (cycles_mapNodes _ fun _ => rfl)

theorem cycles_completeOnce (s : State) : Cycles g s (s.completeOnce g).1 := by
  have counted : Cycles g s (s.modSched g fun d => { d with cyclesEnded := (s.sched g).counted }) :=
    cycles_modSched s ⟨rfl, rfl, rfl, .inl rfl⟩
  unfold State.completeOnce
  dsimp only
  split
  · exact counted.trans (cycles_endScan _)
  · dsimp only
    exact counted.trans (cycles_modSched _ ⟨rfl, rfl, rfl, .inr (.inr (.inl rfl))⟩)

theorem cycles_startCycle (s : State) : Cycles g s (s.startCycle g) := by
  unfold State.startCycle
  dsimp only
  split
  · exact (cycles_beginCycle s).trans (cycles_completeOnce _)
  · exact cycles_beginCycle s

theorem cycles_complete (s : State) : Cycles g s (s.complete g) := by
  unfold State.complete
  dsimp only
  split
  · exact (cycles_completeOnce s).trans (cycles_startCycle _)
  · exact cycles_completeOnce s

theorem cycles_applyCut (s : State) : Cycles g s (s.applyCut g) := by
  have counted (n : Nat) : Cycles g s (s.modSched g fun d => { d with cut := false, cyclesEnded := n }) :=
    cycles_modSched s ⟨rfl, rfl, rfl, .inl rfl⟩
  unfold State.applyCut
  dsimp only
  generalize (if (s.sched g).scan.inCycle then (s.sched g).counted else (s.sched g).cyclesEnded) = n
  split
  · split
    · exact (counted _).trans (cycles_endScan _)
    · exact (counted _).trans (cycles_startCycle _)
  · exact counted _

/-! ### The arbiter's decision (R77, R78, R97, R98) -/

/-- The Scheduler goes on with what the arbiter may grant: a READY link may have begun an exchange, by which a pending
value may be in flight and a queue entry granted, and points of the list have been visited. -/
structure Proceeds (g : Seg) (s t : State) : Prop extends Decides g s t where
  link : t.link g = s.link g ∨ (s.link g).state = .ready ∧ ∃ x idle, t.link g = (s.link g).sending x idle
  queue : (t.sched g).queue.map (fun d => (d.point, d.ports)) = (s.sched g).queue.map fun d => (d.point, d.ports)
  record : ∀ j, { t.point j with
    phase := (s.point j).phase, slot := (s.point j).slot, inFlight := (s.point j).inFlight } = s.point j
  taken : ∀ j, (t.point j).slot = (s.point j).slot ∧ (t.point j).inFlight = (s.point j).inFlight ∨
    ∃ f, (s.point j).slot = some f ∧ (t.point j).slot = none ∧ (t.point j).inFlight = some f
  unvisited : ∀ j, j ∉ (s.sched g).list → (t.point j).phase = (s.point j).phase
  unnamed : ∀ j, j ∉ (s.sched g).list → j ∉ (s.sched g).queue.map DemandEntry.point → t.point j = s.point j

theorem Cycles.proceeds (h : Cycles g s t) : Proceeds g s t :=
  ⟨h.toDecides, .inl h.link, by rw [h.queue], fun j => by rw [h.point], fun j => .inl (by rw [h.point]; exact ⟨rfl, rfl⟩),
    fun j _ => by rw [h.point], fun j _ _ => h.point j⟩

theorem Proceeds.refl (g : Seg) (s : State) : Proceeds g s s := (Cycles.refl g s).proceeds

/-- The points that the queue names stay. -/
theorem Proceeds.queued (h : Proceeds g s t) :
    (t.sched g).queue.map DemandEntry.point = (s.sched g).queue.map DemandEntry.point := by
  have firsts := congrArg (List.map Prod.fst) h.queue
  rwa [List.map_map, List.map_map] at firsts

theorem Proceeds.trans (h : Proceeds g s t) (k : Proceeds g t u) : Proceeds g s u where
  toDecides := h.toDecides.trans k.toDecides
  link := by
    rcases k.link with same | ⟨ready, x, idle, begun⟩
    · rw [same]
      exact h.link
    · rcases h.link with same | ⟨_, x, idle, begun⟩
      · rw [same] at ready begun
        exact .inr ⟨ready, _, _, begun⟩
      · rw [begun] at ready
        cases ready
  queue := k.queue.trans h.queue
  record j := (congrArg (fun r : Point => { r with
    phase := (s.point j).phase, slot := (s.point j).slot, inFlight := (s.point j).inFlight }) (k.record j)).trans
      (h.record j)
  taken j := by
    rcases k.taken j with ⟨slot, flight⟩ | ⟨f, pending, slot, flight⟩
    · rw [slot, flight]
      exact h.taken j
    · rcases h.taken j with ⟨same, -⟩ | ⟨_, -, empty, -⟩
      · exact .inr ⟨f, same ▸ pending, slot, flight⟩
      · rw [empty] at pending
        cases pending
  unvisited j out := (k.unvisited j (h.sched.list ▸ out)).trans (h.unvisited j out)
  unnamed j out away :=
    (k.unnamed j (h.sched.list ▸ out) (h.queued ▸ away)).trans (h.unnamed j out away)

theorem Proceeds.ite {q : Prop} [Decidable q] (h : q → Proceeds g s t) : Proceeds g s (if q then t else s) := by
  split
  · next made => exact h made
  · exact .refl g s

theorem point_grant (s : State) (g : Seg) (i : PointIdx) (f : Func) (k : GrantKind) (e : Env) (j : PointIdx) :
    (s.grant g i f k e).point j =
      if j = i ∧ f = .write then { s.point i with inFlight := (s.point i).slot, slot := none } else s.point j := by
  split
  · next moved =>
    obtain ⟨rfl, rfl⟩ := moved
    exact point_grant_write s g j k e
  · next kept =>
    by_cases at_i : j = i
    · cases f with
      | read => rfl
      | write => exact absurd ⟨at_i, rfl⟩ kept
    · exact point_grant_ne s g i f k e at_i

/-- A grant to a READY link, of a value that is pending where it is a WRITE. -/
theorem proceeds_grant {i : PointIdx} {f : Func} (ready : (s.link g).state = .ready)
    (named : i ∈ (s.sched g).list ∨ i ∈ (s.sched g).queue.map DemandEntry.point)
    (pending : f = .write → (s.point i).slot.isSome = true) (k : GrantKind) (e : Env) :
    Proceeds g s (s.grant g i f k e) := by
  have began (u : State) {x : Exchange} {idle : Bool} : Decides g u (u.beginAttempt g x idle) := decides_modLink u _
  have decides : Decides g s (s.grant g i f k e) := by
    cases f with
    | read => exact began s
    | write =>
      exact Decides.trans (decides_modPoint (f := fun t => { t with inFlight := t.slot, slot := none }) s i
        fun _ => rfl) (began _)
  refine ⟨decides, .inr ⟨ready, _, _, link_grant s g i f k e⟩, by rw [sched_grant], fun j => ?_, fun j => ?_,
    fun j _ => ?_, fun j out away => point_grant_ne s g i f k e fun at_i => named.elim (at_i ▸ out) (at_i ▸ away)⟩
  · rw [point_grant]
    split
    · next moved => rw [moved.1]
    · rfl
  · rw [point_grant]
    split
    · next moved =>
      obtain ⟨rfl, write⟩ := moved
      obtain ⟨v, hv⟩ := Option.isSome_iff_exists.mp (pending write)
      exact .inr ⟨v, hv, rfl, hv⟩
    · exact .inl ⟨rfl, rfl⟩
  · rw [point_grant]
    split
    · next moved => rw [moved.1]
    · rfl

theorem demandFunc_pending {t : Point} (write : t.demandFunc = .write) : t.slot.isSome = true := by
  unfold Point.demandFunc at write
  split at write
  · cases write
  · split at write
    · assumption
    · cases write

theorem pollFunc_pending {t : Point} (write : t.pollFunc = some .write) : t.slot.isSome = true := by
  unfold Point.pollFunc at write
  split at write
  · cases write
  · split at write
    · assumption
    · split at write
      · cases write
      · cases write

theorem proceeds_modSched {f : Scheduler → Scheduler} (s : State) (goes : (s.sched g).Goes (f (s.sched g)))
    (queue : (f (s.sched g)).queue.map (fun d => (d.point, d.ports)) =
      (s.sched g).queue.map fun d => (d.point, d.ports)) : Proceeds g s (s.modSched g f) :=
  ⟨decides_modSched s goes, .inl (link_modSched s g f g), by rw [sched_modSched_same, queue], fun _ => rfl,
    fun _ => .inl ⟨rfl, rfl⟩, fun _ _ => rfl, fun _ _ _ => rfl⟩

theorem proceeds_grantHead (ready : (s.link g).state = .ready) (e : Env) : Proceeds g s (s.grantHead g e) := by
  cases queue : (s.sched g).queue with
  | nil =>
    rw [grantHead_nil queue]
    exact .refl g s
  | cons d ds =>
    rw [grantHead_cons queue]
    refine (proceeds_modSched s ⟨rfl, rfl, rfl, .inl rfl⟩ (by rw [queue]; rfl)).trans
      (proceeds_grant (by rw [link_modSched]; exact ready) (.inr ?_) (fun write => demandFunc_pending write) _ e)
    rw [sched_modSched_same]
    exact List.mem_cons_self

theorem proceeds_grantScan {i : PointIdx} {f : Func} (ready : (s.link g).state = .ready)
    (listed : i ∈ (s.sched g).list) (pending : f = .write → (s.point i).slot.isSome = true) (e : Env) :
    Proceeds g s (s.grantScan g i f e) := by
  have marked : Proceeds g s ((s.modSched g fun c => { c with cycleMark := true, backToBack := 0 }).modNode g
      (s.point i).node fun n => { n with probe := true }) :=
    (proceeds_modSched (f := fun c => { c with cycleMark := true, backToBack := 0 }) s ⟨rfl, rfl, rfl, .inl rfl⟩
      rfl).trans
      ⟨decides_modNode _ _ fun _ => rfl, .inl (link_modNode _ _ _ _ _), by rw [sched_modNode], fun _ => rfl,
        fun _ => .inl ⟨rfl, rfl⟩, fun _ _ => rfl, fun _ _ _ => rfl⟩
  rw [State.grantScan]
  refine marked.trans (proceeds_grant ?_ (.inl ?_) ?_ .scan e)
  · rw [link_modNode, link_modSched]
    exact ready
  · rw [sched_modNode, sched_modSched_same]
    exact listed
  · exact pending

/-! ### Visits and walks -/

/-- The exchange that a visit needs (R77, R126). -/
def State.visitFunc (s : State) (g : Seg) (i : PointIdx) : Option Func :=
  if (s.point i).phase ≠ 0 ∨ (s.node g (s.point i).node).skips = true then none else (s.point i).pollFunc

/-- A visit: the cursor moves on, the phase counts, and the exchange it needs. -/
theorem visit_eq (s : State) (g : Seg) (i : PointIdx) : s.visit g i =
    ((s.modSched g fun c => { c with cursor := successor c.list i }).modPoint i Point.visited, s.visitFunc g i) := by
  have record {f : Point → Point} (same : f (s.point i) = (s.point i).visited) :
      (s.modSched g fun c => { c with cursor := successor c.list i }).modPoint i f =
        (s.modSched g fun c => { c with cursor := successor c.list i }).modPoint i Point.visited := modPoint_congr same
  unfold State.visit State.visitFunc
  dsimp only
  by_cases waits : (s.point i).phase ≠ 0
  · rw [if_pos waits, if_pos (.inl waits), record]
    rw [Point.visited, if_neg waits]
  · have reload := record (f := fun t => { t with phase := t.divider - 1 })
      (by rw [Point.visited, if_pos (not_not.mp waits)])
    rw [if_neg waits, reload]
    by_cases skips : (s.node g (s.point i).node).skips = true
    · rw [if_pos skips, if_pos (.inr skips)]
    · rw [if_neg skips, if_neg (not_or.mpr ⟨waits, skips⟩)]

theorem visitFunc_pending {i : PointIdx} (write : s.visitFunc g i = some .write) :
    (s.point i).slot.isSome = true := by
  unfold State.visitFunc at write
  split at write
  · cases write
  · exact pollFunc_pending write

/-- The state after a visit. -/
theorem proceeds_visit {i : PointIdx} (listed : i ∈ (s.sched g).list) : Proceeds g s (s.visit g i).1 := by
  rw [visit_eq]
  refine (proceeds_modSched (f := fun c => { c with cursor := successor c.list i }) s ⟨rfl, rfl, rfl, .inl rfl⟩
    rfl).trans ?_
  refine ⟨decides_modPoint _ i fun _ => rfl, .inl rfl, rfl, fun j => ?_, fun j => .inl ?_, fun j out => ?_,
    fun j out _ => ?_⟩
  · rw [point_modPoint]
    split
    · next same => rw [same]; rfl
    · rfl
  · rw [point_modPoint]
    split
    · next same => rw [same]; exact ⟨rfl, rfl⟩
    · exact ⟨rfl, rfl⟩
  · rw [point_modPoint_ne]
    rintro rfl
    exact out (by rw [sched_modSched_same]; exact listed)
  · rw [point_modPoint_ne]
    rintro rfl
    exact out (by rw [sched_modSched_same]; exact listed)

theorem link_visit (s : State) (g : Seg) (i : PointIdx) : (s.visit g i).1.link g = s.link g := by
  rw [visit_eq, link_modPoint, link_modSched]

theorem visitAll_grants {i : PointIdx} {f : Func} (needs : s.visitFunc g i = some f) (e : Env)
    (is : List PointIdx) : State.visitAll g e (i :: is) s = ((s.visit g i).1.grantScan g i f e, true) := by
  rw [State.visitAll, visit_eq, needs]

theorem visitAll_passes_one {i : PointIdx} (passes : s.visitFunc g i = none) (e : Env) (is : List PointIdx) :
    State.visitAll g e (i :: is) s = State.visitAll g e is (s.visit g i).1 := by
  rw [State.visitAll, visit_eq, passes]

/-- Visits in turn; where none needs an exchange, the link and the cycle exchange mark stay. -/
theorem proceeds_visitAll (e : Env) (is : List PointIdx) (ready : (s.link g).state = .ready)
    (listed : ∀ i ∈ is, i ∈ (s.sched g).list) :
    Proceeds g s (State.visitAll g e is s).1 ∧ ((State.visitAll g e is s).2 = false →
      (State.visitAll g e is s).1.link g = s.link g ∧
        ((State.visitAll g e is s).1.sched g).cycleMark = (s.sched g).cycleMark) := by
  induction is generalizing s with
  | nil => exact ⟨.refl g s, fun _ => ⟨rfl, rfl⟩⟩
  | cons i is ih =>
    have visited := proceeds_visit (listed i List.mem_cons_self)
    have ready' : ((s.visit g i).1.link g).state = .ready := by rw [link_visit, ready]
    have later (j : PointIdx) (hj : j ∈ i :: is) : j ∈ ((s.visit g i).1.sched g).list :=
      visited.sched.list ▸ listed j hj
    cases needs : s.visitFunc g i with
    | some f =>
      rw [visitAll_grants needs]
      refine ⟨visited.trans (proceeds_grantScan ready' (later i List.mem_cons_self) ?_ e), nofun⟩
      rintro rfl
      have pending : (s.point i).slot.isSome = true := visitFunc_pending needs
      rw [visit_eq, point_modPoint_same]
      exact pending
    | none =>
      rw [visitAll_passes_one needs]
      obtain ⟨proceeds, quiet⟩ := ih ready' fun j hj => later j (List.mem_cons_of_mem i hj)
      refine ⟨visited.trans proceeds, fun none => ?_⟩
      obtain ⟨link, mark⟩ := quiet none
      exact ⟨link.trans (link_visit s g i), mark.trans (by rw [visit_eq, sched_modPoint, sched_modSched_same])⟩

theorem proceeds_visitOn (e : Env) (ready : (s.link g).state = .ready) :
    Proceeds g s (s.visitOn g e).1 ∧ ((s.visitOn g e).2 = false → (s.visitOn g e).1.link g = s.link g ∧
      ((s.visitOn g e).1.sched g).cycleMark = (s.sched g).cycleMark) :=
  proceeds_visitAll e _ ready fun _ => mem_of_remaining

theorem proceeds_walk (e : Env) (ready : (s.link g).state = .ready) :
    Proceeds g s (s.walk g e).1 ∧ ((s.walk g e).2 = false → ((s.walk g e).1.link g).state = .ready) := by
  obtain ⟨visited, quiet⟩ := proceeds_visitOn e ready
  unfold State.walk
  dsimp only
  split
  · next granted => exact ⟨visited, fun none => absurd granted (by rw [none]; nofun)⟩
  · next none =>
    have completed := cycles_complete (g := g) (s.visitOn g e).1
    have ready' : (((s.visitOn g e).1.complete g).link g).state = .ready := by
      rw [completed.link, (quiet (eq_false_of_ne_true none)).1, ready]
    have so_far := visited.trans completed.proceeds
    split
    · obtain ⟨again, quiet⟩ := proceeds_visitOn e ready'
      split
      · next granted => exact ⟨so_far.trans again, fun none => absurd granted (by rw [none]; nofun)⟩
      · next none =>
        refine ⟨so_far.trans (again.trans (cycles_complete _).proceeds), fun _ => ?_⟩
        rw [(cycles_complete (g := g) _).link, (quiet (eq_false_of_ne_true none)).1, ready']
    · exact ⟨so_far, fun _ => ready'⟩

theorem proceeds_arbitrate (g : Seg) (s : State) (e : Env) : Proceeds g s (s.arbitrate g e) := by
  by_cases ready : (s.link g).state = .ready
  · obtain ⟨walked, quiet⟩ := proceeds_walk e ready
    unfold State.arbitrate
    rw [if_pos ready]
    dsimp only
    split
    · exact proceeds_grantHead ready e
    · split
      · split
        · exact walked
        · next none => exact walked.trans (proceeds_grantHead (quiet (eq_false_of_ne_true none)) e)
      · exact proceeds_grantHead ready e
  · rw [arbitrate_of_not_ready ready]
    exact .refl g s

end

end Sys2Proof.Machine
end

section
/-! PROOF. The walk (R77, R98 Case B, R126): it passes over the points that need no exchange, and grants to the first
that needs one or completes the cycle behind the last. -/

namespace Sys2Proof.Machine

/-! ### Lists and the cursor -/

theorem successor_append {l : List PointIdx} {i : PointIdx} (m : List PointIdx) (new : i ∉ l) :
    successor (l ++ i :: m) i = m.head? := by
  induction l with
  | nil => exact if_pos rfl
  | cons x l ih =>
    rw [List.cons_append, successor, if_neg fun same : x = i => new (same ▸ List.mem_cons_self),
      ih fun inside => new (List.mem_cons_of_mem x inside)]

theorem remaining_append {l : List PointIdx} {i : PointIdx} (m : List PointIdx) (new : i ∉ l) :
    remaining (l ++ i :: m) (some i) = i :: m := by
  have passed : l.dropWhile (fun x => decide (x ≠ i)) = [] :=
    List.dropWhile_eq_nil_iff.mpr fun x hx => decide_eq_true fun same => new (same ▸ hx)
  rw [remaining, List.dropWhile_append, passed]
  exact List.dropWhile_cons_of_neg (p := fun x => decide (x ≠ i)) (by simp)

theorem remaining_cursor {c : Scheduler} {before rest : List PointIdx} (once : c.list.Nodup)
    (list : c.list = before ++ rest) (cursor : c.cursor = rest.head?) : remaining c.list c.cursor = rest := by
  rw [list] at once
  rw [cursor, list]
  cases rest with
  | nil => rfl
  | cons i m => exact remaining_append m fun inside => (List.nodup_append'.mp once).2.2 inside List.mem_cons_self

/-! ### What a visit needs -/

theorem skips_iff (n : NodeRec) : n.skips = true ↔ n.state = .lost ∧ n.probe = true := by
  rw [NodeRec.skips, Bool.and_eq_true, decide_eq_true_eq]

theorem pollFunc_eq_iff (t : Point) (f : Option Func) : t.pollFunc = f ↔
    f = some .read ∧ t.kind = .input ∨ f = some .write ∧ t.kind = .output ∧ t.slot ≠ none ∨
      f = some .read ∧ t.kind = .output ∧ t.slot = none ∧ t.verify = true ∨
      f = none ∧ t.kind = .output ∧ t.slot = none ∧ t.verify = false := by
  rw [eq_comm]
  unfold Point.pollFunc
  cases t.kind with
  | input => simp
  | output =>
    cases t.slot with
    | some v => simp
    | none => cases t.verify <;> simp

theorem visitNeeds_iff (s : State) (g : Seg) (i : PointIdx) (f : Option Func) :
    s.visitNeeds g i f ↔ s.visitFunc g i = f := by
  unfold State.visitNeeds State.visitFunc
  rw [← skips_iff]
  by_cases waits : (s.point i).phase ≠ 0 ∨ (s.node g (s.point i).node).skips = true
  · rw [if_pos waits]
    constructor
    · rintro (⟨rfl, -⟩ | ⟨zero, probe, -⟩)
      · rfl
      · exact absurd waits (not_or.mpr ⟨not_not_intro zero, probe⟩)
    · rintro rfl
      exact .inl ⟨rfl, waits.imp_right .inl⟩
  · rw [if_neg waits, pollFunc_eq_iff]
    obtain ⟨zero, probe⟩ := not_or.mp waits
    have zero := not_not.mp zero
    constructor
    · rintro (⟨rfl, phase | skips | plain⟩ | ⟨-, -, input | write | read⟩)
      · exact absurd zero phase
      · exact absurd skips probe
      · exact .inr (.inr (.inr ⟨rfl, plain⟩))
      · exact .inl input
      · exact .inr (.inl write)
      · exact .inr (.inr (.inl read))
    · rintro (input | write | read | ⟨rfl, plain⟩)
      · exact .inr ⟨zero, probe, .inl input⟩
      · exact .inr ⟨zero, probe, .inr (.inl write)⟩
      · exact .inr ⟨zero, probe, .inr (.inr read)⟩
      · exact .inl ⟨rfl, .inr (.inr plain)⟩

/-! ### Points passed over -/

section
variable {s : State} {g : Seg}

/-- The walk has visited some points and granted nothing: the cursor is moved, and only those points' phases are
counted. -/
structure PassedOver (s : State) (g : Seg) (passed : List PointIdx) (cursor : Option PointIdx) (u : State) : Prop where
  whole : u = { s.modSched g fun c => { c with cursor := cursor } with points := u.points }
  visited : ∀ j ∈ passed, u.point j = (s.point j).visited
  others : ∀ j, j ∉ passed → u.point j = s.point j

section
variable {passed : List PointIdx} {cursor : Option PointIdx} {u : State} (h : PassedOver s g passed cursor u)
include h

theorem PassedOver.sched : u.sched g = { s.sched g with cursor := cursor } := by
  rw [h.whole]
  exact sched_modSched_same s g fun c => { c with cursor := cursor }

theorem PassedOver.link : u.link g = s.link g := by
  rw [h.whole]
  exact link_modSched s g (fun c => { c with cursor := cursor }) g

theorem PassedOver.node (n : NodeIdx) : u.node g n = s.node g n := by
  rw [h.whole]
  exact node_modSched s g (fun c => { c with cursor := cursor }) g n

end

theorem passedOver_nil : PassedOver s g [] (s.sched g).cursor s :=
  ⟨by rw [modSched_self (f := fun c => { c with cursor := (s.sched g).cursor }) rfl], nofun, fun _ _ => rfl⟩

theorem PassedOver.cons {passed : List PointIdx} {cursor : Option PointIdx} {u : State} {i : PointIdx}
    (new : i ∉ passed) (h : PassedOver (s.visit g i).1 g passed cursor u) :
    PassedOver s g (i :: passed) cursor u := by
  have visit := congrArg Prod.fst (visit_eq s g i)
  refine ⟨?_, fun j hj => ?_, fun j hj => ?_⟩
  · have merged := modSched_modSched s g (fun c => { c with cursor := successor c.list i })
      fun c => { c with cursor := cursor }
    have whole := h.whole
    rw [visit] at whole
    exact whole.trans (congrArg (fun t : State => { t with points := u.points }) merged)
  · by_cases same : j = i
    · subst same
      rw [h.others j new, visit, point_modPoint_same, point_modSched]
    · rw [h.visited j ((List.mem_cons.mp hj).resolve_left same), visit, point_modPoint_ne _ _ same, point_modSched]
  · rw [h.others j fun inside => hj (List.mem_cons_of_mem i inside), visit,
      point_modPoint_ne _ _ fun same : j = i => hj (same ▸ List.mem_cons_self), point_modSched]

theorem visitFunc_visit_ne {i j : PointIdx} (other : j ≠ i) : (s.visit g i).1.visitFunc g j = s.visitFunc g j := by
  have visit := congrArg Prod.fst (visit_eq s g i)
  rw [State.visitFunc, State.visitFunc, visit, point_modPoint_ne _ _ other, point_modSched, node_modPoint, node_modSched]

/-- Visits pass over points that need no exchange. -/
theorem visitAll_passes (passed tail : List PointIdx) {before : List PointIdx} (once : (s.sched g).list.Nodup)
    (list : (s.sched g).list = before ++ (passed ++ tail)) (cursor : (s.sched g).cursor = (passed ++ tail).head?)
    (needless : ∀ j ∈ passed, s.visitFunc g j = none) (e : Env) :
    ∃ u, State.visitAll g e (passed ++ tail) s = State.visitAll g e tail u ∧
      PassedOver s g passed tail.head? u ∧ ∀ j ∈ tail, u.visitFunc g j = s.visitFunc g j := by
  induction passed generalizing s before with
  | nil =>
    exact ⟨s, rfl, cursor ▸ passedOver_nil, fun _ _ => rfl⟩
  | cons i passed ih =>
    have split := once
    rw [list] at split
    obtain ⟨-, later, apart⟩ := List.nodup_append'.mp split
    have new : i ∉ passed ++ tail := (List.nodup_cons.mp later).1
    have sched : (s.visit g i).1.sched g = { s.sched g with cursor := (passed ++ tail).head? } := by
      have behind : successor (s.sched g).list i = (passed ++ tail).head? := by
        rw [list, List.cons_append, successor_append _ fun inside => apart inside List.mem_cons_self]
      rw [visit_eq, sched_modPoint, sched_modSched_same, behind]
    obtain ⟨u, visits, moved, same⟩ := ih (s := (s.visit g i).1) (before := before ++ [i]) (by rw [sched]; exact once)
      (by rw [sched, List.append_assoc]; exact list) (by rw [sched])
      fun j hj => (visitFunc_visit_ne fun at_i : j = i => new (at_i ▸ List.mem_append_left tail hj)).trans
        (needless j (List.mem_cons_of_mem i hj))
    refine ⟨u, ?_, moved.cons fun inside => new (List.mem_append_left tail inside), fun j hj => (same j hj).trans
      (visitFunc_visit_ne fun at_i : j = i => new (at_i ▸ List.mem_append_right passed hj))⟩
    rw [List.cons_append, visitAll_passes_one (needless i List.mem_cons_self), visits]

/-- What a scan grant leaves (R78, R98, R126). -/
structure ScanGranted (w : State) (g : Seg) (i : PointIdx) (f : Func) (idle : Bool) (t : State) : Prop where
  link : t.link g = (w.link g).sending ((w.point i).granted i f .scan) idle
  sched : t.sched g = { w.sched g with cycleMark := true, backToBack := 0 }
  point : ∀ j, t.point j =
    if j = i ∧ f = .write then { w.point i with inFlight := (w.point i).slot, slot := none } else w.point j
  node : ∀ n, t.node g n = if n = (w.point i).node then { w.node g n with probe := true } else w.node g n

theorem scanGranted (w : State) (g : Seg) (i : PointIdx) (f : Func) (e : Env) :
    ScanGranted w g i f (e.idle.get g) (w.grantScan g i f e) := by
  rw [State.grantScan]
  refine ⟨?_, ?_, fun j => ?_, fun n => ?_⟩
  · rw [link_grant, link_modNode, link_modSched, point_modNode, point_modSched]
  · rw [sched_grant, sched_modNode, sched_modSched_same]
  · rw [point_grant, point_modNode, point_modSched, point_modNode, point_modSched]
  · rw [node_grant, node_modNode, node_modSched]
    exact if_congr ⟨fun at_n => at_n.2, fun same => ⟨rfl, same⟩⟩ rfl rfl

/-! ### The decision behind a completed cycle -/

theorem not_inCycle_completeOnce (s : State) (g : Seg) : ((s.completeOnce g).1.sched g).scan.inCycle = false := by
  by_cases ends : (s.sched g).reached (s.sched g).counted = true ∨ (s.sched g).scan = .finishing
  · rw [completeOnce_ends ends, endScan_modSched, (raiseSeg_noticesOnly _ g _).sched, sched_modSched_same]
    rfl
  · obtain ⟨goes, running⟩ := not_or.mp ends
    rw [completeOnce_waits goes running, sched_modSched_same]
    rfl

/-- A cycle that runs behind a completion is a new one, without an exchange yet. -/
theorem unmarked_complete (cycle : ((s.complete g).sched g).scan.inCycle = true) :
    ((s.complete g).sched g).cycleMark = false := by
  unfold State.complete at cycle ⊢
  dsimp only at cycle ⊢
  split at cycle
  · next again =>
    rw [if_pos again]
    unfold State.startCycle at cycle ⊢
    dsimp only at cycle ⊢
    split at cycle
    · rw [not_inCycle_completeOnce] at cycle
      cases cycle
    · next filled => rw [if_neg filled, sched_beginCycle]
  · rw [not_inCycle_completeOnce] at cycle
    cases cycle

/-- A cycle without an exchange is not followed by a start in its completion (R81). -/
theorem not_inCycle_complete_unmarked (unmarked : (s.sched g).cycleMark = false) :
    ((s.complete g).sched g).scan.inCycle = false := by
  have waits : (s.completeOnce g).2 = false := by
    unfold State.completeOnce
    dsimp only
    split
    · rfl
    · rw [unmarked]
      exact Bool.and_false _
  have once : s.complete g = (s.completeOnce g).1 := if_neg (by rw [waits]; nofun)
  rw [once, not_inCycle_completeOnce]

theorem walk_granted {e : Env} (granted : (s.visitOn g e).2 = true) : s.walk g e = s.visitOn g e := if_pos granted

theorem walk_past {u : State} {e : Env} (visits : s.visitOn g e = (u, false)) : s.walk g e =
    if ((u.complete g).sched g).walks then
      (if ((u.complete g).visitOn g e).2 then (u.complete g).visitOn g e
        else (((u.complete g).visitOn g e).1.complete g, false))
    else (u.complete g, false) := by
  rw [State.walk, visits]
  rfl

/-- A walk that passes over every point from the cursor on: the cycle completes, and the decision goes on. A cycle that
starts then is walked once; it is not followed by another, as it has no exchange. -/
theorem arbitrate_past {u : State} {e : Env} (ready : (s.link g).state = .ready)
    (walks : (s.sched g).walks = true)
    (spent : (s.sched g).queue = [] ∨ (s.sched g).cfg.share ≤ (s.sched g).backToBack)
    (link : u.link g = s.link g) (queue : (u.sched g).queue = (s.sched g).queue)
    (cfg : (u.sched g).cfg = (s.sched g).cfg) (backToBack : (u.sched g).backToBack = (s.sched g).backToBack)
    (visits : s.visitOn g e = (u, false)) : s.arbitrate g e = (u.complete g).arbitrate g e := by
  have completed := cycles_complete (g := g) u
  have ready' : ((u.complete g).link g).state = .ready := by rw [completed.link, link, ready]
  rw [arbitrate_walk ready walks spent, walk_past visits]
  by_cases again : ((u.complete g).sched g).walks = true
  · have spent' : ((u.complete g).sched g).queue = [] ∨
        ((u.complete g).sched g).cfg.share ≤ ((u.complete g).sched g).backToBack := by
      rw [completed.queue, completed.sched.cfg, completed.backToBack, queue, cfg, backToBack]
      exact spent
    rw [if_pos again, arbitrate_walk ready' again spent']
    obtain ⟨-, quiet⟩ := proceeds_visitOn e ready'
    cases granted : ((u.complete g).visitOn g e).2 with
    | true => simp only [walk_granted granted, granted, if_true]
    | false =>
      have cycle : ((u.complete g).sched g).scan.inCycle = true := (Bool.and_eq_true_iff.mp again).1
      have waits : ((((u.complete g).visitOn g e).1.complete g).sched g).walks = false :=
        (walks_eq_false_iff _).mpr (.inl (not_inCycle_complete_unmarked
          ((quiet granted).2.trans (unmarked_complete cycle))))
      have second : (u.complete g).walk g e = (((u.complete g).visitOn g e).1.complete g, false) :=
        (walk_past (Prod.ext rfl granted)).trans (if_neg (by rw [waits]; nofun))
      simp only [second, Bool.false_eq_true, if_false]
  · rw [if_neg again, arbitrate_demand ready' (.inr (eq_false_of_ne_true again))]
    rfl

end

end Sys2Proof.Machine

namespace Sys2Proof
open Machine

/-- Settles O34: the walk passes over the points that need nothing; what it grants is the visited point's exchange. -/
theorem scanWalk : Obligations.ScanWalk := by
  constructor
  · rintro s g e _ before passed rest i f rfl ready cycle spent once list cursor needless needs
    rw [List.append_assoc] at list
    have walks : (s.sched g).walks = true := by
      rw [Scheduler.walks, cycle, cursor]
      cases passed <;> rfl
    have cursor' : (s.sched g).cursor = (passed ++ i :: rest).head? := cursor.trans (by cases passed <;> rfl)
    obtain ⟨u, visits, moved, same⟩ := visitAll_passes passed (i :: rest) once list cursor'
      (fun j hj => (visitNeeds_iff s g j none).mp (needless j hj)) e
    have need : u.visitFunc g i = some f := (same i List.mem_cons_self).trans ((visitNeeds_iff s g i _).mp needs)
    have walked : s.visitOn g e = ((u.visit g i).1.grantScan g i f e, true) := by
      rw [State.visitOn, remaining_cursor once list cursor', visits, visitAll_grants need]
    have outside : i ∉ passed := by
      rw [list] at once
      exact fun inside => (List.nodup_append'.mp (List.nodup_append'.mp once).2.1).2.2 inside List.mem_cons_self
    have granted := scanGranted (u.visit g i).1 g i f e
    have record : (u.visit g i).1.point i = (s.point i).visited := by
      rw [visit_eq, point_modPoint_same, point_modSched, moved.others i outside]
    have other {j : PointIdx} (away : j ≠ i) : (u.visit g i).1.point j = u.point j := by
      rw [visit_eq, point_modPoint_ne _ _ away, point_modSched]
    have sched : (u.visit g i).1.sched g = { s.sched g with cursor := rest.head? } := by
      rw [visit_eq, sched_modPoint, sched_modSched_same, moved.sched]
      have behind : successor (s.sched g).list i = rest.head? := by
        rw [list, ← List.append_assoc]
        rw [list, ← List.append_assoc] at once
        exact successor_append rest fun inside => (List.nodup_append'.mp once).2.2 inside List.mem_cons_self
      rw [behind]
    have node (n : NodeIdx) : (u.visit g i).1.node g n = s.node g n := by
      rw [visit_eq, node_modPoint, node_modSched, moved.node]
    have decided : s.arbitrate g e = (u.visit g i).1.grantScan g i f e := by
      rw [arbitrate_walk ready walks spent, walk_granted (by rw [walked]), walked]
      rfl
    refine ⟨_, ((s.point i).visited).granted i f .scan, decided, ?_, ?_, ?_, ?_, fun j hj => ?_, ?_, ?_,
      fun j out away => ?_, ?_, fun n elsewhere => ?_⟩
    · rw [granted.link, record]
      rfl
    · cases f <;> rfl
    · rw [granted.link]
      rfl
    · rw [granted.sched, sched]
    · have away : j ≠ i := fun same => outside (same ▸ hj)
      rw [granted.point, if_neg fun both => away both.1, other away, moved.visited j hj]
    · rintro rfl
      rw [granted.point, if_neg nofun, record]
    · rintro rfl
      rw [granted.point, if_pos ⟨rfl, rfl⟩, record]
      rfl
    · rw [granted.point, if_neg fun both => away both.1, other away, moved.others j out]
    · rw [granted.node, node, record]
      exact if_pos rfl
    · rw [granted.node, node, record]
      exact if_neg elsewhere
  · rintro s g e _ before passed rfl ready cycle spent once list filled cursor needless
    have list' : (s.sched g).list = before ++ (passed ++ []) := by rw [list, List.append_nil]
    have cursor' : (s.sched g).cursor = (passed ++ []).head? := by rw [cursor, List.append_nil]
    have walks : (s.sched g).walks = true := by
      rw [Scheduler.walks, cycle, cursor]
      cases passed with
      | nil => exact absurd rfl filled
      | cons => rfl
    obtain ⟨u, visits, moved, -⟩ := visitAll_passes passed [] once list' cursor'
      (fun j hj => (visitNeeds_iff s g j none).mp (needless j hj)) e
    have walked : s.visitOn g e = (u, false) := by
      rw [State.visitOn, remaining_cursor once list' cursor', visits]
      rfl
    refine ⟨u, arbitrate_past ready walks spent moved.link ?_ ?_ ?_ walked, moved.whole, moved.visited, moved.others⟩
    · rw [moved.sched]
    · rw [moved.sched]
    · rw [moved.sched]

end Sys2Proof
end

section
/-! PROOF. Trigger events (R99 to R102): the code of each segment, and what the segments' turns leave in their order. -/

namespace Sys2Proof.Machine

/-! ### Segments in turn -/

section
variable {step : State → Seg → State} {s : State} {g : Seg}

/-- A turn of each of some segments leaves every other segment's Scheduler and link. -/
theorem foldl_apart (apart : ∀ u h, Touches noSeg (onlySeg h) (onlySeg h) u (step u h)) (l : List Seg) (out : g ∉ l)
    (s : State) : (l.foldl step s).sched g = s.sched g ∧ (l.foldl step s).link g = s.link g := by
  induction l generalizing s with
  | nil => exact ⟨rfl, rfl⟩
  | cons h l ih =>
    obtain ⟨sched, link⟩ := ih (fun inside => out (List.mem_cons_of_mem h inside)) (step s h)
    have other : g ≠ h := fun same => out (same ▸ List.mem_cons_self)
    exact ⟨sched.trans ((apart s h).sched g other), link.trans ((apart s h).link g other)⟩

/-- What the turns leave of one segment is what its own turn leaves, from the Scheduler and link it had before all. -/
theorem foldl_own (apart : ∀ u h, Touches noSeg (onlySeg h) (onlySeg h) u (step u h)) (l : List Seg) (once : l.Nodup)
    (member : g ∈ l) (s : State) : ∃ u, u.sched g = s.sched g ∧ u.link g = s.link g ∧
      (l.foldl step s).sched g = (step u g).sched g ∧ (l.foldl step s).link g = (step u g).link g := by
  induction l generalizing s with
  | nil => cases member
  | cons h l ih =>
    obtain ⟨new, once⟩ := List.nodup_cons.mp once
    by_cases own : g = h
    · subst own
      obtain ⟨sched, link⟩ := foldl_apart apart l new (step s g)
      exact ⟨s, rfl, rfl, sched, link⟩
    · obtain ⟨u, sched, link, after⟩ := ih once ((List.mem_cons.mp member).resolve_left own) (step s h)
      exact ⟨u, sched.trans ((apart s h).sched g own), link.trans ((apart s h).link g own), after⟩

theorem touches_foldl_seg (apart : ∀ u h, Touches noSeg (onlySeg h) (onlySeg h) u (step u h)) (l : List Seg)
    (s : State) : Touches noSeg anySeg anySeg s (l.foldl step s) := by
  induction l generalizing s with
  | nil => exact .refl _ _ _ s
  | cons h l ih => exact ((apart s h).mono (fun _ => id) (fun _ _ => trivial) fun _ _ => trivial).trans (ih (step s h))

end

theorem mem_all (g : Seg) : g ∈ Seg.all := by cases g <;> decide

theorem nodup_all : Seg.all.Nodup := by decide

/-! ### The codes (R99) -/

def Scheduler.triggerCode (c : Scheduler) (v : Nat) : Nat :=
  if c.cfg.mode = .triggered ∧ (v = 0 ∨ v = c.cfg.trigger) then
    (match c.scan with
     | .waiting => 1
     | .running => 2
     | .finishing => 2
     | _ => 3)
  else 0

/-- A segment's turn in a trigger event, by its code. -/
def State.triggerStep (code : Seg → Nat) (e : Env) (u : State) (g : Seg) : State :=
  if code g = 1 then (u.startCycle g).arbitrate g e else if code g = 2 then u.overrun g e else u

section
variable {s u : State} {g : Seg} {code : Seg → Nat} {v : Fin 16}

theorem triggerAt_eq (same : (u.sched g).triggerCode v.val = code g) (e : Env) :
    u.triggerAt g v e = (State.triggerStep code e u g, code g) := by
  unfold State.triggerStep
  rw [← same]
  unfold State.triggerAt Scheduler.triggerCode
  by_cases hit : (u.sched g).cfg.triggeredBy v = true
  · rw [if_pos hit, if_pos ((triggeredBy_iff _ v).mp hit)]
    cases (u.sched g).scan <;> rfl
  · rw [if_neg hit, if_neg fun both => hit ((triggeredBy_iff _ v).mpr both)]
    rfl

theorem touches_triggerStep (code : Seg → Nat) (e : Env) (u : State) (g : Seg) :
    Touches noSeg (onlySeg g) (onlySeg g) u (State.triggerStep code e u g) := by
  unfold State.triggerStep
  split
  · exact (touches_startCycle (onlySeg_self g) u).trans (touches_arbitrate (onlySeg_self g) (onlySeg_self g) _ e)
  · split
    · exact touches_overrun (onlySeg_self g) (onlySeg_self g) u e
    · exact .refl _ _ _ u

/-- The codes are those of the segments as the event finds them: a turn changes no other segment's. -/
theorem trigger_eq (codes : ∀ g, code g = (s.sched g).triggerCode v.val) (e : Env) : s.trigger v e =
    (Seg.all.foldl (State.triggerStep code e) s, [code .s0, code .s1, code .s2, code .s3]) := by
  have turn (l : List Seg) (g : Seg) (out : g ∉ l) :
      (l.foldl (State.triggerStep code e) s).triggerAt g v e =
        (State.triggerStep code e (l.foldl (State.triggerStep code e) s) g, code g) :=
    triggerAt_eq (by rw [(foldl_apart (touches_triggerStep code e) l out s).1, codes]) e
  have r0 := turn [] .s0 (by decide)
  have r1 := turn [.s0] .s1 (by decide)
  have r2 := turn [.s0, .s1] .s2 (by decide)
  have r3 := turn [.s0, .s1, .s2] .s3 (by decide)
  simp only [List.foldl_cons, List.foldl_nil] at r0 r1 r2 r3
  unfold State.trigger
  simp only [r0, r1, r2, r3]
  rfl

/-! ### One segment after a trigger event -/

theorem triggerStep_of_idle (idle : code g = 0 ∨ code g = 3) (e : Env) (u : State) :
    State.triggerStep code e u g = u := by
  unfold State.triggerStep
  rcases idle with zero | three
  · rw [zero]
    rfl
  · rw [three]
    rfl

/-- A start on a filled list that finds no READY link (R81). -/
theorem sched_triggerStep_start (one : code g = 1) (filled : (u.sched g).list ≠ [])
    (busy : (u.link g).state ≠ .ready) (e : Env) : (State.triggerStep code e u g).sched g =
      { u.sched g with
        scan := .running, cursor := (u.sched g).list.head?, cycleMark := false, deferred := false } := by
  have began := cycles_beginCycle (g := g) u
  rw [State.triggerStep, if_pos one, startCycle_filled filled,
    arbitrate_of_not_ready (by rw [began.link]; exact busy), sched_beginCycle]

theorem overruns_overrun (u : State) (g : Seg) (e : Env) :
    ((u.overrun g e).sched g).overruns = min ((u.sched g).overruns + 1) 255 := by
  have told : ((((u.modSched g fun c => { c with overruns := min (c.overruns + 1) 255 }).raiseSeg g .overrun).tally g
      [.overruns] none).sched g).overruns = min ((u.sched g).overruns + 1) 255 := by
    rw [sched_tally, (raiseSeg_noticesOnly _ g _).sched, sched_modSched_same]
  rw [overrun_eq]
  dsimp only
  split
  · split
    · rw [sched_modSched_same]
      exact told
    · rw [(proceeds_arbitrate g _ e).sched.overruns, (cycles_applyCut _).sched.overruns, told]
  · exact told

theorem overruns_triggerStep (two : code g = 2) (e : Env) (u : State) :
    ((State.triggerStep code e u g).sched g).overruns = min ((u.sched g).overruns + 1) 255 := by
  rw [State.triggerStep, if_neg (by rw [two]; nofun), if_pos two, overruns_overrun]

/-! ### FIRE_TRIGGER and the edges of an input -/

theorem fireTrigger_eq {p : Port} {ps : List Byte} (length : ps.length = 1) (value : groupOf (arg ps 0) = some v)
    (holds : s.hasDevice p .scan = true) (e : Env) :
    fireTrigger p ps e s = accept (s.trigger v e).1 ((s.trigger v e).2.map byteOf) := by
  rw [fireTrigger, value]
  exact (if_neg (not_not_intro length)).trans (if_neg (by rw [holds]; nofun))

theorem exec_triggerInputEdge (awake : s.inReset = false) (i : Trg) (level : Bool) (e : Env) :
    exec (.triggerInputEdge i level e) s =
      .next (if (s.trigs.get i).level = level then s else s.edge i level e) :=
  event_takes (body := fun s => if (s.trigs.get i).level = level then s else s.edge i level e) awake

theorem edge_of_active {i : Trg} {level : Bool} (active : level ≠ (s.trigs.get i).falling)
    (value : (s.trigs.get i).value = some v) (e : Env) : s.edge i level e =
      ((s.modTrg i fun t => { t with
        level := level, held := decide (level ≠ (s.trigs.get i).falling) && t.levelModel }).trigger v e).1 := by
  unfold State.edge
  dsimp only
  rw [if_pos (decide_eq_true active), value]

theorem edge_of_silent {i : Trg} {level : Bool}
    (silent : level = (s.trigs.get i).falling ∨ (s.trigs.get i).value = none) (e : Env) : s.edge i level e =
      s.modTrg i fun t => { t with
        level := level, held := decide (level ≠ (s.trigs.get i).falling) && t.levelModel } := by
  unfold State.edge
  dsimp only
  by_cases active : level ≠ (s.trigs.get i).falling
  · rw [if_pos (decide_eq_true active), silent.resolve_left active]
  · exact if_neg fun yes => active (of_decide_eq_true yes)

end

end Sys2Proof.Machine

namespace Sys2Proof
open Machine

/-- Settles O30: each segment's turn is decided by the code it has when the event arrives. -/
theorem triggers : Obligations.Triggers := by
  refine ⟨?_, ?_, fun s v e code codes => congrArg Prod.fst (trigger_eq codes e)⟩
  · rintro s p tag ps e _ code hears holds length rfl inside codes
    have takes : Takes s p ps := ⟨hears, by rw [length]; decide⟩
    have value : groupOf (arg ps 0) = some ⟨arg ps 0, Nat.lt_succ_of_le inside⟩ := (groupOf_eq_some_iff _ _).mpr rfl
    have fired := trigger_eq (s := s.acceptFrame p) (code := code) (v := ⟨arg ps 0, Nat.lt_succ_of_le inside⟩)
      (fun g => by rw [sched_acceptFrame]; exact codes g) e
    have apart := touches_triggerStep code e
    have whole := touches_foldl_seg apart Seg.all (s.acceptFrame p)
    have own (g : Seg) := foldl_own apart Seg.all nodup_all (mem_all g) (s.acceptFrame p)
    simp only [sched_acceptFrame, link_acceptFrame] at own
    refine ⟨Seg.all.foldl (State.triggerStep code e) (s.acceptFrame p), command_answers takes ?_, rfl, ?_, ?_, ?_, ?_,
      ?_⟩
    · rw [fireTrigger_eq length value (by rw [hasDevice_acceptFrame, holds]), fired]
      rfl
    · intro g one filled busy
      obtain ⟨u, sched, link, after, -⟩ := own g
      rw [after, sched_triggerStep_start one (by rwa [sched]) (by rwa [link]), sched]
    · exact whole.trigs.trans (trigs_acceptFrame s p)
    · exact fun g => (whole.feed g id).trans (feed_acceptFrame s p g)
    · intro g idle
      obtain ⟨u, sched, link, sched', link'⟩ := own g
      rw [sched', link', triggerStep_of_idle idle]
      exact ⟨sched, link⟩
    · intro g two
      obtain ⟨u, sched, -, after, -⟩ := own g
      rw [after, overruns_triggerStep two, sched]
  · rintro s _ i level e awake rfl
    rw [exec_triggerInputEdge awake]
    refine ⟨fun same => congrArg _ (if_pos same), fun moved => ?_⟩
    rw [if_neg moved]
    exact ⟨fun silent => congrArg _ (edge_of_silent silent e), fun v active value =>
      congrArg _ (edge_of_active active value e)⟩

end Sys2Proof
end

section
/-! PROOF. The lapse of a port's supervision (R57, R70, R97, R169, R170): the safe values in ascending index order, the
demand entries that join while there is room, and the arbiters that decide on them. -/

namespace Sys2Proof.Machine

/-! ### Writers -/

theorem get_writerPorts (w : Writer) (q : Port) : (writerPorts w).get q = true ↔ w = .port q := by
  cases w with
  | port p => cases p <;> cases q <;> decide
  | safe => cases q <;> decide
  | reassert => cases q <;> decide

/-! ### One placed value (R56, R70) -/

section
variable {s : State} {i : PointIdx} {f : Slot}

theorem point_placeValue (s : State) (i : PointIdx) (f : Slot) (j : PointIdx) :
    (s.placeValue i f).point j = if j = i then { s.point i with slot := some f } else s.point j := by
  rw [placeValue_eq]
  cases (s.point i).slot with
  | none => exact point_modPoint s i j _
  | some old => exact ((raisePoint_noticesOnly _ i _ _).point j).trans (point_modPoint s i j _)

theorem seg_placeValue (s : State) (i : PointIdx) (f : Slot) (g : Seg) : (s.placeValue i f).seg g = s.seg g := by
  rw [placeValue_eq]
  cases (s.point i).slot with
  | none => rfl
  | some old => exact (raisePoint_noticesOnly _ i _ _).seg g

theorem notes_placeValue (s : State) (i : PointIdx) (f : Slot) (q : Port) (j : PointIdx) :
    (s.placeValue i f).noteOf q j =
      if j = i ∧ ∃ old, (s.point i).slot = some old ∧ old.writer = .port q then
        { s.noteOf q j with write := some (.superseded, .port q) }
      else s.noteOf q j := by
  have stored : (s.modPoint i fun t => { t with slot := some f }).noteOf q j = s.noteOf q j :=
    noteOf_congr rfl (by
      rw [point_modPoint]
      split
      · next same => rw [same]
      · rfl)
  rw [placeValue_eq]
  cases (s.point i).slot with
  | none => exact stored.trans (if_neg (by simp)).symm
  | some old =>
    dsimp only
    rw [noteOf_raisePoint, stored]
    simp only [get_writerPorts]
    refine ite_congr (propext ⟨fun ⟨same, wrote⟩ => ⟨same, old, rfl, wrote⟩, ?_⟩) ?_ fun _ => rfl
    · rintro ⟨same, _, present, wrote⟩
      exact ⟨same, Option.some.inj present ▸ wrote⟩
    · rintro ⟨-, _, present, wrote⟩
      rw [Option.some.inj present, wrote]
      rfl

theorem segNoteOf_raisePoint (s : State) (i : PointIdx) (r : PointReason) (dst : PortSet) (q : Port) (g : Seg) :
    (s.raisePoint i r dst).segNoteOf q g = s.segNoteOf q g := by
  unfold State.raisePoint
  dsimp only
  cases dst.a <;> cases dst.b <;> simp [segNoteOf_notePoint]

theorem devNoteOf_raisePoint (s : State) (i : PointIdx) (r : PointReason) (dst : PortSet) (q : Port) :
    (s.raisePoint i r dst).devNoteOf q = s.devNoteOf q := by
  unfold State.raisePoint
  dsimp only
  cases dst.a <;> cases dst.b <;> simp [devNoteOf_notePoint]

theorem segNotes_placeValue (s : State) (i : PointIdx) (f : Slot) (q : Port) (g : Seg) :
    (s.placeValue i f).segNoteOf q g = s.segNoteOf q g := by
  rw [placeValue_eq]
  cases (s.point i).slot with
  | none => rfl
  | some old => exact segNoteOf_raisePoint _ _ _ _ q g

theorem devNotes_placeValue (s : State) (i : PointIdx) (f : Slot) (q : Port) :
    (s.placeValue i f).devNoteOf q = s.devNoteOf q := by
  rw [placeValue_eq]
  cases (s.point i).slot with
  | none => rfl
  | some old => exact devNoteOf_raisePoint _ _ _ _ q

end

/-! ### The entries that join (R57, R95) -/

/-- A point of the segment without an entry in its queue. -/
def State.mayJoin (s : State) (g : Seg) (j : PointIdx) : Bool :=
  decide ((s.point j).seg = g ∧ ∀ d ∈ (s.sched g).queue, d.point ≠ j)

/-- The points of a list that join a segment's demand queue, offered in turn: those of the segment without an entry, while
there is room, where the feed is ON. -/
def State.joiners (s : State) (is : List PointIdx) (g : Seg) : List PointIdx :=
  if (s.feed g).state = .on then (is.filter (s.mayJoin g)).take (8 - (s.sched g).queue.length) else []

/-- A segment with new demand entries at the tail of its queue, of no port. -/
def Segment.joinedBy (v : Segment) (js : List PointIdx) : Segment :=
  { v with sched := { v.sched with queue := v.sched.queue ++ js.map fun j => ⟨j, ⟨false, false⟩, false⟩ } }

section
variable {s : State} {g : Seg} {i : PointIdx}

theorem urgentCode_one_iff (s : State) (g : Seg) (i : PointIdx) : s.urgentCode g i = 1 ↔
    (s.feed g).state = .on ∧ (∀ d ∈ (s.sched g).queue, d.point ≠ i) ∧ (s.sched g).queue.length < 8 := by
  rw [urgentCode_eq_one_iff, entry_eq_none_iff, room_eq_true_iff, State.powered, decide_eq_true_eq]

theorem joinedBy_nil (v : Segment) : v.joinedBy [] = v := by
  rw [Segment.joinedBy, List.map_nil, List.append_nil]

theorem joiners_on (on : (s.feed g).state = .on) (is : List PointIdx) :
    s.joiners is g = (is.filter (s.mayJoin g)).take (8 - (s.sched g).queue.length) := if_pos on

theorem joiners_off (off : (s.feed g).state ≠ .on) (is : List PointIdx) : s.joiners is g = [] := if_neg off

theorem joiners_one (s : State) (g : Seg) (i : PointIdx) : s.joiners [i] g =
    if (s.feed g).state = .on ∧ s.mayJoin g i = true ∧ (s.sched g).queue.length < 8 then [i] else [] := by
  by_cases on : (s.feed g).state = .on
  · rw [joiners_on on]
    cases may : s.mayJoin g i with
    | false => simp [may]
    | true =>
      by_cases room : (s.sched g).queue.length < 8
      · rw [if_pos ⟨on, rfl, room⟩, List.filter_cons_of_pos may]
        exact List.take_of_length_le (by rw [List.filter_nil, List.length_singleton]; omega)
      · have full : 8 - (s.sched g).queue.length = 0 := by omega
        rw [if_neg fun all => room all.2.2, full, List.take_zero]
  · rw [joiners_off on, if_neg fun all => on all.1]

/-- An offer joins the one point that it offers, where it joins. -/
theorem seg_offerUrgent (s : State) (i : PointIdx) (g : Seg) :
    (s.offerUrgent (s.point i).seg i).seg g = (s.seg g).joinedBy (s.joiners [i] g) := by
  unfold State.offerUrgent
  rw [joiners_one]
  by_cases home : g = (s.point i).seg
  · subst home
    have joins : s.urgentCode (s.point i).seg i = 1 ↔ (s.feed (s.point i).seg).state = .on ∧
        s.mayJoin (s.point i).seg i = true ∧ (s.sched (s.point i).seg).queue.length < 8 := by
      rw [urgentCode_one_iff, State.mayJoin, decide_eq_true_iff]
      simp
    by_cases one : s.urgentCode (s.point i).seg i = 1
    · rw [if_pos one, if_pos (joins.mp one)]
      exact seg_modSeg_same s _ _
    · rw [if_neg one, if_neg fun all => one (joins.mpr all), joinedBy_nil]
  · have apart : s.mayJoin g i = false := decide_eq_false fun both => home both.1.symm
    have none : ¬((s.feed g).state = .on ∧ s.mayJoin g i = true ∧ (s.sched g).queue.length < 8) := by
      rw [apart]
      simp
    rw [if_neg none, joinedBy_nil]
    split
    · exact (seg_modSeg s _ g _).trans (if_neg home)
    · rfl

/-- Offers in turn: what the first leaves decides for the rest. -/
theorem joiners_cons {u : State} {is : List PointIdx} (new : i ∉ is) (feed : u.feed g = s.feed g)
    (home : ∀ j ∈ is, (u.point j).seg = (s.point j).seg) (first : u.seg g = (s.seg g).joinedBy (s.joiners [i] g)) :
    s.joiners [i] g ++ u.joiners is g = s.joiners (i :: is) g := by
  have queue : (u.sched g).queue =
      (s.sched g).queue ++ (s.joiners [i] g).map fun j => ⟨j, ⟨false, false⟩, false⟩ :=
    congrArg (fun v : Segment => v.sched.queue) first
  by_cases on : (s.feed g).state = .on
  · have single : ∀ k ∈ s.joiners [i] g, k = i := fun k hk => by
      rw [joiners_on on] at hk
      exact List.mem_singleton.mp (List.mem_filter.mp (List.mem_of_mem_take hk)).1
    have may : ∀ j ∈ is, u.mayJoin g j = s.mayJoin g j := fun j hj => by
      refine decide_eq_decide.mpr ?_
      rw [home j hj, queue]
      refine and_congr_right fun _ => ⟨fun h d hd => h d (List.mem_append_left _ hd), fun h d hd => ?_⟩
      rcases List.mem_append.mp hd with old | fresh
      · exact h d old
      · obtain ⟨k, hk, rfl⟩ := List.mem_map.mp fresh
        rintro rfl
        exact new (single k hk ▸ hj)
    have size : (u.sched g).queue.length = (s.sched g).queue.length + (s.joiners [i] g).length := by
      rw [queue, List.length_append, List.length_map]
    have later : u.joiners is g =
        (is.filter (s.mayJoin g)).take (8 - ((s.sched g).queue.length + (s.joiners [i] g).length)) := by
      rw [joiners_on (feed ▸ on), List.filter_congr may, size]
    rw [later, joiners_on on (i :: is), joiners_one]
    cases joins : s.mayJoin g i with
    | false => rw [if_neg (by simp), List.filter_cons_of_neg (by rw [joins]; nofun)]; rfl
    | true =>
      rw [List.filter_cons_of_pos joins]
      by_cases room : (s.sched g).queue.length < 8
      · have left : 8 - (s.sched g).queue.length = 8 - ((s.sched g).queue.length + 1) + 1 := by omega
        rw [if_pos ⟨on, rfl, room⟩, left]
        rfl
      · have full : 8 - (s.sched g).queue.length = 0 := by omega
        rw [if_neg fun all => room all.2.2, full]
        exact congrArg (List.take · _) full
  · rw [joiners_off on, joiners_off (by rwa [feed]), joiners_off on]
    rfl

end

/-! ### The safe values in turn (R70) -/

/-- From `s` to `u`, the safe values of some points have taken their slots and been offered in turn. -/
structure SafePlaced (s : State) (is : List PointIdx) (u : State) : Prop where
  touches : Touches noSeg noSeg anySeg s u
  placed : ∀ j ∈ is, ∀ v, (s.point j).safe = some v → u.point j = { s.point j with slot := some ⟨v, .safe, true⟩ }
  others : ∀ j, j ∉ is → u.point j = s.point j
  notes : ∀ q j, u.noteOf q j =
    if j ∈ is ∧ ∃ f, (s.point j).slot = some f ∧ f.writer = .port q then
      { s.noteOf q j with write := some (.superseded, .port q) }
    else s.noteOf q j
  seg : ∀ g, u.seg g = (s.seg g).joinedBy (s.joiners is g)
  segNotes : ∀ q g, u.segNoteOf q g = s.segNoteOf q g
  devNotes : ∀ q, u.devNoteOf q = s.devNoteOf q

section
variable {s u : State} {i : PointIdx} {is : List PointIdx} {v : Int}

theorem placeSafe_eq (safe : (s.point i).safe = some v) : State.placeSafe i s =
    (s.placeValue i ⟨v, .safe, true⟩).offerUrgent (s.point i).seg i := by
  rw [State.placeSafe, safe]

theorem points_offerUrgent (s : State) (g : Seg) (i j : PointIdx) : (s.offerUrgent g i).point j = s.point j := by
  unfold State.offerUrgent
  split
  · rfl
  · rfl

theorem ports_offerUrgent (s : State) (g : Seg) (i : PointIdx) : (s.offerUrgent g i).ports = s.ports := by
  unfold State.offerUrgent
  split
  · rfl
  · rfl

theorem safePlaced_one (safe : (s.point i).safe = some v) : SafePlaced s [i] (State.placeSafe i s) := by
  have home : ((s.placeValue i ⟨v, .safe, true⟩).point i).seg = (s.point i).seg := by
    rw [point_placeValue, if_pos rfl]
  have list (q : Port) (t : State) (g : Seg) : ((t.offerUrgent g i).port q).attention = (t.port q).attention := by
    rw [State.port, ports_offerUrgent]
    rfl
  refine ⟨touches_placeSafe (fun _ => trivial) i s, ?_, ?_, ?_, ?_, ?_, ?_⟩
  · intro j hj w safe'
    obtain rfl := List.mem_singleton.mp hj
    rw [safe] at safe'
    obtain rfl := Option.some.inj safe'
    rw [placeSafe_eq safe, points_offerUrgent, point_placeValue, if_pos rfl]
  · intro j out
    rw [placeSafe_eq safe, points_offerUrgent, point_placeValue, if_neg fun same => out (by simp [same])]
  · intro q j
    rw [placeSafe_eq safe, noteOf_congr (list q _ _) (by rw [points_offerUrgent]), notes_placeValue]
    refine ite_congr (propext ⟨?_, ?_⟩) (fun _ => rfl) fun _ => rfl
    · rintro ⟨rfl, wrote⟩
      exact ⟨List.mem_singleton_self j, wrote⟩
    · rintro ⟨member, wrote⟩
      obtain rfl := List.mem_singleton.mp member
      exact ⟨rfl, wrote⟩
  · intro g
    have joiners : (s.placeValue i ⟨v, .safe, true⟩).joiners [i] g = s.joiners [i] g := by
      have may : (s.placeValue i ⟨v, .safe, true⟩).mayJoin g i = s.mayJoin g i := by
        rw [State.mayJoin, State.mayJoin, home, sched_placeValue]
      rw [joiners_one, joiners_one, may, sched_placeValue, feed_placeValue]
    rw [placeSafe_eq safe, ← home, seg_offerUrgent, seg_placeValue, joiners]
  · intro q g
    rw [placeSafe_eq safe, segNoteOf_congr (list q _ _), segNotes_placeValue]
  · intro q
    rw [placeSafe_eq safe, devNoteOf_congr (list q _ _), devNotes_placeValue]

theorem SafePlaced.cons {t : State} (new : i ∉ is) (h : SafePlaced s [i] t) (k : SafePlaced t is u) :
    SafePlaced s (i :: is) u := by
  have kept (j : PointIdx) (hj : j ∈ is) : t.point j = s.point j :=
    h.others j fun single => new (List.mem_singleton.mp single ▸ hj)
  have feed (g : Seg) : t.feed g = s.feed g := h.touches.feed g id
  refine ⟨h.touches.trans k.touches, ?_, ?_, ?_, ?_, fun q g => (k.segNotes q g).trans (h.segNotes q g),
    fun q => (k.devNotes q).trans (h.devNotes q)⟩
  · intro j hj w safe
    by_cases same : j = i
    · subst same
      rw [k.others j new, h.placed j (List.mem_singleton_self j) w safe]
    · have later := (List.mem_cons.mp hj).resolve_left same
      rw [k.placed j later w (by rw [kept j later, safe]), kept j later]
  · intro j out
    rw [k.others j fun inside => out (List.mem_cons_of_mem i inside),
      h.others j fun single => out (List.mem_singleton.mp single ▸ List.mem_cons_self)]
  · intro q j
    rw [k.notes, h.notes]
    by_cases same : j = i
    · subst same
      simp [new]
    · by_cases later : j ∈ is
      · simp [same, later, kept j later]
      · simp [same, later]
  · intro g
    have first := h.seg g
    rw [k.seg, first, ← joiners_cons new (feed g) (fun j hj => by rw [kept j hj]) first]
    simp [Segment.joinedBy]

theorem safePlaced_forPoints (is : List PointIdx) (once : is.Nodup) (safe : ∀ i ∈ is, (s.point i).safe ≠ none) :
    SafePlaced s is (s.forPoints is State.placeSafe) := by
  induction is generalizing s with
  | nil =>
    refine ⟨.refl _ _ _ s, nofun, fun _ _ => rfl, fun q j => (if_neg fun both => nomatch both.1).symm, fun g => ?_,
      fun _ _ => rfl, fun _ => rfl⟩
    have none : s.joiners [] g = [] := by
      unfold State.joiners
      split
      · exact List.take_nil
      · rfl
    rw [none, joinedBy_nil]
    rfl
  | cons i is ih =>
    obtain ⟨new, once⟩ := List.nodup_cons.mp once
    obtain ⟨v, hv⟩ := Option.ne_none_iff_exists'.mp (safe i List.mem_cons_self)
    have one := safePlaced_one hv
    refine one.cons new (ih once fun j hj => ?_)
    rw [one.others j fun single => new (List.mem_singleton.mp single ▸ hj)]
    exact safe j (List.mem_cons_of_mem i hj)

end

/-! ### The arbiters in turn (R97) -/

/-- Arbiters of some segments have decided: of the points, what may be seen of it are values taken in flight. -/
structure Arbitrated (s t : State) : Prop where
  touches : Touches noSeg anySeg anySeg s t
  taken : ∀ j, (t.point j).slot = (s.point j).slot ∧ (t.point j).inFlight = (s.point j).inFlight ∨
    ∃ f, (s.point j).slot = some f ∧ (t.point j).slot = none ∧ (t.point j).inFlight = some f
  devNotes : ∀ q, t.devNoteOf q = s.devNoteOf q

theorem Arbitrated.refl (s : State) : Arbitrated s s := ⟨.refl _ _ _ s, fun _ => .inl ⟨rfl, rfl⟩, fun _ => rfl⟩

theorem Arbitrated.trans {s t u : State} (h : Arbitrated s t) (k : Arbitrated t u) : Arbitrated s u := by
  refine ⟨h.touches.trans k.touches, fun j => ?_, fun q => (k.devNotes q).trans (h.devNotes q)⟩
  rcases k.taken j with ⟨slot, flight⟩ | ⟨f, pending, slot, flight⟩
  · rw [slot, flight]
    exact h.taken j
  · rcases h.taken j with ⟨same, -⟩ | ⟨_, -, empty, -⟩
    · exact .inr ⟨f, same ▸ pending, slot, flight⟩
    · rw [empty] at pending
      cases pending

theorem Proceeds.arbitrated {g : Seg} {s t : State} (h : Proceeds g s t) : Arbitrated s t :=
  ⟨h.touches.mono (fun _ => id) (fun _ _ => trivial) fun _ _ => trivial, h.taken, h.devNotes⟩

/-- The arbiters decide in turn where an entry has joined. -/
def State.arbitrateJoined (joined : Seg → List PointIdx) (e : Env) (s : State) (g : Seg) : State :=
  if joined g = [] then s else s.arbitrate g e

theorem arbitrated_foldl (joined : Seg → List PointIdx) (e : Env) (l : List Seg) (s : State) :
    Arbitrated s (l.foldl (State.arbitrateJoined joined e) s) := by
  induction l generalizing s with
  | nil => exact .refl s
  | cons g l ih =>
    have one : Arbitrated s (State.arbitrateJoined joined e s g) := by
      unfold State.arbitrateJoined
      split
      · exact .refl s
      · exact (proceeds_arbitrate g s e).arbitrated
    exact one.trans (ih _)

/-- A queue is longer than it was exactly where an entry has joined, and a decision changes no other segment's queue. -/
theorem foldl_arbitrateJoined {s : State} {joined : Seg → List PointIdx} {e : Env} (l : List Seg) (once : l.Nodup)
    {t : State} (longer : ∀ g ∈ l, (t.sched g).queue.length = (s.sched g).queue.length ↔ joined g = []) :
    l.foldl (fun t g => if (t.sched g).queue.length = (s.sched g).queue.length then t else t.arbitrate g e) t =
      l.foldl (State.arbitrateJoined joined e) t := by
  induction l generalizing t with
  | nil => rfl
  | cons g l ih =>
    obtain ⟨new, once⟩ := List.nodup_cons.mp once
    have same : (if (t.sched g).queue.length = (s.sched g).queue.length then t else t.arbitrate g e) =
        State.arbitrateJoined joined e t g := if_congr (longer g List.mem_cons_self) rfl rfl
    rw [List.foldl_cons, List.foldl_cons, same]
    refine ih once fun h hh => ?_
    have other : h ≠ g := fun same => new (same ▸ hh)
    have kept : (State.arbitrateJoined joined e t g).sched h = t.sched h := by
      unfold State.arbitrateJoined
      split
      · rfl
      · exact (proceeds_arbitrate g t e).touches.sched h other
    rw [kept]
    exact longer h (List.mem_cons_of_mem g hh)

/-! ### SUPERVISION_LAPSE -/

section
variable {s : State} {p : Port} {e : Env}

theorem safeOwned_iff (t : Point) (p : Port) : t.safeOwned p = true ↔
    t.life = .live ∧ t.kind = .output ∧ t.owner = p ∧ t.safe ≠ none := by
  simp only [Point.safeOwned, Bool.and_eq_true, decide_eq_true_eq, Option.isSome_iff_ne_none, and_assoc]

/-- The port's own part of its lapse. -/
def State.lapsePort (s : State) (p : Port) : State := s.modPort p fun u => { u with lapsed := true, supTimer := none }

/-- The lapse before the arbiters decide. -/
def State.lapsePlaced (s : State) (p : Port) : State :=
  ((s.lapsePort p).forPoints (allPoints.filter fun i => (s.point i).safeOwned p) State.placeSafe).raiseDev p.other
    .peerLapsed

theorem lapse_eq (s : State) (p : Port) (e : Env) : s.lapse p e = Seg.all.foldl
    (fun t g => if (t.sched g).queue.length = (s.sched g).queue.length then t else t.arbitrate g e)
    (s.lapsePlaced p) := rfl

theorem exec_supervisionLapse (awake : s.inReset = false) :
    exec (.supervisionLapse p e) s = .next (if (s.port p).supDue then s.lapse p e else s) :=
  event_takes (body := fun s => if (s.port p).supDue then s.lapse p e else s) awake

theorem supDue_iff (u : PortUnit) : u.supDue = true ↔ u.supTimer = some u.supPeriod := decide_eq_true_iff

end

end Sys2Proof.Machine

namespace Sys2Proof
open Machine

/-- Settles O27: the safe values are placed in turn, and the arbiters decide on the entries that joined. -/
theorem supervisionLapse : Obligations.SupervisionLapse := by
  intro s p e owned joined awake owned_iff joined_eq
  rw [exec_supervisionLapse awake]
  refine ⟨fun early => congrArg _ (if_neg fun due => early ((supDue_iff _).mp due)), fun due => ?_⟩
  have owns : (fun i => (s.point i).safeOwned p) = owned := funext fun j => by
    rw [Bool.eq_iff_iff, safeOwned_iff, owned_iff]
  have member (j : PointIdx) : j ∈ allPoints.filter owned ↔ owned j = true := by simp [allPoints]
  have placed : SafePlaced (s.lapsePort p) (allPoints.filter owned)
      ((s.lapsePort p).forPoints (allPoints.filter owned) State.placeSafe) :=
    safePlaced_forPoints _ ((List.nodup_finRange 256).filter _) fun i hi =>
      ((owned_iff i).mp ((member i).mp hi)).2.2.2
  have lapsed : s.lapsePlaced p =
      ((s.lapsePort p).forPoints (allPoints.filter owned) State.placeSafe).raiseDev p.other .peerLapsed := by
    rw [State.lapsePlaced, owns]
  have quiet := raiseDev_noticesOnly ((s.lapsePort p).forPoints (allPoints.filter owned) State.placeSafe) p.other
    .peerLapsed
  rw [← lapsed] at quiet
  have list (q : Port) : ((s.lapsePort p).port q).attention = (s.port q).attention :=
    attention_modPort_kept (f := fun u => { u with lapsed := true, supTimer := none }) (fun _ => rfl) s p q
  have joiners (g : Seg) : (s.lapsePort p).joiners (allPoints.filter owned) g = joined g := by
    rw [joined_eq, State.joiners, List.filter_filter]
    refine if_congr Iff.rfl (congrArg (List.take _) (List.filter_congr fun j _ => ?_)) rfl
    exact Bool.and_comm _ _
  have seg (g : Seg) : (s.lapsePlaced p).seg g = (s.seg g).joinedBy (joined g) := by
    rw [quiet.seg, placed.seg, joiners]
    rfl
  have turns : s.lapse p e = Seg.all.foldl (State.arbitrateJoined joined e) (s.lapsePlaced p) := by
    rw [lapse_eq]
    refine foldl_arbitrateJoined _ nodup_all fun g _ => ?_
    have queue := congrArg (fun v : Segment => v.sched.queue.length) (seg g)
    have longer : ((s.lapsePlaced p).sched g).queue.length = (s.sched g).queue.length + (joined g).length :=
      queue.trans (by simp only [Segment.joinedBy, List.length_append, List.length_map]; rfl)
    rw [longer, Nat.add_eq_left, List.length_eq_zero_iff]
  have decided := arbitrated_foldl joined e Seg.all (s.lapsePlaced p)
  rw [← turns] at decided
  have bare (q : Port) : ((s.lapse p e).port q).bare = ((s.lapsePort p).port q).bare :=
    (decided.touches.ports q).trans ((quiet.ports q).trans (placed.touches.ports q))
  have own : ((s.lapse p e).port p).bare = { (s.port p).bare with lapsed := true, supTimer := none } := by
    rw [bare, State.lapsePort, port_modPort_same]
    rfl
  have period := congrArg PortUnit.supPeriod own
  have mask : (((s.lapsePort p).forPoints (allPoints.filter owned) State.placeSafe).port p.other).devMask =
      (s.port p.other).devMask := by
    have kept := congrArg PortUnit.devMask (placed.touches.ports p.other)
    have at_other : ((s.lapsePort p).port p.other).bare.devMask = (s.port p.other).devMask := by
      rw [State.lapsePort, port_modPort, if_neg p.other_ne]
      rfl
    exact Eq.trans kept at_other
  have safe_in {j : PointIdx} {v : Int} (owner : owned j = true) (safe : (s.point j).safe = some v) :
      (s.lapsePlaced p).point j = { s.point j with slot := some ⟨v, .safe, true⟩ } := by
    rw [quiet.point, placed.placed j ((member j).mpr owner) v safe]
    rfl
  refine ⟨s.lapsePlaced p, s.lapse p e, congrArg _ (if_pos ((supDue_iff _).mpr due)), turns,
    fun j v => safe_in, fun j other => ?_, fun q j => ?_, seg, fun q g => ?_, ?_, ?_, ?_, ?_, ?_,
    congrArg PortUnit.lapsed own, congrArg PortUnit.supTimer own, period, own,
    fun j v owner safe => ?_, ?_, ?_, ?_, fun g => ?_⟩
  · rw [quiet.point, placed.others j fun inside => by rw [(member j).mp inside] at other; cases other]
    rfl
  · rw [lapsed, noteOf_raiseDev, placed.notes, noteOf_congr (list q) rfl]
    refine if_congr (and_congr_left fun _ => member j) rfl rfl
  · rw [lapsed, segNoteOf_raiseDev, placed.segNotes, segNoteOf_congr (list q)]
  · exact quiet.trigs.trans placed.touches.trigs
  · exact quiet.supply.trans placed.touches.supply
  · exact quiet.temperature.trans placed.touches.temperature
  · exact quiet.pending.trans placed.touches.pending
  · exact quiet.inReset.trans placed.touches.inReset
  · have slot := congrArg Point.slot (safe_in owner safe)
    rcases decided.taken j with ⟨same, -⟩ | ⟨f, pending, -, flight⟩
    · exact .inl (same.trans slot)
    · exact .inr (flight.trans (pending.symm.trans slot))
  · rw [decided.devNotes, lapsed, devNoteOf_raiseDev, mask, placed.devNotes, devNoteOf_congr (list _)]
    rfl
  · rw [decided.devNotes, lapsed, devNoteOf_raiseDev_ne _ _ p.ne_other, placed.devNotes, devNoteOf_congr (list _)]
  · rw [bare, State.lapsePort, port_modPort, if_neg p.other_ne]
  · exact (decided.touches.feed g id).trans ((quiet.feed g).trans (placed.touches.feed g id))

end Sys2Proof
end

section
/-! PROOF. The judgements of the monitor (R145, R146): the parts of a change of the levels, each by what it notes of the
device and of the feeds, and the thresholds of Tables 8-4 and 8-5. -/

namespace Sys2Proof.Machine

/-! ### What the parts of a feed event note (R142, R145, R152) -/

section
variable (leaves notice : Seg → Bool) (ended : Seg → Option Exchange) (change : Option DevReason) (r : DevReason)

/-- Two parts note of the device and of feeds: the monitor's and the FEED of a segment. -/
theorem confined_quietPart {part : Part} (monitor : part ≠ .monitor) (feed : ∀ g, part ≠ .feed g) (s : State) :
    Confined (fun _ => True) s (State.feedPart leaves notice ended change part s) := by
  have quiet : State.feedPart leaves notice ended change part s =
      State.feedPart leaves (fun _ => false) ended none part s := by
    cases part with
    | monitor => exact absurd rfl monitor
    | feed g => exact absurd rfl (feed g)
    | _ => rfl
  rw [quiet]
  exact confined_feedPart (fun _ _ => trivial) (fun _ _ _ _ _ => trivial) (fun _ _ _ _ _ => trivial) part

theorem devNoteOf_raisedBoth (s : State) (q : Port) : ((s.raiseDev .a r).raiseDev .b r).devNoteOf q =
    if (s.port q).devMask.getLsbD r.bit = true then s.devNoteOf q ||| BitVec.twoPow 5 r.bit else s.devNoteOf q := by
  have ab : Port.a ≠ Port.b := nofun
  cases q with
  | a => rw [devNoteOf_raiseDev_ne _ r ab, devNoteOf_raiseDev]
  | b => rw [devNoteOf_raiseDev, port_raiseDev_ne s r ab.symm, devNoteOf_raiseDev_ne s r ab.symm]

theorem devNoteOf_feedPart (part : Part) (s : State) (q : Port) :
    (State.feedPart leaves notice ended (some r) part s).devNoteOf q =
      if part = .monitor ∧ (s.port q).devMask.getLsbD r.bit = true then s.devNoteOf q ||| BitVec.twoPow 5 r.bit
      else s.devNoteOf q := by
  by_cases monitor : part = .monitor
  · subst monitor
    simp only [true_and]
    exact devNoteOf_raisedBoth r s q
  rw [if_neg fun h => monitor h.1]
  by_cases feed : ∃ g, part = .feed g
  · obtain ⟨g, rfl⟩ := feed
    change (if notice g then s.raiseSeg g .feed else s).devNoteOf q = _
    split
    · exact devNoteOf_raiseSeg s q g .feed
    · rfl
  · exact (confined_quietPart leaves notice ended _ monitor (fun g h => feed ⟨g, h⟩) s).devNote q

theorem feedNote_raised (s : State) (g h : Seg) (q : Port) : ((s.raiseSeg h .feed).segNoteOf q g).feed =
    ((s.segNoteOf q g).feed || (decide (g = h) && (s.port q).segMask.getLsbD 0)) := by
  rw [segNoteOf_raiseSeg]
  cases masked : (s.port q).segMask.getLsbD SegReason.feed.bit with
  | true =>
    have masked : (s.port q).segMask.getLsbD 0 = true := masked
    by_cases here : g = h <;> simp only [here, masked, SegNote.add, if_true, if_false, and_true, decide_true,
      decide_false, Bool.and_true, Bool.or_true, Bool.or_false]
  | false =>
    have masked : (s.port q).segMask.getLsbD 0 = false := masked
    rw [if_neg fun h => nomatch h.2]
    simp only [masked, Bool.and_false, Bool.or_false]

theorem feedNote_feedPart (part : Part) (s : State) (q : Port) (g : Seg) :
    ((State.feedPart leaves notice ended change part s).segNoteOf q g).feed =
      ((s.segNoteOf q g).feed || (decide (part = .feed g) && notice g && (s.port q).segMask.getLsbD 0)) := by
  by_cases monitor : part = .monitor
  · subst monitor
    cases change with
    | none => simp [State.feedPart]
    | some r =>
      simpa [State.feedPart] using
        congrArg SegNote.feed ((segNoteOf_raiseDev (s.raiseDev .a r) .b q g r).trans (segNoteOf_raiseDev s .a q g r))
  by_cases feed : ∃ h, part = .feed h
  · obtain ⟨h, rfl⟩ := feed
    change ((if notice h then s.raiseSeg h .feed else s).segNoteOf q g).feed = _
    cases due : notice h with
    | true =>
      rw [if_pos rfl, feedNote_raised]
      by_cases here : g = h
      · simp [here, due]
      · simp [here, Ne.symm here]
    | false =>
      by_cases here : h = g
      · simp [← here, due]
      · simp [here]
  · rw [(confined_quietPart leaves notice ended change monitor (fun h k => feed ⟨h, k⟩) s).feedNote q g]
    have other : part ≠ .feed g := fun h => feed ⟨g, h⟩
    simp [other]

theorem touches_feedParts (parts : List Part) (s : State) :
    Touches noSeg anySeg anySeg s (s.takeParts (State.feedPart leaves notice ended change) parts) :=
  touches_takeParts _ (fun part t => touches_feedPart _ _ _ _ (fun _ _ => trivial) (fun _ _ => trivial) part t) _ s

theorem devMask_of_bare {u v : PortUnit} (h : u.bare = v.bare) : u.devMask = v.devMask := by
  have k := congrArg PortUnit.devMask h
  exact k

theorem segMask_of_bare {u v : PortUnit} (h : u.bare = v.bare) : u.segMask = v.segMask := by
  have k := congrArg PortUnit.segMask h
  exact k

theorem devMask_feedPart (part : Part) (s : State) (q : Port) :
    ((State.feedPart leaves notice ended change part s).port q).devMask = (s.port q).devMask :=
  devMask_of_bare ((touches_feedParts leaves notice ended change [part] s).ports q)

theorem segMask_feedPart (part : Part) (s : State) (q : Port) :
    ((State.feedPart leaves notice ended change part s).port q).segMask = (s.port q).segMask :=
  segMask_of_bare ((touches_feedParts leaves notice ended change [part] s).ports q)

theorem devNoteOf_takeParts (parts : List Part) (s : State) (q : Port) :
    (s.takeParts (State.feedPart leaves notice ended (some r)) parts).devNoteOf q =
      if .monitor ∈ parts ∧ (s.port q).devMask.getLsbD r.bit = true then s.devNoteOf q ||| BitVec.twoPow 5 r.bit
      else s.devNoteOf q := by
  induction parts generalizing s with
  | nil => simp [State.takeParts]
  | cons part parts ih =>
    refine (ih (State.feedPart leaves notice ended (some r) part s)).trans ?_
    rw [devNoteOf_feedPart, devMask_feedPart]
    simp only [List.mem_cons, eq_comm (a := Part.monitor)]
    by_cases here : part = .monitor <;> by_cases later : .monitor ∈ parts <;>
      by_cases masked : (s.port q).devMask.getLsbD r.bit = true <;> simp [here, later, masked, BitVec.or_assoc]

theorem feedNote_takeParts (parts : List Part) (s : State) (q : Port) (g : Seg) :
    ((s.takeParts (State.feedPart leaves notice ended change) parts).segNoteOf q g).feed =
      ((s.segNoteOf q g).feed || (decide (.feed g ∈ parts) && notice g && (s.port q).segMask.getLsbD 0)) := by
  induction parts generalizing s with
  | nil => simp [State.takeParts]
  | cons part parts ih =>
    refine (ih (State.feedPart leaves notice ended change part s)).trans ?_
    rw [feedNote_feedPart, segMask_feedPart]
    simp only [List.mem_cons, eq_comm (a := Part.feed g)]
    by_cases here : part = .feed g <;> by_cases later : .feed g ∈ parts <;> simp [here, later]

end

/-! ### A change of the levels (R145, R146) -/

theorem feed_monitorChange (s : State) (sl : SupplyLevel) (tl : TempLevel) (r : DevReason) (order : List Part)
    (g : Seg) : (s.monitorChange sl tl r order).feed g =
      Feed.monitored (!s.held && holds sl tl) (s.held && !holds sl tl) (s.feed g) := by
  rw [monitorChange_eq, (touches_feedParts _ _ _ (some r) _ _).feed g id]
  exact (reads_mapFeeds _ _ g).1

theorem levels_monitorChange (s : State) (sl : SupplyLevel) (tl : TempLevel) (r : DevReason) (order : List Part) :
    (s.monitorChange sl tl r order).supply = sl ∧ (s.monitorChange sl tl r order).temperature = tl := by
  rw [monitorChange_eq]
  exact ⟨(touches_feedParts _ _ _ (some r) _ _).supply, (touches_feedParts _ _ _ (some r) _ _).temperature⟩

theorem devNoteOf_monitorChange (s : State) (sl : SupplyLevel) (tl : TempLevel) (r : DevReason) (order : List Part)
    (q : Port) : (s.monitorChange sl tl r order).devNoteOf q =
      if (s.port q).devMask.getLsbD r.bit = true then s.devNoteOf q ||| BitVec.twoPow 5 r.bit else s.devNoteOf q := by
  rw [monitorChange_eq, devNoteOf_takeParts]
  simp only [mem_arrange, List.mem_cons, true_or, true_and]
  rfl

theorem feedNote_monitorChange (s : State) (sl : SupplyLevel) (tl : TempLevel) (r : DevReason) (order : List Part)
    (q : Port) (g : Seg) : ((s.monitorChange sl tl r order).segNoteOf q g).feed =
      ((s.segNoteOf q g).feed ||
        (!s.held && holds sl tl && (s.feed g).forced && (s.port q).segMask.getLsbD 0)) := by
  have due : .feed g ∈ Part.monitor :: Seg.all.flatMap segParts := by cases g <;> decide
  rw [monitorChange_eq, feedNote_takeParts, decide_eq_true ((mem_arrange order _ _).mpr due), Bool.true_and]
  rfl

theorem forced_iff (f : Feed) : f.forced = true ↔ f.enable = true ∧ f.state ≠ .forcedOff := by
  simp [Feed.forced]

end Sys2Proof.Machine

namespace Sys2Proof
open Machine

/-- The thresholds of Tables 8-4 and 8-5. -/
theorem judge_supply (mv : Nat) :
    SupplyLevel.normal.judge mv = (if mv < 14000 then .under else if mv < 18000 then .low else .normal) ∧
    SupplyLevel.low.judge mv = (if mv < 14000 then .under else if mv < 19000 then .low else .normal) ∧
    SupplyLevel.under.judge mv = (if mv < 15000 then .under else if mv < 19000 then .low else .normal) := by
  simp only [SupplyLevel.judge, Config.supplyUnderBelow, Config.supplyLowBelow, Config.supplyLowRelease,
    Config.supplyUnderRelease]
  refine ⟨rfl, ?_, ?_⟩
  · grind
  · grind

theorem judge_temperature (mc : Int) :
    TempLevel.normal.judge mc = (if mc ≤ 130000 then .normal else if mc ≤ 150000 then .warn else .shutdown) ∧
    TempLevel.warn.judge mc = (if mc ≤ 115000 then .normal else if mc ≤ 150000 then .warn else .shutdown) ∧
    TempLevel.shutdown.judge mc = (if mc ≤ 115000 then .normal else if mc ≤ 130000 then .warn else .shutdown) := by
  simp only [TempLevel.judge, Config.tempShutdownAbove, Config.tempWarnAbove, Config.tempRelease]
  refine ⟨?_, ?_, rfl⟩
  · grind
  · grind

/-- One of the two level events, as the change of the levels it makes. -/
theorem exec_levelChange {s : State} {i : Instr} {e : Env} {mv : Nat} {mc : Int} {sl : SupplyLevel} {tl : TempLevel}
    (awake : s.inReset = false)
    (event : i = .supplyLevelChange mv e ∧ sl = s.supply.judge mv ∧ tl = s.temperature ∨
      i = .temperatureLevelChange mc e ∧ sl = s.supply ∧ tl = s.temperature.judge mc) :
    exec i s = .next (if sl = s.supply ∧ tl = s.temperature then s
      else s.monitorChange sl tl (if i = .supplyLevelChange mv e then .supply else .thermal) e.order) := by
  obtain ⟨rfl, rfl, rfl⟩ | ⟨rfl, rfl, rfl⟩ := event
  · refine (event_takes (body := fun s => if s.supply.judge mv = s.supply then s
      else s.monitorChange (s.supply.judge mv) s.temperature .supply e.order) awake).trans ?_
    by_cases same : s.supply.judge mv = s.supply <;> simp [same]
  · refine (event_takes (body := fun s => if s.temperature.judge mc = s.temperature then s
      else s.monitorChange s.supply (s.temperature.judge mc) .thermal e.order) awake).trans ?_
    by_cases same : s.temperature.judge mc = s.temperature <;> simp [same]

/-- Settles O48: a kept level finds nothing; a new one maps the feeds and then has each part taken once. -/
theorem monitorLevels : Obligations.MonitorLevels := by
  refine ⟨fun s i e mv mc sl tl awake event => ?_, judge_supply, judge_temperature⟩
  have run := exec_levelChange awake event
  refine ⟨fun supply temperature => run.trans (by rw [if_pos ⟨supply, temperature⟩]), fun moved => ?_⟩
  rw [if_neg fun same => moved.elim (· same.1) (· same.2)] at run
  obtain ⟨supply, temperature⟩ :=
    levels_monitorChange s sl tl (if i = .supplyLevelChange mv e then .supply else .thermal) e.order
  refine ⟨_, run, supply, temperature, fun g => ?_, fun p => ⟨?_, fun g => ?_⟩⟩
  · rw [feed_monitorChange, Feed.monitored]
    cases before : holds s.supply s.temperature <;> cases holds sl tl <;>
      simp [State.held, before, forced_iff, Feed.open, Feed.start]
  · rw [devNoteOf_monitorChange]
    by_cases supplies : i = .supplyLevelChange mv e
    · rw [if_pos supplies, if_pos supplies]
      rfl
    · rw [if_neg supplies, if_neg supplies]
      rfl
  · rw [feedNote_monitorChange]
    cases before : holds s.supply s.temperature <;> cases holds sl tl <;>
      simp [State.held, before, Feed.forced]

end Sys2Proof
end

section
/-! PROOF. Clamps, trips and timers of a feed (R134, R135, R138 to R140): the parts of a trip by what they note, and the
entry into ON with the urgent values offered in ascending index order. -/

namespace Sys2Proof.Machine

/-! ### One part that acts (R141, R142) -/

/-- Where one part acts and the others change nothing, it alone is taken, once. -/
theorem takeParts_only {run : Part → State → State} {a : Part} (idle : ∀ x, x ≠ a → ∀ t, run x t = t) (s : State)
    (parts : List Part) (once : parts.Nodup) (member : a ∈ parts) : s.takeParts run parts = run a s := by
  have pass (l : List Part) (out : a ∉ l) (t : State) : t.takeParts run l = t :=
    List.foldlRecOn (motive := (· = t)) l _ rfl fun u hu x hx => (idle x (fun same => out (same ▸ hx)) u).trans hu
  obtain ⟨before, after, rfl⟩ := List.append_of_mem member
  obtain ⟨early, late, -⟩ : a ∉ before ∧ a ∉ after ∧ True := by
    rw [List.nodup_append, List.nodup_cons] at once
    exact ⟨fun inside => once.2.2 a inside a List.mem_cons_self rfl, once.2.1.1, trivial⟩
  rw [State.takeParts, List.foldl_append, List.foldl_cons]
  exact (pass after late _).trans (congrArg (run a) (pass before early s))

section
variable {s : State} {g : Seg} {e : Env}

/-- A feed that was not ON leaves nothing but FEED. -/
theorem feedLeaves_quiet (s : State) (g : Seg) (order : List Part) :
    s.feedLeaves g false true order = s.raiseSeg g .feed := by
  unfold State.feedLeaves
  simp only [Bool.and_false, Bool.and_true]
  refine (takeParts_only (a := .feed g) (fun part other t => ?_) s _ (nodup_arrange order (by cases g <;> decide))
    ((mem_arrange order _ _).mpr (by simp [segParts]))).trans (if_pos (decide_eq_true rfl))
  cases part with
  | feed h => exact if_neg fun same => other (congrArg Part.feed (of_decide_eq_true same))
  | _ => rfl

theorem modFeed_congr {f f' : Feed → Feed} (same : f (s.feed g) = f' (s.feed g)) : s.modFeed g f = s.modFeed g f' :=
  modSeg_congr (congrArg (fun d => { s.seg g with feed := d }) same)

theorem feed_feedTrips (s : State) (g : Seg) (order : List Part) :
    (s.feedTrips g order).feed g = (s.feed g).trip := by
  rw [State.feedTrips, State.feedLeaves, (touches_feedParts _ _ _ _ _ _).feed g id, feed_modFeed_same]

theorem feedNote_feedTrips (s : State) (g : Seg) (order : List Part) (p : Port) :
    ((s.feedTrips g order).segNoteOf p g).feed = ((s.segNoteOf p g).feed || (s.port p).segMask.getLsbD 0) := by
  have due : .feed g ∈ arrange order (segParts g) := (mem_arrange order _ _).mpr (by simp [segParts])
  rw [State.feedTrips, State.feedLeaves, feedNote_takeParts, decide_eq_true due]
  simp only [decide_true, Bool.true_and]
  rfl

theorem feedTrips_quiet (off : (s.feed g).state ≠ .on) (order : List Part) :
    s.feedTrips g order = (s.modFeed g fun _ => (s.feed g).trip).raiseSeg g .feed := by
  rw [State.feedTrips, State.powered, decide_eq_false off, feedLeaves_quiet]
  rfl

theorem tripDue_iff (f : Feed) (ticks : Nat) (low : Bool) : f.tripDue ticks low = true ↔
    f.state.closed = true ∧ f.clampTimer = true ∧
      (if f.cfg.fastShort = true ∧ low = true then f.cfg.blanking.millis * 10 / 5 else f.cfg.blanking.millis * 10) ≤
        ticks := by
  simp only [Feed.tripDue, FeedCfg.tripTicks, Bool.and_eq_true, decide_eq_true_eq, and_assoc]

/-! ### The urgent values of a segment in turn (R68) -/

/-- A LIVE point with an urgent value pending. -/
def State.offers (s : State) (i : PointIdx) : Bool :=
  decide ((s.point i).life = .live) && (s.point i).slot.any Slot.urgent

theorem offerAgain_eq (s : State) (g : Seg) (i : PointIdx) :
    s.offerAgain g i = if s.offers i then s.offerUrgent g i else s := by
  rw [State.offerAgain, urgentPending_eq]
  rfl

theorem joiners_nil (s : State) (g : Seg) : s.joiners [] g = [] := by
  unfold State.joiners
  split
  · exact List.take_nil
  · rfl

/-- From `s` to `u`, points of a segment have been offered again in turn. -/
structure Offered (s : State) (is : List PointIdx) (u : State) : Prop where
  points : u.points = s.points
  ports : u.ports = s.ports
  seg : ∀ h, u.seg h = (s.seg h).joinedBy (s.joiners (is.filter s.offers) h)

theorem Offered.point {u : State} {is : List PointIdx} (o : Offered s is u) (j : PointIdx) : u.point j = s.point j := by
  rw [State.point, State.point, o.points]

theorem pointTable_offerUrgent (s : State) (g : Seg) (i : PointIdx) : (s.offerUrgent g i).points = s.points := by
  unfold State.offerUrgent
  split
  · rfl
  · rfl

theorem offered_one {i : PointIdx} (home : (s.point i).seg = g) : Offered s [i] (s.offerAgain g i) := by
  subst home
  rw [offerAgain_eq]
  cases offers : s.offers i with
  | true =>
    refine ⟨pointTable_offerUrgent s _ i, ports_offerUrgent s _ i, fun h => ?_⟩
    rw [List.filter_cons_of_pos offers, List.filter_nil]
    exact seg_offerUrgent s i h
  | false =>
    refine ⟨rfl, rfl, fun h => ?_⟩
    rw [List.filter_cons_of_neg (by rw [offers]; nofun), List.filter_nil, joiners_nil, joinedBy_nil]
    rfl

theorem offers_of_points {t : State} (same : t.points = s.points) : t.offers = s.offers := by
  funext j
  rw [State.offers, State.offers, State.point, State.point, same]

theorem Offered.cons {t u : State} {i : PointIdx} {is : List PointIdx} (new : i ∉ is) (h : Offered s [i] t)
    (feed : ∀ g, t.feed g = s.feed g) (k : Offered t is u) : Offered s (i :: is) u := by
  refine ⟨k.points.trans h.points, k.ports.trans h.ports, fun g => ?_⟩
  have first := h.seg g
  rw [k.seg, first, offers_of_points h.points]
  cases offers : s.offers i with
  | true =>
    rw [List.filter_cons_of_pos offers] at first ⊢
    rw [List.filter_cons_of_pos offers, ← joiners_cons (fun inside => new (List.mem_filter.mp inside).1) (feed g)
      (fun j _ => by rw [h.point]) first]
    simp [Segment.joinedBy]
  | false =>
    have passes : ¬ s.offers i = true := by rw [offers]; nofun
    rw [List.filter_cons_of_neg passes, List.filter_nil, joiners_nil, joinedBy_nil] at first
    rw [List.filter_cons_of_neg passes, List.filter_cons_of_neg passes, List.filter_nil, joiners_nil, joinedBy_nil]
    refine congrArg _ ?_
    have may : t.mayJoin g = s.mayJoin g := by
      funext j
      rw [State.mayJoin, State.mayJoin, h.point, State.sched, first]
      rfl
    rw [State.joiners, State.joiners, feed, may, State.sched, first]
    rfl

theorem offered_forPoints (is : List PointIdx) (once : is.Nodup) (home : ∀ i ∈ is, (s.point i).seg = g) :
    Offered s is (s.forPoints is fun i t => t.offerAgain g i) := by
  induction is generalizing s with
  | nil =>
    refine ⟨rfl, rfl, fun h => ?_⟩
    rw [List.filter_nil, joiners_nil, joinedBy_nil]
    rfl
  | cons i is ih =>
    obtain ⟨new, once⟩ := List.nodup_cons.mp once
    have one := offered_one (home i List.mem_cons_self)
    have feed (h : Seg) : (s.offerAgain g i).feed h = s.feed h :=
      (touches_offerAgain (F := noSeg) (L := noSeg) (onlySeg_self g) s i).feed h id
    exact one.cons new feed (ih once fun j hj => by
      rw [one.point]
      exact home j (List.mem_cons_of_mem i hj))

/-! ### The exit from HALTED (R94) -/

/-- A scan set going waits, and then may start a cycle. -/
theorem setGoing_cases (s : State) (g : Seg) : ∃ u, Cycles g s u ∧ (u.sched g).scan = .waiting ∧
    (s.setGoing g = u ∨ s.setGoing g = u.startCycle g) := by
  cases mode : (s.sched g).cfg.mode with
  | freeRun =>
    refine ⟨_, cycles_modSched s ⟨rfl, rfl, rfl, .inr (.inr (.inl rfl))⟩, ?_, .inr (setGoing_freeRun mode)⟩
    rw [sched_modSched_same]
  | triggered =>
    refine ⟨s.modSched g fun c => { c with scan := .waiting }, cycles_modSched s ⟨rfl, rfl, rfl, .inr (.inr (.inl rfl))⟩,
      ?_, ?_⟩
    · rw [sched_modSched_same]
    · rw [setGoing_triggered mode]
      split
      · exact .inr rfl
      · exact .inl rfl

theorem cycles_leaveHalted (s : State) (g : Seg) : Cycles g s (s.leaveHalted g) := by
  obtain ⟨u, waits, -, going⟩ := setGoing_cases s g
  unfold State.leaveHalted
  split
  · rcases going with same | starts
    · exact same ▸ waits
    · exact starts ▸ waits.trans (cycles_startCycle u)
  · exact .refl g s

theorem not_halted_leaveHalted (s : State) (g : Seg) : ((s.leaveHalted g).sched g).scan.halted = false := by
  cases halted : (s.sched g).scan.halted with
  | false => rwa [leaveHalted_of_going halted]
  | true =>
    obtain ⟨u, -, waiting, going⟩ := setGoing_cases s g
    have quiet : (u.sched g).scan.halted = false := by rw [waiting]; rfl
    rw [leaveHalted_of_halted halted]
    rcases going with same | starts
    · rwa [same]
    · rw [starts]
      exact (cycles_startCycle u).sched.not_halted quiet

theorem proceeds_linkReady (s : State) (g : Seg) (e : Env) : Proceeds g s (s.linkReady g e) :=
  (cycles_leaveHalted s g).proceeds.trans (proceeds_arbitrate g _ e)

theorem not_halted_linkReady (s : State) (g : Seg) (e : Env) : ((s.linkReady g e).sched g).scan.halted = false :=
  (proceeds_arbitrate g _ e).sched.not_halted (not_halted_leaveHalted s g)

/-! ### Entry into ON (R66, R68, R118, R139) -/

theorem reassert_cases (t : Point) : t.reassert g = t ∨
    ∃ v, t.slot = none ∧ t.reassert g = { t with slot := some ⟨v, .reassert, false⟩ } := by
  unfold Point.reassert
  split
  · next v _ _ _ empty =>
    split
    · exact .inr ⟨v, empty, rfl⟩
    · exact .inl rfl
  · exact .inl rfl

theorem reassert_due {t : Point} {v : Int} (live : t.life = .live) (output : t.kind = .output) (home : t.seg = g)
    (value : t.value = some v) (empty : t.slot = none) : (t.reassert g).slot = some ⟨v, .reassert, false⟩ := by
  rw [Point.reassert, live, output, value, empty]
  exact congrArg Point.slot (if_pos home)

theorem reassert_kept (t : Point) : (t.reassert g).life = t.life ∧ (t.reassert g).kind = t.kind ∧
    (t.reassert g).seg = t.seg ∧ (t.reassert g).slot.any Slot.urgent = t.slot.any Slot.urgent := by
  rcases reassert_cases (g := g) t with same | ⟨v, empty, same⟩
  · simp [same]
  · simp [same, empty]

/-- The segment is powered, with FEED, its link READY and the re-assert values in their slots. -/
def State.feedPowers (s : State) (g : Seg) : State :=
  (((s.modFeed g fun f => { f with state := .on, startTimer := none, settleTimer := none }).raiseSeg g .feed).modLink g
    Link.powerUp).mapPoints (Point.reassert g)

/-- The urgent values of the segment have been offered. -/
def State.feedOffers (s : State) (g : Seg) : State :=
  s.forPoints (s.liveOutputs g) fun i t => t.offerAgain g i

theorem feedEntersOn_eq (s : State) (g : Seg) (e : Env) :
    s.feedEntersOn g e = ((s.feedPowers g).feedOffers g).linkReady g e := rfl

theorem point_feedPowers (s : State) (g : Seg) (j : PointIdx) :
    (s.feedPowers g).point j = (s.point j).reassert g := by
  rw [State.feedPowers, point_mapPoints]
  exact congrArg (Point.reassert g) ((raiseSeg_noticesOnly _ g .feed).point j)

theorem seg_feedPowers (s : State) (g : Seg) : (s.feedPowers g).seg g =
    { s.seg g with
      feed := { s.feed g with state := .on, startTimer := none, settleTimer := none }
      link := (s.link g).powerUp } := by
  rw [State.feedPowers, seg_mapPoints, State.modLink, seg_modSeg_same, (raiseSeg_noticesOnly _ g .feed).seg,
    State.modFeed, seg_modSeg_same]
  rfl

theorem feedNote_feedPowers (s : State) (g : Seg) (p : Port) :
    ((s.feedPowers g).segNoteOf p g).feed = ((s.segNoteOf p g).feed || (s.port p).segMask.getLsbD 0) := by
  have raised := feedNote_raised (s.modFeed g fun f => { f with state := .on, startTimer := none, settleTimer := none })
    g g p
  rw [decide_eq_true rfl, Bool.true_and] at raised
  exact raised

theorem offered_feedOffers (s : State) (g : Seg) : Offered s (s.liveOutputs g) (s.feedOffers g) := by
  refine offered_forPoints _ (((List.nodup_finRange 256).filter _).filter _) fun i listed => ?_
  simp only [State.liveOutputs, State.livePoints, List.mem_filter, decide_eq_true_eq] at listed
  exact listed.1.2.2

/-- Of the segment's urgent outputs the first eight join an empty queue. -/
theorem joiners_feedPowers (s : State) (g : Seg) (empty : (s.sched g).queue = []) :
    (s.feedPowers g).joiners (((s.feedPowers g).liveOutputs g).filter (s.feedPowers g).offers) g =
      ((List.finRange 256).filter fun j =>
        decide ((s.point j).life = .live ∧ (s.point j).kind = .output ∧ (s.point j).seg = g) &&
          (s.point j).slot.any Slot.urgent).take 8 := by
  have seg := seg_feedPowers s g
  have queue : ((s.feedPowers g).sched g).queue = [] := by rw [State.sched, seg]; exact empty
  rw [joiners_on (by rw [State.feed, seg]), queue, State.liveOutputs, State.livePoints, List.filter_filter,
    List.filter_filter, List.filter_filter]
  refine congrArg (List.take 8) (List.filter_congr fun j _ => ?_)
  obtain ⟨life, kind, home, urgent⟩ := reassert_kept (g := g) (s.point j)
  rw [State.mayJoin, State.offers, queue, point_feedPowers, life, kind, home, urgent, Bool.eq_iff_iff]
  simp only [Bool.and_eq_true, decide_eq_true_eq, List.not_mem_nil, false_imp_iff, implies_true, and_true]
  exact ⟨fun ⟨⟨⟨home, live, urgent⟩, output⟩, _⟩ => ⟨⟨live, output, home⟩, urgent⟩,
    fun ⟨⟨live, output, home⟩, urgent⟩ => ⟨⟨⟨home, live, urgent⟩, output⟩, live, home⟩⟩

end

end Sys2Proof.Machine

namespace Sys2Proof
open Machine

section
variable {s : State} {g : Seg} {e : Env}

/-- What the entry into ON leaves: the link READY or with an exchange begun, the scan not HALTED, the urgent values queued
and the re-assert values pending or in flight. -/
theorem feedEntersOn_result (s : State) (g : Seg) (e : Env) :
    (s.feedEntersOn g e).feed g = { s.feed g with state := .on, startTimer := none, settleTimer := none } ∧
    ((((s.feedEntersOn g e).link g).state = .ready ∨ ∃ x, ((s.feedEntersOn g e).link g).state = .busy .sending x) ∧
      ((s.feedEntersOn g e).link g).faults = 0) ∧
    ((s.feedEntersOn g e).sched g).scan.halted = false ∧
    ((s.sched g).queue = [] →
      ((s.feedEntersOn g e).sched g).queue.map DemandEntry.point =
        ((List.finRange 256).filter fun j =>
          decide ((s.point j).life = .live ∧ (s.point j).kind = .output ∧ (s.point j).seg = g) &&
            (s.point j).slot.any Slot.urgent).take 8 ∧
      ∀ d ∈ ((s.feedEntersOn g e).sched g).queue, d.ports = ⟨false, false⟩) ∧
    (∀ p, ((s.feedEntersOn g e).segNoteOf p g).feed = ((s.segNoteOf p g).feed || (s.port p).segMask.getLsbD 0)) ∧
    ∀ j v, (s.point j).life = .live → (s.point j).kind = .output → (s.point j).seg = g →
      (s.point j).value = some v → (s.point j).slot = none →
      ((s.feedEntersOn g e).point j).slot = some ⟨v, .reassert, false⟩ ∨
        ((s.feedEntersOn g e).point j).inFlight = some ⟨v, .reassert, false⟩ := by
  rw [feedEntersOn_eq]
  have offered := offered_feedOffers (s.feedPowers g) g
  have decided := proceeds_linkReady ((s.feedPowers g).feedOffers g) g e
  have seg := (offered.seg g).trans (congrArg (Segment.joinedBy · _) (seg_feedPowers s g))
  refine ⟨?_, ?_, not_halted_linkReady _ g e, fun empty => ?_, fun p => ?_, fun j v live output home value slot => ?_⟩
  · rw [decided.feed, State.feed, seg]
    rfl
  · have link : ((s.feedPowers g).feedOffers g).link g = (s.link g).powerUp := congrArg Segment.link seg
    rcases decided.link with same | ⟨-, x, idle, begun⟩
    · rw [same, link]
      exact ⟨.inl rfl, rfl⟩
    · rw [begun, link]
      exact ⟨.inr ⟨x, rfl⟩, rfl⟩
  · have empty' : (s.seg g).sched.queue = [] := empty
    have grants : ((((s.feedPowers g).feedOffers g).linkReady g e).sched g).queue.map (fun d => (d.point, d.ports)) =
        ((s.feedPowers g).joiners (((s.feedPowers g).liveOutputs g).filter (s.feedPowers g).offers) g).map
          fun j => (j, ⟨false, false⟩) := by
      rw [decided.queue, State.sched, seg, Segment.joinedBy, empty', List.nil_append, List.map_map]
      rfl
    rw [← joiners_feedPowers s g empty]
    refine ⟨?_, fun d hd => ?_⟩
    · have points := congrArg (List.map Prod.fst) grants
      rw [List.map_map, List.map_map] at points
      exact points.trans (List.map_id _)
    · have member := List.mem_map_of_mem (f := fun d : DemandEntry => (d.point, d.ports)) hd
      rw [grants, List.mem_map] at member
      obtain ⟨j, -, same⟩ := member
      exact (congrArg Prod.snd same).symm
  · have notes : ((s.feedPowers g).feedOffers g).segNoteOf p g = (s.feedPowers g).segNoteOf p g :=
      segNoteOf_congr (by rw [State.port, offered.ports]; rfl)
    rw [← feedNote_feedPowers, ← notes]
    have k := congrArg SegNote.feed (decided.ended p)
    exact k
  · have placed : (((s.feedPowers g).feedOffers g).point j).slot = some ⟨v, .reassert, false⟩ := by
      rw [offered.point, point_feedPowers]
      exact reassert_due live output home value slot
    rcases decided.taken j with ⟨same, -⟩ | ⟨f, pending, -, flight⟩
    · exact .inl (same.trans placed)
    · exact .inr (flight.trans (pending.symm.trans placed))

theorem limitInForce_eq (f : Feed) : f.limitInForce =
    if f.state = .starting ∧ f.cfg.doubleStart = true then some (2 * f.cfg.limit.milliamps)
    else if f.state = .starting ∨ f.state = .settling ∨ f.state = .on then some f.cfg.limit.milliamps
    else none := by
  unfold Feed.limitInForce
  cases f.state with
  | starting => cases f.cfg.doubleStart <;> simp
  | _ => simp

theorem gate_iff (s : State) (g : Seg) : s.gate g = true ↔ s.inReset = false ∧
    ((s.feed g).state = .starting ∨ (s.feed g).state = .settling ∨ (s.feed g).state = .on) := by
  have closed : (s.feed g).state.closed = true ↔
      (s.feed g).state = .starting ∨ (s.feed g).state = .settling ∨ (s.feed g).state = .on := by
    cases (s.feed g).state <;> simp [FeedState.closed]
  rw [← closed, State.gate, Bool.and_eq_true, Bool.not_eq_true']
  rfl

end

/-- Settles O46: each event by the feed's own rule; a trip by its parts, the entry into ON by `feedEntersOn_result`. -/
theorem feedEvents : Obligations.FeedEvents := by
  refine ⟨gate_iff, limitInForce_eq, fun s g e ticks low awake => ⟨fun closed free => ?_, ?_, fun closed timed due => ?_,
    fun starting timed settles => ?_, fun tripped timed => ?_, fun i event => ?_⟩⟩
  · exact SegEvent.gives .clampBegin awake (modFeed_congr (if_pos (by rw [closed, free]; rfl)))
  · exact SegEvent.gives .clampEnd awake rfl
  · refine ⟨s.feedTrips g e.order, SegEvent.gives (.feedTrip ticks low e) awake ?_, fun latches => ?_,
      fun ms retries => ?_, feedNote_feedTrips s g e.order, fun off => ?_⟩
    · exact if_pos ((tripDue_iff _ _ _).mpr ⟨closed, timed, due⟩)
    · rw [feed_feedTrips, Feed.trip, latches]
      rfl
    · rw [feed_feedTrips, Feed.trip, retries]
      rfl
    · rw [feed_feedTrips]
      exact feedTrips_quiet off e.order
  · refine SegEvent.gives (.startTimerExpiry e) awake ?_
    exact (if_pos ⟨starting, Option.isSome_iff_ne_none.mpr timed⟩).trans (if_neg settles)
  · refine SegEvent.gives .retryTimerExpiry awake ?_
    exact if_pos ⟨tripped, Option.isSome_iff_ne_none.mpr timed⟩
  · have run : exec i s = .next (s.feedEntersOn g e) := by
      rcases event with ⟨rfl, starting, timed, now⟩ | ⟨rfl, settling, timed⟩
      · exact SegEvent.gives (.startTimerExpiry e) awake
          ((if_pos ⟨starting, Option.isSome_iff_ne_none.mpr timed⟩).trans (if_pos now))
      · exact SegEvent.gives (.settleTimerExpiry e) awake (if_pos ⟨settling, Option.isSome_iff_ne_none.mpr timed⟩)
    obtain ⟨feed, link, scan, queue, notes, slots⟩ := feedEntersOn_result s g e
    exact ⟨_, run, feed, link.1, link.2, scan, queue, notes, slots⟩

end Sys2Proof
end

section
/-! PROOF. The end of an attempt (R109 to R112): its report to the tallies, then a new attempt, a backoff or the outcome,
after which the link rests. -/

namespace Sys2Proof.Machine

/-! ### A report to the tallies (R130) -/

section
variable (s : State) (g : Seg) (evs : List TallyEvent) (node : Option NodeIdx)

/-- The segment's counters after a report. -/
def Segment.tallied (v : Segment) (evs : List TallyEvent) (node : Option NodeIdx) : Segment :=
  { v with
    tally0 := if v.tally0.counts evs node then v.tally0.step else v.tally0
    tally1 := if v.tally1.counts evs node then v.tally1.step else v.tally1 }

/-- The counter goes from 65535 to 0 by the report. -/
def Tally.wraps (c : Tally) (evs : List TallyEvent) (node : Option NodeIdx) : Bool :=
  c.counts evs node && decide (c.count = 0xFFFF)

theorem tally_eq : s.tally g evs node =
    (fun t => if (s.seg g).tally1.wraps evs node then t.raiseSeg g (.tally true) else t)
      ((fun t => if (s.seg g).tally0.wraps evs node then t.raiseSeg g (.tally false) else t)
        (s.modSeg g fun v => v.tallied evs node)) := by
  unfold State.tally
  dsimp only
  rw [modSeg_congr (k := fun v => v.tallied evs node) rfl]
  rfl

theorem raiseSeg_if_noticesOnly (s : State) (g : Seg) (r : SegReason) (due : Bool) :
    NoticesOnly s (if due then s.raiseSeg g r else s) := by
  split
  · exact raiseSeg_noticesOnly s g r
  · exact .refl s

theorem tally_noticesOnly : NoticesOnly (s.modSeg g fun v => v.tallied evs node) (s.tally g evs node) := by
  rw [tally_eq]
  exact (raiseSeg_if_noticesOnly _ g _ _).trans (raiseSeg_if_noticesOnly _ g _ _)

theorem seg_tally : (s.tally g evs node).seg g = (s.seg g).tallied evs node := by
  rw [(tally_noticesOnly s g evs node).seg, seg_modSeg_same]

theorem seg_tally_ne {h : Seg} (other : h ≠ g) : (s.tally g evs node).seg h = s.seg h := by
  rw [(tally_noticesOnly s g evs node).seg, seg_modSeg, if_neg other]

theorem points_tally : (s.tally g evs node).points = s.points :=
  (tally_noticesOnly s g evs node).points

theorem noteOf_raiseSeg_if (r : SegReason) (due : Bool) (p : Port) (j : PointIdx) :
    (if due then s.raiseSeg g r else s).noteOf p j = s.noteOf p j := by
  split
  · exact noteOf_raiseSeg s g j r p
  · rfl

theorem noteOf_tally (p : Port) (j : PointIdx) : (s.tally g evs node).noteOf p j = s.noteOf p j := by
  rw [tally_eq]
  exact (noteOf_raiseSeg_if _ g _ _ p j).trans (noteOf_raiseSeg_if _ g _ _ p j)

theorem segMask_raiseSeg (r : SegReason) (p : Port) : ((s.raiseSeg g r).port p).segMask = (s.port p).segMask :=
  segMask_of_bare ((raiseSeg_noticesOnly s g r).ports p)

theorem segNoteOf_tally (p : Port) (h : Seg) : (s.tally g evs node).segNoteOf p h =
    if h = g then
      { s.segNoteOf p h with
        wrap0 := (s.segNoteOf p h).wrap0 || ((s.seg g).tally0.wraps evs node && (s.port p).segMask.getLsbD 5)
        wrap1 := (s.segNoteOf p h).wrap1 || ((s.seg g).tally1.wraps evs node && (s.port p).segMask.getLsbD 5) }
    else s.segNoteOf p h := by
  have bit (second : Bool) : (SegReason.tally second).bit = 5 := rfl
  have counted : (s.modSeg g fun v => v.tallied evs node).segNoteOf p h = s.segNoteOf p h := rfl
  have port : (s.modSeg g fun v => v.tallied evs node).port p = s.port p := rfl
  rw [tally_eq]
  dsimp only
  by_cases here : h = g
  · subst here
    cases (s.seg h).tally0.wraps evs node <;> cases (s.seg h).tally1.wraps evs node <;>
      by_cases masked : (s.port p).segMask[5] = true <;>
      simp [segNoteOf_raiseSeg, segMask_raiseSeg, bit, counted, port, masked, SegNote.add]
  · rw [if_neg here]
    cases (s.seg g).tally0.wraps evs node <;> cases (s.seg g).tally1.wraps evs node <;>
      simp [segNoteOf_raiseSeg, here, counted]

end

theorem named_tally (s : State) (g : Seg) (evs : List TallyEvent) (node : Option NodeIdx) (q : Port) (j : PointIdx) :
    (s.tally g evs node).named q j = s.named q j := by
  rw [tally_eq]
  exact (named_raiseSeg_if _ g _ _ q j).trans (named_raiseSeg_if _ g _ _ q j)

/-! ### Attempt results (R110 to R112) -/

/-- The outcome that an attempt result gives the exchange, where it ends it. -/
def AttemptResult.outcome (more : Bool) : AttemptResult → Option ExchangeOutcome
  | .accepted => some .ok
  | .noObject => some .refused
  | .badLength => some .refused
  | .readOnly => some .refused
  | .noResponse => if more then none else some .failed
  | .checkError => if more then none else some .failed
  | .busy => if more then none else some .deferred

section
variable {s u : State} {g : Seg} {x : Exchange} {i : Instr}

/-- More attempts are left. -/
def State.retries (s : State) (g : Seg) (x : Exchange) : Bool := decide (x.attempts < (s.link g).cfg.retries + 1)

/-- The attempt is reported. -/
def State.reported (s : State) (g : Seg) (x : Exchange) (r : AttemptResult) : State :=
  s.tally g (attemptEvents x r) (some x.node)

/-- The link in its backoff. -/
def Link.backs (l : Link) (x : Exchange) : Link :=
  { l with state := .busy .backoff x, windowTimer := none, backoffTimer := some 1000 }

theorem endAttempt_ends {r : AttemptResult} {o : ExchangeOutcome} (ends : r.outcome (s.retries g x) = some o)
    (received : Option Int) (idle : Bool) (order : List Part) : s.endAttempt g x r received idle order =
      (s.reported g x r).settle g { x with last := some r } o (if r = .accepted then received else none) order := by
  unfold AttemptResult.outcome State.retries at ends
  unfold State.endAttempt
  dsimp only
  cases r with
  | accepted | noObject | badLength | readOnly =>
    cases ends
    rfl
  | noResponse | checkError | busy =>
    cases more : decide (x.attempts < (s.link g).cfg.retries + 1) with
    | true =>
      rw [more] at ends
      cases ends
    | false =>
      rw [more] at ends
      cases ends
      rfl

theorem endAttempt_again {r : AttemptResult} (silent : r = .noResponse ∨ r = .checkError)
    (more : s.retries g x = true) (received : Option Int) (idle : Bool) (order : List Part) :
    s.endAttempt g x r received idle order = (s.reported g x r).modLink g fun l =>
      l.sending { x with attempts := x.attempts + 1, last := some r } idle := by
  unfold State.endAttempt
  dsimp only
  rcases silent with rfl | rfl
  · exact if_pos more
  · exact if_pos more

theorem endAttempt_backs (more : s.retries g x = true) (received : Option Int) (idle : Bool) (order : List Part) :
    s.endAttempt g x .busy received idle order =
      (s.reported g x .busy).modLink g fun l => l.backs { x with last := some .busy } :=
  if_pos more

theorem outcome_eq_none_iff (r : AttemptResult) (more : Bool) : r.outcome more = none ↔
    (r = .noResponse ∨ r = .checkError ∨ r = .busy) ∧ more = true := by
  cases r <;> cases more <;> simp [AttemptResult.outcome]

theorem link_reported (r : AttemptResult) (h : Seg) : (s.reported g x r).link h = s.link h := link_tally s g _ _ h

theorem link_settle (o : ExchangeOutcome) (v : Option Int) (order : List Part) :
    (s.settle g x o v order).link g = (s.link g).rest o := by
  rw [State.settle, link_modLink_same, (touches_hand (F := noSeg) (L := noSeg) (onlySeg_self g) s x o v order).link g id]

/-- The node's own answers are OK and REFUSED. -/
theorem outcome_answers {r : AttemptResult} {more : Bool} {o : ExchangeOutcome} (ends : r.outcome more = some o) :
    o = .ok ∨ o = .refused ↔ ¬(r = .noResponse ∨ r = .checkError ∨ r = .busy) := by
  cases r with
  | accepted | noObject | badLength | readOnly =>
    cases ends
    simp
  | noResponse | checkError | busy =>
    cases more <;> cases ends
    simp

theorem cfg_endAttempt (r : AttemptResult) (received : Option Int) (idle : Bool) (order : List Part) :
    ((s.endAttempt g x r received idle order).link g).cfg = (s.link g).cfg := by
  cases ends : r.outcome (s.retries g x) with
  | some o => rw [endAttempt_ends ends, link_settle, State.reported, link_tally]; rfl
  | none =>
    obtain ⟨again, more⟩ := (outcome_eq_none_iff r _).mp ends
    rcases or_assoc.mpr again with silent | rfl
    · rw [endAttempt_again silent more, link_modLink_same, State.reported, link_tally]
      rfl
    · rw [endAttempt_backs more, link_modLink_same, State.reported, link_tally]
      rfl

/-- The attempt ends with the window timer off, as it is in RECEIVING. -/
def State.windowClosed (s : State) (g : Seg) : State := s.modLink g fun l => { l with windowTimer := none }

/-- The event's own part before the end of the attempt: the window's expiry stops its timer. -/
def Listened (s : State) (g : Seg) (u : State) : Prop := u = s ∨ u = s.windowClosed g

theorem Listened.link_cfg (h : Listened s g u) : (u.link g).cfg = (s.link g).cfg := by
  rcases h with rfl | rfl
  · rfl
  · rw [State.windowClosed, link_modLink_same]

theorem Listened.faults (h : Listened s g u) : (u.link g).faults = (s.link g).faults := by
  rcases h with rfl | rfl
  · rfl
  · rw [State.windowClosed, link_modLink_same]

theorem Listened.link_ne (h : Listened s g u) {k : Seg} (other : k ≠ g) : u.link k = s.link k := by
  rcases h with rfl | rfl
  · rfl
  · rw [State.windowClosed, link_modLink, if_neg other]

theorem Listened.sched (h : Listened s g u) (k : Seg) : u.sched k = s.sched k := by
  rcases h with rfl | rfl
  · rfl
  · exact sched_modLink s g _ k

theorem Listened.points (h : Listened s g u) : u.points = s.points := by
  rcases h with rfl | rfl
  · rfl
  · rfl

theorem Listened.feed (h : Listened s g u) (k : Seg) : u.feed k = s.feed k := by
  rcases h with rfl | rfl
  · rfl
  · exact feed_modLink s g _ k

/-- The value that an accepted READ has brought. -/
def State.receivedBy (s : State) (x : Exchange) (frame : List RxChar) (r : AttemptResult) : Option Int :=
  if r = .accepted ∧ x.func = .read then some (intOfBytes (s.point x.target).signed (responseData frame)) else none

/-- Each of the three events ends the attempt with its result. -/
theorem exec_attempt {e : Env} {frame : List RxChar} {r : AttemptResult} {idle : Bool} (awake : s.inReset = false)
    (event : (i = .responseWindowExpiry g e ∧ (s.link g).state = .busy .awaiting x ∧ r = .noResponse ∧
        idle = e.idle.get g) ∨
      (i = .tenthCharacter g e ∧ (s.link g).state = .busy .receiving x ∧ r = .checkError ∧ idle = false) ∨
      (i = .responseFrameEnd g frame e ∧ (s.link g).state = .busy .receiving x ∧ r = judgeResponse x frame ∧
        idle = true)) :
    ∃ u, Listened s g u ∧ exec i s = .next (u.endAttempt g x r (s.receivedBy x frame r) idle e.order) := by
  obtain ⟨rfl, awaits, rfl, rfl⟩ | ⟨rfl, receives, rfl, rfl⟩ | ⟨rfl, receives, rfl, rfl⟩ := event
  · refine ⟨_, .inr rfl, SegEvent.gives (.responseWindowExpiry e) awake ?_⟩
    change s.windowExpiry g e = _
    rw [State.windowExpiry, awaits]
    rfl
  · refine ⟨s, .inl rfl, SegEvent.gives (.tenthCharacter e) awake ?_⟩
    change s.tenthCharacter g e = _
    rw [State.tenthCharacter, receives]
    rfl
  · refine ⟨s, .inl rfl, SegEvent.gives (.responseFrameEnd frame e) awake ?_⟩
    change s.responseEnd g frame e = _
    rw [State.responseEnd, receives]
    unfold State.frameEnd State.receivedBy
    dsimp only
    cases judgeResponse x frame <;> cases x.func <;> rfl

end

end Sys2Proof.Machine

namespace Sys2Proof
open Machine

/-- Settles O37: the three events end the attempt; its result and the attempts left say how it goes on. -/
theorem attemptEnds : Obligations.AttemptEnds := by
  intro s g x e frame i r idle more awake rfl event
  obtain ⟨u, listened, run⟩ := exec_attempt awake event
  have retries : u.retries g x = decide (x.attempts < (s.link g).cfg.retries + 1) := by
    rw [State.retries, listened.link_cfg]
  have touches : Touches noSeg (onlySeg g) (onlySeg g) u
      (u.endAttempt g x r (s.receivedBy x frame r) idle e.order) :=
    touches_endAttempt (onlySeg_self g) (onlySeg_self g) u x r _ idle e.order
  refine ⟨_, run, fun silent more => ?_, fun busy more => ?_, fun last => ?_, ?_, fun h => ?_, fun h other => ?_⟩
  · rw [endAttempt_again silent (retries.trans more), link_modLink_same]
    refine ⟨rfl, rfl, (points_tally u g _ _).trans listened.points, ?_⟩
    rw [sched_modLink, State.reported, sched_tally, listened.sched]
  · subst busy
    rw [endAttempt_backs (retries.trans more), link_modLink_same]
    refine ⟨rfl, rfl, (points_tally u g _ _).trans listened.points, ?_⟩
    rw [sched_modLink, State.reported, sched_tally, listened.sched]
  · obtain ⟨o, ends⟩ := Option.ne_none_iff_exists'.mp fun none => last (retries ▸ (outcome_eq_none_iff r _).mp none)
    rw [endAttempt_ends ends, link_settle, link_reported]
    refine ⟨rfl, congrArg (fun c : LinkCfg => some c.bitRate.gapMicros) listened.link_cfg, ?_⟩
    rw [Link.rest]
    dsimp only
    rw [listened.faults, if_congr (outcome_answers ends) rfl rfl, ite_not]
  · rw [cfg_endAttempt, listened.link_cfg]
  · rw [touches.feed h id, listened.feed]
  · rw [touches.sched h other, touches.link h other, listened.sched, listened.link_ne other]
    exact ⟨rfl, rfl⟩

end Sys2Proof
end

section
/-! PROOF. What an exchange outcome does, block by block (R79, R112): the point and its notes, the node's record and the
tallies, the closure of a RETIRING target, and the Scheduler. -/

namespace Sys2Proof.Machine

/-! ### Lists that name a record (R17, R152) -/

theorem named_notePoint (s : State) (p q : Port) (i j : PointIdx) (r : PointReason) :
    (s.notePoint p i r).named q j = (s.named q j || (decide (q = p) && decide (j = i))) := by
  have list := attention_modPort s p q
    (mergeEntry (Entry.isPoint i (s.point i).generation) (Entry.addPoint r) (.point i (s.point i).generation .empty))
  have list : ((s.notePoint p i r).port q).attention = _ := list
  rw [named_eq_isSome_find, named_eq_isSome_find, list]
  have point : (s.notePoint p i r).point j = s.point j := rfl
  rw [point]
  by_cases here : q = p
  · rw [if_pos here]
    by_cases same : j = i
    · subst same
      rw [find_mergeEntry (fun e h => by obtain ⟨n, rfl⟩ := isPoint_eq h; exact h) (by simp [Entry.isPoint])]
      simp [here]
    · rw [find_mergeEntry_other (fun e h => by obtain ⟨n, rfl⟩ := isPoint_eq h; simp [Entry.isPoint, Ne.symm same])
        (fun e h => by obtain ⟨n, rfl⟩ := isPoint_eq h; simp [Entry.isPoint, Entry.addPoint, Ne.symm same])
        (by simp [Entry.isPoint])]
      simp [same]
  · rw [if_neg here]
    simp [here]

theorem named_raisePoint (s : State) (i j : PointIdx) (r : PointReason) (dst : PortSet) (q : Port) :
    (s.raisePoint i r dst).named q j = (s.named q j || (decide (j = i) && dst.get q)) := by
  unfold State.raisePoint
  dsimp only
  cases a : dst.a <;> cases b : dst.b <;> cases q <;> simp [named_notePoint, PerPort.get, a, b]

theorem named_modPoint (s : State) (k : PointIdx) {f : Point → Point}
    (generation : (f (s.point k)).generation = (s.point k).generation) (p : Port) (j : PointIdx) :
    (s.modPoint k f).named p j = s.named p j := by
  refine named_congr rfl ?_
  rw [point_modPoint]
  split
  · next same => rw [generation, same]
  · rfl

/-! ### Changes at one point -/

/-- From `s` to `t`, of the records only that of `k` changes, under the same generation, and of the notes only those of
`k`. -/
structure AtPoint (k : PointIdx) (s t : State) : Prop where
  segs : t.segs = s.segs
  bare : ∀ p, (t.port p).bare = (s.port p).bare
  others : ∀ j, j ≠ k → t.point j = s.point j
  generation : (t.point k).generation = (s.point k).generation
  notes : ∀ p j, j ≠ k → t.noteOf p j = s.noteOf p j
  segNotes : ∀ p g, t.segNoteOf p g = s.segNoteOf p g
  devNotes : ∀ p, t.devNoteOf p = s.devNoteOf p
  named : ∀ p j, j ≠ k → t.named p j = s.named p j

section
variable {k : PointIdx} {s t u : State}

theorem AtPoint.refl (k : PointIdx) (s : State) : AtPoint k s s :=
  ⟨rfl, fun _ => rfl, fun _ _ => rfl, rfl, fun _ _ _ => rfl, fun _ _ => rfl, fun _ => rfl, fun _ _ _ => rfl⟩

theorem AtPoint.trans (h : AtPoint k s t) (l : AtPoint k t u) : AtPoint k s u where
  segs := l.segs.trans h.segs
  bare p := (l.bare p).trans (h.bare p)
  others j other := (l.others j other).trans (h.others j other)
  generation := l.generation.trans h.generation
  notes p j other := (l.notes p j other).trans (h.notes p j other)
  segNotes p g := (l.segNotes p g).trans (h.segNotes p g)
  devNotes p := (l.devNotes p).trans (h.devNotes p)
  named p j other := (l.named p j other).trans (h.named p j other)

theorem AtPoint.ite {q : Prop} [Decidable q] (h : q → AtPoint k s t) : AtPoint k s (if q then t else s) := by
  split
  · next due => exact h due
  · exact .refl k s

theorem AtPoint.seg (h : AtPoint k s t) (g : Seg) : t.seg g = s.seg g := by rw [State.seg, h.segs]; rfl

theorem AtPoint.sched (h : AtPoint k s t) (g : Seg) : t.sched g = s.sched g := congrArg Segment.sched (h.seg g)

theorem AtPoint.link (h : AtPoint k s t) (g : Seg) : t.link g = s.link g := congrArg Segment.link (h.seg g)

theorem AtPoint.feed (h : AtPoint k s t) (g : Seg) : t.feed g = s.feed g := congrArg Segment.feed (h.seg g)

theorem AtPoint.node (h : AtPoint k s t) (g : Seg) (n : NodeIdx) : t.node g n = s.node g n :=
  congrArg (fun v : Segment => v.nodes[n.val]) (h.seg g)

theorem noteOf_modPoint (s : State) (k : PointIdx) {f : Point → Point}
    (generation : (f (s.point k)).generation = (s.point k).generation) (p : Port) (j : PointIdx) :
    (s.modPoint k f).noteOf p j = s.noteOf p j := by
  refine noteOf_congr rfl ?_
  rw [point_modPoint]
  split
  · next same => rw [generation, same]
  · rfl

theorem atPoint_modPoint (s : State) (k : PointIdx) {f : Point → Point}
    (generation : (f (s.point k)).generation = (s.point k).generation := by rfl) : AtPoint k s (s.modPoint k f) :=
  ⟨rfl, fun _ => rfl, fun _ other => point_modPoint_ne s f other, by rw [point_modPoint_same, generation],
    fun p j _ => noteOf_modPoint s k generation p j, fun _ _ => rfl, fun _ => rfl,
    fun p j _ => named_modPoint s k generation p j⟩

theorem atPoint_raisePoint (s : State) (k : PointIdx) (r : PointReason) (dst : PortSet) :
    AtPoint k s (s.raisePoint k r dst) :=
  have quiet := raisePoint_noticesOnly s k r dst
  ⟨quiet.segs, quiet.ports, fun j _ => quiet.point j, by rw [quiet.point],
    fun p j other => by rw [noteOf_raisePoint, if_neg fun both => other both.1],
    fun p g => segNoteOf_raisePoint s k r dst p g, fun p => devNoteOf_raisePoint s k r dst p,
    fun p j other => by rw [named_raisePoint, decide_eq_false other, Bool.false_and, Bool.or_false]⟩

theorem atPoint_raiseWrite (s : State) (k : PointIdx) (r : WriteResult) (w : Writer) :
    AtPoint k s (s.raiseWrite k r w) := atPoint_raisePoint s k _ _

theorem atPoint_setQuality (s : State) (k : PointIdx) (q : Quality) : AtPoint k s (s.setQuality k q) := by
  unfold State.setQuality
  split
  · exact .refl k s
  · exact (atPoint_modPoint s k).trans (atPoint_raisePoint _ k _ _)

theorem atPoint_judgeChange (s : State) (k : PointIdx) (old : Option Int) (v : Int) :
    AtPoint k s (s.judgeChange k old v) :=
  .ite fun _ => (atPoint_modPoint s k).trans (atPoint_raisePoint _ k _ _)

theorem atPoint_judgeBand (s : State) (k : PointIdx) (v : Int) : AtPoint k s (s.judgeBand k v) := by
  unfold State.judgeBand
  split
  · exact .refl k s
  · exact (atPoint_modPoint s k).trans (.ite fun _ => atPoint_raisePoint _ k _ _)

theorem atPoint_evaluate (s : State) (k : PointIdx) (old : Option Int) (v : Int) :
    AtPoint k s (s.evaluate k old v) :=
  (atPoint_judgeChange s k old v).trans (atPoint_judgeBand _ k v)

theorem atPoint_readOk (s : State) (k : PointIdx) (v : Int) : AtPoint k s (s.readOk k v) := by
  unfold State.readOk
  dsimp only
  split
  · split
    · exact (atPoint_modPoint s k).trans (atPoint_setQuality _ k _)
    · exact (atPoint_modPoint s k).trans (atPoint_setQuality _ k _)
  · exact ((atPoint_modPoint s k).trans (atPoint_setQuality _ k _)).trans (atPoint_evaluate _ k _ _)
  · exact ((atPoint_modPoint s k).trans (atPoint_setQuality _ k _)).trans (atPoint_evaluate _ k _ _)

theorem atPoint_deliver (s : State) (k : PointIdx) : AtPoint k s (s.deliver k) := by
  unfold State.deliver
  dsimp only
  split
  · exact .refl k s
  · exact (((atPoint_modPoint s k).trans (atPoint_setQuality _ k _)).trans (atPoint_evaluate _ k _ _)).trans
      (atPoint_raiseWrite _ k _ _)

theorem atPoint_writeRefused (s : State) (k : PointIdx) : AtPoint k s (s.writeRefused k) := by
  unfold State.writeRefused
  split
  · exact .refl k s
  · exact (atPoint_modPoint s k).trans (atPoint_raiseWrite _ k _ _)

theorem atPoint_outcomeRetiring (s : State) (k : PointIdx) (o : ExchangeOutcome) :
    AtPoint k s (s.outcomeRetiring k o) := by
  unfold State.outcomeRetiring
  dsimp only
  split
  · exact .refl k s
  · exact (atPoint_modPoint s k).trans (atPoint_raisePoint _ k _ _)

theorem atPoint_tellDemanders (s : State) (k : PointIdx) (o : DemandOutcome) :
    AtPoint k s (s.tellDemanders k o) :=
  .ite fun _ => (atPoint_raisePoint s k _ _).trans (atPoint_modPoint _ k)

end

/-! ### A WRITE that comes back (R63) -/

section
variable {s : State} {g : Seg} {k : PointIdx}

/-- The value in flight goes back to an empty slot or gives way to the one that waits there. -/
def State.comesBack (s : State) (k : PointIdx) (f : Slot) : State :=
  s.modPoint k fun t =>
    { t with inFlight := none, slot := some (t.slot.getD f), failed := min (t.failed + 1) 255 }

/-- The writers that R63 names are told. -/
def State.backTold (s : State) (k : PointIdx) (f : Slot) : State :=
  (fun u : State => if (s.point k).failed = 0 then u.raiseWrite k .delayed ((s.point k).slot.getD f).writer else u)
    (if (s.point k).slot.isSome then (s.comesBack k f).raiseWrite k .superseded f.writer else s.comesBack k f)

theorem writeNotFinal_none (none : (s.point k).inFlight = none) (kind : GrantKind) :
    s.writeNotFinal g k kind = s := by
  rw [State.writeNotFinal, none]

theorem writeNotFinal_some {f : Slot} (flight : (s.point k).inFlight = some f) (kind : GrantKind) :
    s.writeNotFinal g k kind =
      if kind = .scan ∧ (s.point k).slot = none then (s.backTold k f).offerAgain g k else s.backTold k f := by
  rw [State.writeNotFinal, flight]
  dsimp only
  refine if_congr ?_ rfl rfl
  rw [Bool.and_eq_true, decide_eq_true_iff, Option.isNone_iff_eq_none]

theorem atPoint_backTold (s : State) (k : PointIdx) (f : Slot) : AtPoint k s (s.backTold k f) := by
  unfold State.backTold
  have back : AtPoint k s (s.comesBack k f) := atPoint_modPoint s k
  dsimp only
  split
  · split
    · exact (back.trans (atPoint_raiseWrite _ k _ _)).trans (atPoint_raiseWrite _ k _ _)
    · exact back.trans (atPoint_raiseWrite _ k _ _)
  · split
    · exact back.trans (atPoint_raiseWrite _ k _ _)
    · exact back

end

end Sys2Proof.Machine
end

section
/-! PROOF. What an exchange outcome does, block by block (R79, R112), continued: the offer that may follow at the target,
changes at several points in turn, and the judgement of the node with its tallies. -/

namespace Sys2Proof.Machine

section
variable {s t u : State} {g : Seg} {k : PointIdx}

/-! ### The outcome at the target (R15, R26 to R31, R61 to R63) -/

/-- What an outcome does at its target, before a value that came back is offered again. -/
def State.pointOutcome (s : State) (x : Exchange) (o : ExchangeOutcome) (received : Option Int) : State :=
  match (s.point x.target).life with
  | .live =>
    match o, x.func with
    | .ok, .read => received.elim s (s.readOk x.target)
    | .ok, .write => s.deliver x.target
    | .refused, .read => s.setQuality x.target .refused
    | .refused, .write => (s.setQuality x.target .refused).writeRefused x.target
    | _, .read => s
    | _, .write => (s.point x.target).inFlight.elim s (s.backTold x.target)
  | .retiring => s.outcomeRetiring x.target o
  | _ => s

/-- A scan WRITE that was not final has put its value back into an empty slot. -/
def State.givesBack (s : State) (x : Exchange) (o : ExchangeOutcome) : Bool :=
  decide ((s.point x.target).life = .live ∧ x.func = .write ∧ (o ≠ .ok ∧ o ≠ .refused) ∧ x.kind = .scan ∧
    (s.point x.target).slot = none ∧ (s.point x.target).inFlight ≠ none)

theorem givesBack_iff (s : State) (x : Exchange) (o : ExchangeOutcome) : s.givesBack x o = true ↔
    (s.point x.target).life = .live ∧ x.func = .write ∧ (o ≠ .ok ∧ o ≠ .refused) ∧ x.kind = .scan ∧
      (s.point x.target).slot = none ∧ (s.point x.target).inFlight ≠ none := decide_eq_true_iff

theorem atPoint_pointOutcome (s : State) (x : Exchange) (o : ExchangeOutcome) (received : Option Int) :
    AtPoint x.target s (s.pointOutcome x o received) := by
  unfold State.pointOutcome
  split
  · split
    · cases received with
      | none => exact .refl _ s
      | some v => exact atPoint_readOk s _ v
    · exact atPoint_deliver s _
    · exact atPoint_setQuality s _ _
    · exact (atPoint_setQuality s _ _).trans (atPoint_writeRefused _ _)
    · exact .refl _ s
    · cases (s.point x.target).inFlight with
      | none => exact .refl _ s
      | some f => exact atPoint_backTold s _ f
  · exact atPoint_outcomeRetiring s _ o
  · exact .refl _ s

theorem outcomePoint_gives {x : Exchange} {o : ExchangeOutcome} (gives : s.givesBack x o = true) (received : Option Int) :
    s.outcomePoint g x o received = (s.pointOutcome x o received).offerAgain g x.target := by
  obtain ⟨live, write, ⟨ok, refused⟩, scan, empty, flying⟩ := (givesBack_iff s x o).mp gives
  obtain ⟨f, flight⟩ := Option.ne_none_iff_exists'.mp flying
  unfold State.outcomePoint State.pointOutcome State.outcomeLive
  dsimp only
  rw [live, write, flight]
  cases o with
  | ok => exact absurd rfl ok
  | refused => exact absurd rfl refused
  | failed | deferred | lineFault | abandoned => exact (writeNotFinal_some flight x.kind).trans (if_pos ⟨scan, empty⟩)

theorem outcomePoint_rests {x : Exchange} {o : ExchangeOutcome} (rests : s.givesBack x o = false) (received : Option Int) :
    s.outcomePoint g x o received = s.pointOutcome x o received := by
  have back (live : (s.point x.target).life = .live) (write : x.func = .write) (ok : o ≠ .ok) (refused : o ≠ .refused) :
      s.writeNotFinal g x.target x.kind = (s.point x.target).inFlight.elim s (s.backTold x.target) := by
    cases flight : (s.point x.target).inFlight with
    | none => exact writeNotFinal_none flight x.kind
    | some f =>
      refine (writeNotFinal_some flight x.kind).trans (if_neg fun both => Bool.eq_false_iff.mp rests
        ((givesBack_iff s x o).mpr ?_))
      exact ⟨live, write, ⟨ok, refused⟩, both.1, both.2, by rw [flight]; nofun⟩
  unfold State.outcomePoint State.pointOutcome State.outcomeLive
  dsimp only
  cases live : (s.point x.target).life with
  | live =>
    cases write : x.func with
    | read => cases o <;> cases received <;> rfl
    | write =>
      cases o with
      | ok | refused => rfl
      | failed | deferred | lineFault | abandoned => exact back live write nofun nofun
  | _ => rfl

/-! ### An offer (R57, R58, R63) -/

/-- The LIVE point's urgent value joins the segment's demand queue when it is offered. -/
def State.rejoins (s : State) (g : Seg) (i : PointIdx) : Bool := s.offers i && decide (s.urgentCode g i = 1)

/-- The entries that an offer adds. -/
def State.rejoined (s : State) (g : Seg) (i : PointIdx) : List PointIdx := if s.rejoins g i then [i] else []

theorem offerAgain_joins (joins : s.rejoins g k = true) : s.offerAgain g k = s.joinQueue g k noPorts := by
  obtain ⟨offers, one⟩ := Bool.and_eq_true_iff.mp joins
  rw [offerAgain_eq, if_pos offers, State.offerUrgent, if_pos (of_decide_eq_true one)]

theorem offerAgain_stays (stays : s.rejoins g k = false) : s.offerAgain g k = s := by
  rw [offerAgain_eq]
  split
  · next offers =>
    rw [State.rejoins, offers, Bool.true_and] at stays
    exact if_neg (of_decide_eq_false stays)
  · rfl

/-- From `s` to `t`, at most entries have joined the queue of a segment at its tail. -/
structure Joins (g : Seg) (js : List PointIdx) (s t : State) : Prop where
  points : t.points = s.points
  ports : t.ports = s.ports
  seg : t.seg g = (s.seg g).joinedBy js
  others : ∀ h, h ≠ g → t.seg h = s.seg h

theorem joins_offerAgain (s : State) (g : Seg) (k : PointIdx) : Joins g (s.rejoined g k) s (s.offerAgain g k) := by
  unfold State.rejoined
  cases joins : s.rejoins g k with
  | true =>
    rw [offerAgain_joins joins]
    exact ⟨rfl, rfl, seg_modSeg_same s g _, fun h other => (seg_modSeg s g h _).trans (if_neg other)⟩
  | false =>
    rw [offerAgain_stays joins]
    exact ⟨rfl, rfl, (joinedBy_nil _).symm, fun _ _ => rfl⟩

section
variable {js : List PointIdx} (h : Joins g js s t)
include h

theorem Joins.point (j : PointIdx) : t.point j = s.point j := by rw [State.point, h.points]; rfl

theorem Joins.port (p : Port) : t.port p = s.port p := by rw [State.port, h.ports]; rfl

theorem Joins.notes (p : Port) (j : PointIdx) : t.noteOf p j = s.noteOf p j :=
  noteOf_congr (by rw [h.port]) (by rw [h.point])

theorem Joins.segNotes (p : Port) (x : Seg) : t.segNoteOf p x = s.segNoteOf p x := segNoteOf_congr (by rw [h.port])

theorem Joins.devNotes (p : Port) : t.devNoteOf p = s.devNoteOf p := devNoteOf_congr (by rw [h.port])

theorem Joins.node (x : Seg) (n : NodeIdx) : t.node x n = s.node x n := by
  by_cases here : x = g
  · subst here
    exact (congrArg (fun v : Segment => v.nodes[n.val]) h.seg).trans rfl
  · exact congrArg (fun v : Segment => v.nodes[n.val]) (h.others x here)

theorem Joins.link (x : Seg) : t.link x = s.link x := by
  by_cases here : x = g
  · subst here
    exact (congrArg Segment.link h.seg).trans rfl
  · exact congrArg Segment.link (h.others x here)

theorem Joins.sched : t.sched g =
    { s.sched g with queue := (s.sched g).queue ++ js.map fun j => ⟨j, ⟨false, false⟩, false⟩ } :=
  congrArg Segment.sched h.seg

end

/-! ### Points in turn -/

/-- From `s` to `u`, each of some points has changed in its turn by what `step` does at it. -/
structure Turns (step : PointIdx → State → State) (is : List PointIdx) (s u : State) : Prop where
  segs : u.segs = s.segs
  bare : ∀ p, (u.port p).bare = (s.port p).bare
  others : ∀ j, j ∉ is → u.point j = s.point j
  notes : ∀ p j, j ∉ is → u.noteOf p j = s.noteOf p j
  segNotes : ∀ p g, u.segNoteOf p g = s.segNoteOf p g
  devNotes : ∀ p, u.devNoteOf p = s.devNoteOf p
  named : ∀ p j, j ∉ is → u.named p j = s.named p j
  turn : ∀ j ∈ is, ∃ v, (v.point j = s.point j ∧ ∀ p, v.noteOf p j = s.noteOf p j) ∧
    u.point j = (step j v).point j ∧ ∀ p, u.noteOf p j = (step j v).noteOf p j

theorem turns_forPoints {step : PointIdx → State → State} (own : ∀ i t, AtPoint i t (step i t)) (is : List PointIdx)
    (once : is.Nodup) (s : State) : Turns step is s (s.forPoints is step) := by
  induction is generalizing s with
  | nil => exact ⟨rfl, fun _ => rfl, fun _ _ => rfl, fun _ _ _ => rfl, fun _ _ => rfl, fun _ => rfl,
      fun _ _ _ => rfl, nofun⟩
  | cons i is ih =>
    obtain ⟨new, once⟩ := List.nodup_cons.mp once
    have first := own i s
    have later := ih once (step i s)
    refine ⟨later.segs.trans first.segs, fun p => (later.bare p).trans (first.bare p), fun j out => ?_, fun p j out => ?_,
      fun p g => (later.segNotes p g).trans (first.segNotes p g), fun p => (later.devNotes p).trans (first.devNotes p),
      fun p j out => ?_, fun j member => ?_⟩
    · obtain ⟨other, out⟩ := List.ne_and_not_mem_of_not_mem_cons out
      exact (later.others j out).trans (first.others j other)
    · obtain ⟨other, out⟩ := List.ne_and_not_mem_of_not_mem_cons out
      exact (later.notes p j out).trans (first.notes p j other)
    · obtain ⟨other, out⟩ := List.ne_and_not_mem_of_not_mem_cons out
      exact (later.named p j out).trans (first.named p j other)
    · by_cases same : j = i
      · subst same
        exact ⟨s, ⟨rfl, fun _ => rfl⟩, later.others j new, fun p => later.notes p j new⟩
      · obtain ⟨v, ⟨point, notes⟩, after, told⟩ := later.turn j ((List.mem_cons.mp member).resolve_left same)
        exact ⟨v, ⟨point.trans (first.others j same), fun p => (notes p).trans (first.notes p j same)⟩, after, told⟩

theorem point_setQuality_same (s : State) (k : PointIdx) (q : Quality) :
    (s.setQuality k q).point k = { s.point k with quality := q } := by
  unfold State.setQuality
  split
  · next same => rw [← same]
  · rw [(raisePoint_noticesOnly _ k _ _).point, point_modPoint_same]

/-! ### The node's loss at its points (R32) -/

/-- A LIVE point of the node, which is marked when the node is LOST. -/
def Point.losesNode (t : Point) (g : Seg) (n : NodeIdx) : Bool :=
  decide (t.life = .live ∧ t.seg = g ∧ t.node = n ∧ t.quality ≠ .unpowered)

theorem losesNode_iff (t : Point) (g : Seg) (n : NodeIdx) : t.losesNode g n = true ↔
    t.life = .live ∧ t.seg = g ∧ t.node = n ∧ t.quality ≠ .unpowered := decide_eq_true_iff

/-- What the loss does at one LIVE point of the segment. -/
def State.markLost (n : NodeIdx) (i : PointIdx) (s : State) : State :=
  if (s.point i).node = n ∧ (s.point i).quality ≠ .unpowered then s.setQuality i .nodeLost else s

theorem turns_nodeLost (s : State) (g : Seg) (n : NodeIdx) :
    Turns (State.markLost n) (s.livePoints g) s (s.nodeLost g n) :=
  turns_forPoints (fun i t => .ite fun _ => atPoint_setQuality t i _) _ ((List.nodup_finRange 256).filter _) s

theorem point_nodeLost (s : State) (g : Seg) (n : NodeIdx) (j : PointIdx) : (s.nodeLost g n).point j =
    if (s.point j).losesNode g n then { s.point j with quality := .nodeLost } else s.point j := by
  have turns := turns_nodeLost s g n
  by_cases listed : j ∈ s.livePoints g
  · obtain ⟨v, ⟨point, -⟩, after, -⟩ := turns.turn j listed
    obtain ⟨live, home⟩ := (mem_livePoints s g j).mp listed
    rw [after, State.markLost, point]
    by_cases marked : (s.point j).node = n ∧ (s.point j).quality ≠ .unpowered
    · rw [if_pos marked, point_setQuality_same, point, if_pos ((losesNode_iff _ g n).mpr ⟨live, home, marked⟩)]
    · rw [if_neg marked, point, if_neg fun loses => marked ((losesNode_iff _ g n).mp loses).2.2]
  · rw [turns.others j listed, if_neg fun loses => ?_]
    obtain ⟨live, home, -⟩ := (losesNode_iff _ g n).mp loses
    exact listed ((mem_livePoints s g j).mpr ⟨live, home⟩)

theorem noteOf_nodeLost (s : State) (g : Seg) (n : NodeIdx) (p : Port) (j : PointIdx) :
    (s.nodeLost g n).noteOf p j =
      if (s.point j).losesNode g n = true ∧ (s.point j).quality ≠ .nodeLost ∧
          ((s.point j).subscribers 2).get p = true then
        (s.noteOf p j).add .quality
      else s.noteOf p j := by
  have turns := turns_nodeLost s g n
  by_cases listed : j ∈ s.livePoints g
  · obtain ⟨v, ⟨point, notes⟩, -, told⟩ := turns.turn j listed
    obtain ⟨live, home⟩ := (mem_livePoints s g j).mp listed
    rw [told, State.markLost, point]
    by_cases marked : (s.point j).node = n ∧ (s.point j).quality ≠ .unpowered
    · have loses := (losesNode_iff _ g n).mpr ⟨live, home, marked⟩
      rw [if_pos marked, noteOf_setQuality, point, notes]
      exact if_congr ⟨fun both => ⟨loses, both.2⟩, fun both => ⟨rfl, both.2⟩⟩ rfl rfl
    · rw [if_neg marked, notes, if_neg fun both => marked ((losesNode_iff _ g n).mp both.1).2.2]
  · rw [turns.notes p j listed, if_neg fun both => ?_]
    obtain ⟨live, home, -⟩ := (losesNode_iff _ g n).mp both.1
    exact listed ((mem_livePoints s g j).mpr ⟨live, home⟩)

/-! ### The judgement of the node and its report (R121, R125, R130) -/

/-- The node record that the outcome of the exchange leaves. -/
def State.judged (s : State) (g : Seg) (x : Exchange) (o : ExchangeOutcome) : NodeRec :=
  (s.node g x.node).judge o (s.link g).cfg.lostLimit

/-- The record judged, and the outcome reported. -/
def State.recorded (s : State) (g : Seg) (x : Exchange) (o : ExchangeOutcome) : State :=
  (s.modNode g x.node fun _ => s.judged g x o).tally g (outcomeEvents x o) (some x.node)

theorem bringsLost_iff (s : State) (g : Seg) (x : Exchange) (o : ExchangeOutcome) : s.bringsLost g x.node o ↔
    (s.judged g x o).state = .lost ∧ (s.node g x.node).state ≠ .lost := by
  unfold State.bringsLost State.judged NodeRec.judge
  by_cases idle : (s.node g x.node).state = .idle
  · rw [if_pos idle, idle]
    simp
  · rw [if_neg idle]
    cases o with
    | failed =>
      by_cases lost : (s.node g x.node).state = .lost
      · simp [lost]
      · by_cases reached : (s.link g).cfg.lostLimit ≤ min ((s.node g x.node).failures + 1) Config.failuresMax
        · simp [idle, lost, reached]
        · simp [idle, lost, reached]
    | ok | refused | deferred | lineFault | abandoned => simp

/-- The two parts that follow, in either order. -/
def State.nodeTold (s : State) (g : Seg) (n : NodeIdx) (changed : Bool) : State :=
  if changed then s.raiseSeg g (.node n) else s

def State.nodeMarked (s : State) (g : Seg) (n : NodeIdx) (lost : Bool) : State :=
  if lost then s.nodeLost g n else s

theorem outcomeNode_cases (s : State) (g : Seg) (x : Exchange) (o : ExchangeOutcome) (order : List Part) :
    ∃ changed lost : Bool, (changed = true ↔ (s.judged g x o).state ≠ (s.node g x.node).state) ∧
      (lost = true ↔ s.bringsLost g x.node o) ∧
      (s.outcomeNode g x o order = ((s.recorded g x o).nodeTold g x.node changed).nodeMarked g x.node lost ∨
        s.outcomeNode g x o order = ((s.recorded g x o).nodeMarked g x.node lost).nodeTold g x.node changed) := by
  refine ⟨decide ((s.judged g x o).state ≠ (s.node g x.node).state),
    decide ((s.judged g x o).state = .lost) && decide ((s.node g x.node).state ≠ .lost), decide_eq_true_iff, ?_, ?_⟩
  · rw [bringsLost_iff, Bool.and_eq_true, decide_eq_true_iff, decide_eq_true_iff]
  · unfold State.outcomeNode
    dsimp only
    rcases arrange_pair order (a := .nodes g) (b := .points g) nofun with same | same
    · rw [same]
      exact .inl rfl
    · rw [same]
      exact .inr rfl

/-- From `s` to `t`, the node of an exchange has been judged by its outcome, the tallies have counted it, and the points
of a node that is LOST by it are marked. -/
structure NodeOutcome (g : Seg) (x : Exchange) (o : ExchangeOutcome) (s t : State) : Prop where
  seg : t.seg g = Segment.tallied { s.seg g with nodes := (s.seg g).nodes.set x.node.val (s.judged g x o) x.node.isLt }
    (outcomeEvents x o) (some x.node)
  segs : ∀ h, h ≠ g → t.seg h = s.seg h
  bare : ∀ p, (t.port p).bare = (s.port p).bare
  points : ¬ s.bringsLost g x.node o → t.points = s.points
  marked : s.bringsLost g x.node o → ∀ j, t.point j =
    if (s.point j).losesNode g x.node then { s.point j with quality := .nodeLost } else s.point j
  notes : ¬ s.bringsLost g x.node o → ∀ p j, t.noteOf p j = s.noteOf p j
  told : s.bringsLost g x.node o → ∀ p j, t.noteOf p j =
    if (s.point j).losesNode g x.node = true ∧ (s.point j).quality ≠ .nodeLost ∧
        ((s.point j).subscribers 2).get p = true then
      (s.noteOf p j).add .quality
    else s.noteOf p j
  named : ∀ p j, (s.point j).life ≠ .live → t.named p j = s.named p j
  segNotes : ∀ p, t.segNoteOf p g =
    { s.segNoteOf p g with
      nodes := if (s.judged g x o).state ≠ (s.node g x.node).state ∧ (s.port p).segMask.getLsbD 4 = true then
          (s.segNoteOf p g).nodes ||| BitVec.twoPow 30 x.node.val
        else (s.segNoteOf p g).nodes
      wrap0 := (s.segNoteOf p g).wrap0 ||
        ((s.seg g).tally0.wraps (outcomeEvents x o) (some x.node) && (s.port p).segMask.getLsbD 5)
      wrap1 := (s.segNoteOf p g).wrap1 ||
        ((s.seg g).tally1.wraps (outcomeEvents x o) (some x.node) && (s.port p).segMask.getLsbD 5) }

theorem recorded_points (s : State) (g : Seg) (x : Exchange) (o : ExchangeOutcome) :
    (s.recorded g x o).points = s.points := points_tally _ g _ _

theorem seg_recorded (s : State) (g : Seg) (x : Exchange) (o : ExchangeOutcome) : (s.recorded g x o).seg g =
    Segment.tallied { s.seg g with nodes := (s.seg g).nodes.set x.node.val (s.judged g x o) x.node.isLt }
      (outcomeEvents x o) (some x.node) := by
  rw [State.recorded, seg_tally, State.modNode, seg_modSeg_same]

theorem noteOf_nodeTold (s : State) (g : Seg) (n : NodeIdx) (changed : Bool) (p : Port) (j : PointIdx) :
    (s.nodeTold g n changed).noteOf p j = s.noteOf p j := noteOf_raiseSeg_if s g _ changed p j

theorem segNoteOf_nodeTold (s : State) (g : Seg) (n : NodeIdx) (changed : Bool) (p : Port) :
    (s.nodeTold g n changed).segNoteOf p g = { s.segNoteOf p g with
      nodes := if changed = true ∧ (s.port p).segMask.getLsbD 4 = true then
          (s.segNoteOf p g).nodes ||| BitVec.twoPow 30 n.val
        else (s.segNoteOf p g).nodes } := by
  unfold State.nodeTold
  cases changed with
  | false => simp
  | true =>
    rw [if_pos rfl, segNoteOf_raiseSeg]
    have bit : (SegReason.node n).bit = 4 := rfl
    by_cases masked : (s.port p).segMask.getLsbD 4 = true
    · rw [bit, if_pos ⟨rfl, masked⟩, if_pos ⟨rfl, masked⟩]
      rfl
    · rw [bit, if_neg fun both => masked both.2, if_neg fun both => masked both.2]

theorem nodeTold_noticesOnly (s : State) (g : Seg) (n : NodeIdx) (changed : Bool) :
    NoticesOnly s (s.nodeTold g n changed) := raiseSeg_if_noticesOnly s g _ changed

/-- From `s` to `t`, NODE has been raised where the state changed, and the points of a LOST node marked. -/
structure NodeFollows (g : Seg) (n : NodeIdx) (changed lost : Bool) (s t : State) : Prop where
  segs : t.segs = s.segs
  bare : ∀ p, (t.port p).bare = (s.port p).bare
  points : lost = false → t.points = s.points
  marked : lost = true → ∀ j, t.point j = (s.nodeLost g n).point j
  notes : lost = false → ∀ p j, t.noteOf p j = s.noteOf p j
  told : lost = true → ∀ p j, t.noteOf p j = (s.nodeLost g n).noteOf p j
  named : ∀ p j, (s.point j).life ≠ .live → t.named p j = s.named p j
  segNotes : ∀ p, t.segNoteOf p g = (s.nodeTold g n changed).segNoteOf p g

theorem nodeFollows_told (s : State) (g : Seg) (n : NodeIdx) (changed lost : Bool) :
    NodeFollows g n changed lost s ((s.nodeTold g n changed).nodeMarked g n lost) := by
  have told := nodeTold_noticesOnly s g n changed
  unfold State.nodeMarked
  cases lost with
  | false =>
    exact ⟨told.segs, told.ports, fun _ => told.points, nofun, fun _ => noteOf_nodeTold s g n changed, nofun,
      fun p j _ => named_raiseSeg_if s g _ changed p j, fun _ => rfl⟩
  | true =>
    have turns := turns_nodeLost (s.nodeTold g n changed) g n
    refine ⟨turns.segs.trans told.segs, fun p => (turns.bare p).trans (told.ports p), nofun, fun _ j => ?_, nofun,
      fun _ p j => ?_, fun p j idle => ?_, fun p => turns.segNotes p g⟩
    · rw [if_pos rfl, point_nodeLost, point_nodeLost, told.point]
    · rw [if_pos rfl, noteOf_nodeLost, noteOf_nodeLost, told.point, noteOf_nodeTold]
    · have out : j ∉ (s.nodeTold g n changed).livePoints g := fun listed =>
        idle (by rw [← told.point]; exact ((mem_livePoints _ g j).mp listed).1)
      exact (turns.named p j out).trans (named_raiseSeg_if s g _ changed p j)

theorem nodeFollows_marked (s : State) (g : Seg) (n : NodeIdx) (changed lost : Bool) :
    NodeFollows g n changed lost s ((s.nodeMarked g n lost).nodeTold g n changed) := by
  have told (u : State) := nodeTold_noticesOnly u g n changed
  unfold State.nodeMarked
  cases lost with
  | false =>
    exact ⟨(told s).segs, (told s).ports, fun _ => (told s).points, nofun, fun _ => noteOf_nodeTold s g n changed, nofun,
      fun p j _ => named_raiseSeg_if s g _ changed p j, fun _ => rfl⟩
  | true =>
    have turns := turns_nodeLost s g n
    rw [if_pos rfl]
    refine ⟨(told _).segs.trans turns.segs, fun p => ((told _).ports p).trans (turns.bare p), nofun,
      fun _ j => (told _).point j, nofun, fun _ => noteOf_nodeTold _ g n changed, fun p j idle => ?_, fun p => ?_⟩
    · have out : j ∉ s.livePoints g := fun listed => idle ((mem_livePoints s g j).mp listed).1
      exact (named_raiseSeg_if _ g _ changed p j).trans (turns.named p j out)
    rw [segNoteOf_nodeTold, segNoteOf_nodeTold, turns.segNotes, segMask_of_bare (turns.bare p)]

theorem NodeFollows.outcome {s t : State} {g : Seg} {x : Exchange} {o : ExchangeOutcome} {changed lost : Bool}
    (changed_iff : changed = true ↔ (s.judged g x o).state ≠ (s.node g x.node).state)
    (lost_iff : lost = true ↔ s.bringsLost g x.node o)
    (follows : NodeFollows g x.node changed lost (s.recorded g x o) t) : NodeOutcome g x o s t := by
  have judged : (s.modNode g x.node fun _ => s.judged g x o).seg g =
      { s.seg g with nodes := (s.seg g).nodes.set x.node.val (s.judged g x o) x.node.isLt } := seg_modSeg_same s g _
  have port (p : Port) : (s.modNode g x.node fun _ => s.judged g x o).port p = s.port p := rfl
  have bare (p : Port) : ((s.recorded g x o).port p).bare = (s.port p).bare :=
    (tally_noticesOnly _ g _ _).ports p
  have point (j : PointIdx) : (s.recorded g x o).point j = s.point j := by
    rw [State.point, recorded_points]
    rfl
  have note (p : Port) (j : PointIdx) : (s.recorded g x o).noteOf p j = s.noteOf p j := noteOf_tally _ g _ _ p j
  have kept (brings : ¬ s.bringsLost g x.node o) : lost = false := Bool.eq_false_iff.mpr fun h => brings (lost_iff.mp h)
  refine ⟨?_, fun h other => ?_, fun p => (follows.bare p).trans (bare p), fun brings => ?_, fun brings j => ?_,
    fun brings p j => ?_, fun brings p j => ?_, fun p j idle => ?_, fun p => ?_⟩
  · rw [State.seg, follows.segs]
    exact seg_recorded s g x o
  · rw [State.seg, follows.segs]
    exact (seg_tally_ne _ g _ _ other).trans ((seg_modSeg s g h _).trans (if_neg other))
  · exact (follows.points (kept brings)).trans (recorded_points s g x o)
  · rw [follows.marked (lost_iff.mpr brings), point_nodeLost, point]
  · rw [follows.notes (kept brings), note]
  · rw [follows.told (lost_iff.mpr brings), noteOf_nodeLost, point, note]
  · exact (follows.named p j (by rwa [point])).trans (named_tally _ g _ _ p j)
  · have counted := segNoteOf_tally (s.modNode g x.node fun _ => s.judged g x o) g (outcomeEvents x o) (some x.node) p g
    rw [if_pos rfl, judged, port] at counted
    have counted : (s.recorded g x o).segNoteOf p g = _ := counted
    rw [follows.segNotes, segNoteOf_nodeTold, segMask_of_bare (bare p), counted]
    simp only [changed_iff]
    rfl

theorem nodeOutcome (s : State) (g : Seg) (x : Exchange) (o : ExchangeOutcome) (order : List Part) :
    NodeOutcome g x o s (s.outcomeNode g x o order) := by
  obtain ⟨changed, lost, changed_iff, lost_iff, same | same⟩ := outcomeNode_cases s g x o order
  · rw [same]
    exact (nodeFollows_told _ g x.node changed lost).outcome changed_iff lost_iff
  · rw [same]
    exact (nodeFollows_marked _ g x.node changed lost).outcome changed_iff lost_iff

end

end Sys2Proof.Machine
end

section
/-! PROOF. What an exchange outcome does, block by block (R79, R112), continued: the closure of a RETIRING target and the
Scheduler's part. -/

namespace Sys2Proof.Machine

section
variable {s t u : State} {g : Seg} {k : PointIdx}

/-! ### The target's own part with the offer behind it (R63) -/

/-- The points that join the queue behind an outcome at its target. -/
def State.returned (s : State) (g : Seg) (x : Exchange) (o : ExchangeOutcome) (received : Option Int) : List PointIdx :=
  if s.givesBack x o then (s.pointOutcome x o received).rejoined g x.target else []

theorem joins_outcomePoint (s : State) (g : Seg) (x : Exchange) (o : ExchangeOutcome) (received : Option Int) :
    Joins g (s.returned g x o received) (s.pointOutcome x o received) (s.outcomePoint g x o received) := by
  unfold State.returned
  cases gives : s.givesBack x o with
  | true =>
    rw [outcomePoint_gives gives]
    exact joins_offerAgain _ g x.target
  | false =>
    rw [outcomePoint_rests gives]
    exact ⟨rfl, rfl, (joinedBy_nil _).symm, fun _ _ => rfl⟩

/-! ### The closure of a record (R16, R17, R120) -/

/-- From `s` to `t`, the record of `k` is closed: its notes and its node's count may change, and nothing else. -/
structure ClosesPoint (k : PointIdx) (s t : State) : Prop where
  segs : t.segs = (s.modNode (s.point k).seg (s.point k).node NodeRec.leave).segs
  bare : ∀ p, (t.port p).bare = (s.port p).bare
  others : ∀ j, j ≠ k → t.point j = s.point j
  notes : ∀ p j, j ≠ k → t.noteOf p j = s.noteOf p j
  segNotes : ∀ p g, t.segNoteOf p g = s.segNoteOf p g
  devNotes : ∀ p, t.devNoteOf p = s.devNoteOf p

theorem closesPoint (s : State) (k : PointIdx) : ClosesPoint k s (s.closePoint k) := by
  have told : AtPoint k (s.modNode (s.point k).seg (s.point k).node NodeRec.leave) _ :=
    (atPoint_raisePoint _ k .retired (portUnion (s.point k).subscribed
      (portUnion (s.point k).demanders (s.point k).retireSet))).trans (atPoint_modPoint _ k (f := Point.close))
  have tested := closureTest_pointsOnly ((((s.modNode (s.point k).seg (s.point k).node NodeRec.leave).raisePoint k .retired
    (portUnion (s.point k).subscribed (portUnion (s.point k).demanders (s.point k).retireSet)))).modPoint k Point.close) k
  have list (p : Port) := congrArg PortUnit.attention (tested.port p)
  have others (j : PointIdx) (other : j ≠ k) := (closureTest_ne ((((s.modNode (s.point k).seg (s.point k).node
    NodeRec.leave).raisePoint k .retired (portUnion (s.point k).subscribed (portUnion (s.point k).demanders
    (s.point k).retireSet)))).modPoint k Point.close) other).1
  exact ⟨tested.segs.trans told.segs, fun p => (congrArg PortUnit.bare (tested.port p)).trans (told.bare p),
    fun j other => (others j other).trans (told.others j other),
    fun p j other => (noteOf_congr (list p) (by rw [others j other])).trans (told.notes p j other),
    fun p h => (segNoteOf_congr (list p)).trans (told.segNotes p h),
    fun p => (devNoteOf_congr (list p)).trans (told.devNotes p)⟩

theorem seg_of_closesPoint (h : ClosesPoint k s t) (x : Seg) :
    ∃ nodes, t.seg x = { s.seg x with nodes := nodes } := by
  rw [State.seg, h.segs]
  change ∃ nodes, (s.modNode (s.point k).seg (s.point k).node NodeRec.leave).seg x = _
  rw [State.modNode, seg_modSeg]
  split
  · next same => exact ⟨_, by rw [same]⟩
  · exact ⟨_, rfl⟩

/-- The closure behind an outcome changes no block of a segment but node records, and no note but those of its target. -/
structure OutcomeCloses (k : PointIdx) (s t : State) : Prop where
  seg : ∀ x, ∃ nodes, t.seg x = { s.seg x with nodes := nodes }
  bare : ∀ p, (t.port p).bare = (s.port p).bare
  others : ∀ j, j ≠ k → t.point j = s.point j
  notes : ∀ p j, j ≠ k → t.noteOf p j = s.noteOf p j
  segNotes : ∀ p g, t.segNoteOf p g = s.segNoteOf p g

theorem outcomeCloses (s : State) (k : PointIdx) : OutcomeCloses k s (s.outcomeClose k) := by
  unfold State.outcomeClose
  split
  · have closes := closesPoint s k
    exact ⟨seg_of_closesPoint closes, closes.bare, closes.others, closes.notes, closes.segNotes⟩
  · exact ⟨fun x => ⟨_, rfl⟩, fun _ => rfl, fun _ _ => rfl, fun _ _ _ => rfl, fun _ _ => rfl⟩

theorem OutcomeCloses.sched (h : OutcomeCloses k s t) (x : Seg) : t.sched x = s.sched x := by
  obtain ⟨nodes, same⟩ := h.seg x
  exact (congrArg Segment.sched same).trans rfl

theorem OutcomeCloses.feed (h : OutcomeCloses k s t) (x : Seg) : t.feed x = s.feed x := by
  obtain ⟨nodes, same⟩ := h.seg x
  exact (congrArg Segment.feed same).trans rfl

theorem OutcomeCloses.link (h : OutcomeCloses k s t) (x : Seg) : t.link x = s.link x := by
  obtain ⟨nodes, same⟩ := h.seg x
  exact (congrArg Segment.link same).trans rfl

/-! ### The owners' part (R112) -/

section
variable (s : State) (g : Seg) (x : Exchange) (o : ExchangeOutcome) (received : Option Int) (order : List Part)

theorem sched_outcomeNode : (s.outcomeNode g x o order).sched g = s.sched g :=
  (congrArg Segment.sched (nodeOutcome s g x o order).seg).trans rfl

/-- The owners leave the Scheduler but for an entry at the tail of its queue. -/
theorem sched_applyOutcome : (s.applyOutcome g x o received order).sched g =
    { s.sched g with
      queue := (s.sched g).queue ++ (s.returned g x o received).map fun j => ⟨j, ⟨false, false⟩, false⟩ } := by
  rw [State.applyOutcome, (outcomeCloses _ _).sched, sched_outcomeNode, (joins_outcomePoint s g x o received).sched,
    (atPoint_pointOutcome s x o received).sched]

theorem line_applyOutcome (p : Port) :
    ((s.applyOutcome g x o received order).segNoteOf p g).line = (s.segNoteOf p g).line := by
  rw [State.applyOutcome, (outcomeCloses _ _).segNotes, (nodeOutcome _ g x o order).segNotes,
    (joins_outcomePoint s g x o received).segNotes, (atPoint_pointOutcome s x o received).segNotes]

end

/-! ### The end of a demand exchange (R40, R58, R79) -/

/-- The demanders told, and the granted entry gone. -/
def State.demandTold (s : State) (g : Seg) (k : PointIdx) (o : ExchangeOutcome) : State :=
  (s.tellDemanders k o.demandOutcome).modSched g fun c =>
    { c with queue := c.queue.filter fun d => !(decide (d.point = k) && d.granted) }

/-- A demand exchange ends. -/
def State.demandEnded (s : State) (g : Seg) (x : Exchange) (o : ExchangeOutcome) : State :=
  if x.kind = .demand then (s.demandTold g x.target o).offerAgain g x.target else s

/-- The points that join behind a demand exchange. -/
def State.demandJoins (s : State) (g : Seg) (x : Exchange) (o : ExchangeOutcome) : List PointIdx :=
  if x.kind = .demand then (s.demandTold g x.target o).rejoined g x.target else []

/-- The queue without the entry that a demand exchange served. -/
def Scheduler.served (c : Scheduler) (x : Exchange) : List DemandEntry :=
  if x.kind = .demand then c.queue.filter fun d => !(decide (d.point = x.target) && d.granted) else c.queue

theorem sched_demandEnded (s : State) (g : Seg) (x : Exchange) (o : ExchangeOutcome) :
    (s.demandEnded g x o).sched g =
      { s.sched g with
        queue := (s.sched g).served x ++ (s.demandJoins g x o).map fun j => ⟨j, ⟨false, false⟩, false⟩ } := by
  unfold State.demandEnded State.demandJoins Scheduler.served
  cases x.kind with
  | demand =>
    have joins := joins_offerAgain (s.demandTold g x.target o) g x.target
    rw [if_pos rfl, if_pos rfl, if_pos rfl, joins.sched, State.demandTold, sched_modSched_same,
      (atPoint_tellDemanders s x.target o.demandOutcome).sched]
  | scan => simp

theorem segNotes_demandEnded (s : State) (g : Seg) (x : Exchange) (o : ExchangeOutcome) (p : Port) (h : Seg) :
    (s.demandEnded g x o).segNoteOf p h = s.segNoteOf p h := by
  unfold State.demandEnded
  split
  · exact ((joins_offerAgain _ g x.target).segNotes p h).trans
      ((atPoint_tellDemanders s x.target o.demandOutcome).segNotes p h)
  · rfl

/-! ### The Scheduler goes on (R79, R83, R91) -/

/-- A STOPPING scan is STOPPED. -/
def State.stopsNow (s : State) (g : Seg) : State :=
  if (s.sched g).scan = .stopping then s.modSched g Scheduler.stop else s

/-- A pending cut is applied, or a scan exchange at the end of the list completes the cycle. -/
def State.cycleGoes (s : State) (g : Seg) (x : Exchange) : State :=
  if (s.sched g).cut then s.applyCut g
  else if (s.sched g).scan.inCycle && (s.sched g).cursor.isNone && decide (x.kind = .scan) then s.complete g
  else s

theorem outcomeSched_eq (s : State) (g : Seg) (x : Exchange) {o : ExchangeOutcome} (stays : o ≠ .abandoned) :
    s.outcomeSched g x o = ((s.demandEnded g x o).stopsNow g).cycleGoes g x := if_neg stays

theorem outcomeSched_abandoned (s : State) (g : Seg) (x : Exchange) :
    s.outcomeSched g x .abandoned = (s.demandEnded g x .abandoned).stopsNow g := by
  unfold State.outcomeSched
  exact if_pos rfl

theorem sched_stopsNow (s : State) (g : Seg) : (s.stopsNow g).sched g =
    if (s.sched g).scan = .stopping then (s.sched g).stop else s.sched g := by
  unfold State.stopsNow
  split
  · exact sched_modSched_same s g _
  · rfl

theorem cycles_stopsNow (s : State) (g : Seg) : Cycles g s (s.stopsNow g) := by
  unfold State.stopsNow
  split
  · exact cycles_modSched (f := Scheduler.stop) s ⟨rfl, rfl, rfl, .inr (.inr (.inr rfl))⟩
  · exact .refl g s

theorem cycles_cycleGoes (s : State) (g : Seg) (x : Exchange) : Cycles g s (s.cycleGoes g x) := by
  unfold State.cycleGoes
  split
  · exact cycles_applyCut s
  · split
    · exact cycles_complete s
    · exact .refl g s

/-- Behind the end of the demand exchange only the cycle goes on. -/
theorem cycles_outcomeSched (s : State) (g : Seg) (x : Exchange) (o : ExchangeOutcome) :
    Cycles g (s.demandEnded g x o) (s.outcomeSched g x o) := by
  by_cases abandoned : o = .abandoned
  · subst abandoned
    rw [outcomeSched_abandoned]
    exact cycles_stopsNow _ g
  · rw [outcomeSched_eq s g x abandoned]
    exact (cycles_stopsNow _ g).trans (cycles_cycleGoes _ g x)

/-- The count of ended cycles when a cycle, or the wait for one, is ended. -/
def Scheduler.endCount (c : Scheduler) : Nat := if c.scan.inCycle then c.counted else c.cyclesEnded

/-- What is left of the Scheduler when a cycle has ended and the scan goes on: it waits or runs. -/
structure Scheduler.GoesOn (c d : Scheduler) : Prop where
  scan : d.scan = .waiting ∨ d.scan = .running
  rest : d = { c with
    scan := d.scan, cursor := d.cursor, cut := false, deferred := d.deferred, cyclesEnded := c.endCount
    cycleMark := d.cycleMark }

theorem sched_endScan (s : State) (g : Seg) : (s.endScan g).sched g = (s.sched g).stop := by
  rw [State.endScan, (raiseSeg_noticesOnly _ g .scanEnded).sched, sched_modSched_same]

theorem sched_cut_rests (cut : (s.sched g).cut = true) (cycle : (s.sched g).scan.inCycle = false)
    (waits : (s.sched g).scan ≠ .waiting) (x : Exchange) :
    (s.cycleGoes g x).sched g = { s.sched g with cut := false } := by
  rw [State.cycleGoes, if_pos cut]
  unfold State.applyCut
  dsimp only
  rw [cycle, if_neg (by simpa using waits), sched_modSched_same]
  rfl

theorem sched_startCycle (filled : (s.sched g).list ≠ []) : (s.startCycle g).sched g =
    { s.sched g with scan := .running, cursor := (s.sched g).list.head?, cycleMark := false, deferred := false } := by
  rw [startCycle_filled filled, sched_beginCycle]

/-- A cycle ends now: by a pending cut, or at the end of the list (R79, R91). -/
def Scheduler.endsNow (c : Scheduler) (x : Exchange) : Prop :=
  c.cut = true ∧ (c.scan.inCycle = true ∨ c.scan = .waiting) ∨
    c.cut = false ∧ c.scan.inCycle = true ∧ c.cursor = none ∧ x.kind = .scan

/-- The cycle that ends is the last (R83, R91). -/
def Scheduler.lastCycle (c : Scheduler) : Prop :=
  c.cfg.cycles ≠ 0 ∧ c.endCount = c.cfg.cycles ∨ c.scan = .finishing ∧ c.cut = false

theorem cycleGoes_rests (uncut : (s.sched g).cut = false) {x : Exchange} (goes : ¬ (s.sched g).endsNow x) :
    s.cycleGoes g x = s := by
  rw [State.cycleGoes, uncut, if_neg (by nofun), if_neg fun all => goes (.inr ?_)]
  simp only [Bool.and_eq_true, Option.isNone_iff_eq_none, decide_eq_true_eq] at all
  exact ⟨uncut, all.1.1, all.1.2, all.2⟩

/-- A pending cut at a scan in progress, or WAITING. -/
theorem applyCut_goes (goes : (s.sched g).scan.inCycle = true ∨ (s.sched g).scan = .waiting) : s.applyCut g =
    if (s.sched g).reached (s.sched g).endCount then
      (s.modSched g fun d => { d with cut := false, cyclesEnded := (s.sched g).endCount }).endScan g
    else (s.modSched g fun d => { d with cut := false, cyclesEnded := (s.sched g).endCount }).startCycle g :=
  if_pos (by simpa using goes)

theorem complete_last (last : (s.sched g).reached (s.sched g).counted = true ∨ (s.sched g).scan = .finishing) :
    s.complete g = (s.modSched g fun c => { c with cyclesEnded := (s.sched g).counted }).endScan g := by
  unfold State.complete
  rw [completeOnce_ends last]
  rfl

theorem sched_ends_last {x : Exchange} (ends : (s.sched g).endsNow x) (last : (s.sched g).lastCycle) :
    (s.cycleGoes g x).sched g =
      ({ s.sched g with cut := false, cyclesEnded := (s.sched g).endCount } : Scheduler).stop := by
  unfold State.cycleGoes
  rcases ends with ⟨cut, goes⟩ | ⟨uncut, cycle, cursor, scan⟩
  · have reached : (s.sched g).reached (s.sched g).endCount = true :=
      (reached_iff _ _).mpr (last.resolve_right fun both => by rw [both.2] at cut; cases cut)
    rw [if_pos cut, applyCut_goes goes, if_pos reached, sched_endScan, sched_modSched_same]
  · have count : (s.sched g).endCount = (s.sched g).counted := if_pos cycle
    rw [uncut, cycle, cursor, if_neg (by nofun), if_pos (by simp [scan]), complete_last, sched_endScan,
      sched_modSched_same, count]
    · rfl
    · rw [reached_iff, ← count]
      exact last.imp id And.left

theorem sched_ends_on {x : Exchange} (ends : (s.sched g).endsNow x) (on : ¬ (s.sched g).lastCycle)
    (filled : (s.sched g).list ≠ []) : (s.sched g).GoesOn ((s.cycleGoes g x).sched g) := by
  have unreached : ¬ (s.sched g).reached (s.sched g).endCount = true := fun reached =>
    on (.inl ((reached_iff _ _).mp reached))
  unfold State.cycleGoes
  rcases ends with ⟨cut, goes⟩ | ⟨uncut, cycle, cursor, scan⟩
  · rw [if_pos cut, applyCut_goes goes, if_neg unreached, sched_startCycle (by rwa [sched_modSched_same]),
      sched_modSched_same]
    exact ⟨.inr rfl, rfl⟩
  · have count : (s.sched g).endCount = (s.sched g).counted := if_pos cycle
    have going : (s.sched g).scan ≠ .finishing := fun finishing => on (.inr ⟨finishing, uncut⟩)
    rw [uncut, cycle, cursor, if_neg (by nofun), if_pos (by simp [scan])]
    unfold State.complete
    rw [completeOnce_waits (by rwa [← count]) going]
    dsimp only
    split
    · rw [sched_startCycle (by rwa [sched_modSched_same]), sched_modSched_same, ← count]
      exact ⟨.inr rfl, by rw [← uncut]⟩
    · rw [sched_modSched_same, ← count]
      exact ⟨.inl rfl, by rw [← uncut]⟩

end

end Sys2Proof.Machine
end

section
/-! PROOF. A line fault (R113, R114): the exchange in flight ends, the fault is counted and told, and at LINE_DOWN the scan
halts (R93). -/

namespace Sys2Proof.Machine

section
variable {s : State} {g : Seg} {x : Exchange} {o : ExchangeOutcome}

/-! ### The Scheduler behind an outcome (R79) -/

/-- What the end of an exchange leaves of the Scheduler, beside its queue. -/
structure Scheduler.Handed (x : Exchange) (c d : Scheduler) : Prop where
  stopping : c.scan = .stopping → d = { c with queue := d.queue }.stop
  last : c.endsNow x → c.lastCycle →
    d = ({ c with queue := d.queue, cut := false, cyclesEnded := c.endCount } : Scheduler).stop
  on : c.endsNow x → ¬ c.lastCycle → c.list ≠ [] → { c with queue := d.queue }.GoesOn d
  rests : c.scan ≠ .stopping → ¬ c.endsNow x → d = { c with queue := d.queue, cut := false }

theorem not_endsNow_of_stopping {c : Scheduler} (stopping : c.scan = .stopping) : ¬ c.endsNow x := by
  rintro (⟨-, cycle | waits⟩ | ⟨-, cycle, -⟩)
  · rw [stopping] at cycle
    cases cycle
  · rw [stopping] at waits
    cases waits
  · rw [stopping] at cycle
    cases cycle

/-- The cycle goes on behind a queue that has changed. -/
theorem handed_cycleGoes {c : Scheduler} (same : s.sched g = { c with queue := (s.sched g).queue }) (x : Exchange) :
    c.Handed x (((s.stopsNow g).cycleGoes g x).sched g) := by
  have queue : (((s.stopsNow g).cycleGoes g x).sched g).queue = (s.sched g).queue :=
    ((cycles_stopsNow s g).trans (cycles_cycleGoes _ g x)).queue
  have scan : (s.sched g).scan = c.scan := by rw [same]
  by_cases stopping : c.scan = .stopping
  · have stops : (s.stopsNow g).sched g = { c with queue := (s.sched g).queue }.stop := by
      rw [sched_stopsNow, if_pos (scan.trans stopping), ← same]
    have quiet : ¬ ((s.stopsNow g).sched g).endsNow x := by
      rw [stops]
      rintro (⟨-, cycle | waits⟩ | ⟨-, cycle, -⟩)
      · cases cycle
      · cases waits
      · cases cycle
    have rests : (s.stopsNow g).cycleGoes g x = s.stopsNow g := cycleGoes_rests (by rw [stops]; rfl) quiet
    refine ⟨fun _ => ?_, fun ends => absurd ends (not_endsNow_of_stopping stopping),
      fun ends => absurd ends (not_endsNow_of_stopping stopping), fun other => absurd stopping other⟩
    rw [queue, rests, stops]
  · have going : s.stopsNow g = s := if_neg (scan ▸ stopping)
    rw [going] at queue ⊢
    have ends_iff : (s.sched g).endsNow x ↔ c.endsNow x := by rw [same]; rfl
    have last_iff : (s.sched g).lastCycle ↔ c.lastCycle := by rw [same]; rfl
    have count : (s.sched g).endCount = c.endCount := by rw [same]; rfl
    refine ⟨fun k => absurd k stopping, fun ends last => ?_, fun ends on filled => ?_, fun _ rests => ?_⟩
    · rw [queue, sched_ends_last (ends_iff.mpr ends) (last_iff.mpr last), count]
      exact congrArg (fun d : Scheduler => ({ d with cut := false, cyclesEnded := c.endCount } : Scheduler).stop) same
    · have goes := sched_ends_on (ends_iff.mpr ends) (fun l => on (last_iff.mp l)) (by rw [same]; exact filled)
      rwa [queue, ← same]
    · rw [queue]
      by_cases cut : (s.sched g).cut = true
      · have both := not_or.mp fun goes => rests (ends_iff.mp (.inl ⟨cut, goes⟩))
        rw [sched_cut_rests cut (Bool.eq_false_iff.mpr both.1) both.2]
        exact congrArg (fun d : Scheduler => { d with cut := false }) same
      · have uncut := Bool.eq_false_iff.mpr cut
        rw [cycleGoes_rests uncut fun ends => rests (ends_iff.mp ends)]
        have uncut' : c.cut = false := by
          rw [same] at uncut
          exact uncut
        rw [← uncut']
        exact same

/-- The queue behind an outcome. -/
def State.handedQueue (s : State) (g : Seg) (x : Exchange) (o : ExchangeOutcome) (received : Option Int)
    (order : List Part) : List DemandEntry :=
  ((s.applyOutcome g x o received order).sched g).served x ++
    ((s.applyOutcome g x o received order).demandJoins g x o).map fun j => ⟨j, ⟨false, false⟩, false⟩

theorem queue_hand (s : State) (g : Seg) (x : Exchange) (o : ExchangeOutcome) (received : Option Int)
    (order : List Part) : ((s.hand g x o received order).sched g).queue = s.handedQueue g x o received order := by
  rw [State.hand, (cycles_outcomeSched _ g x o).queue, sched_demandEnded]
  rfl

theorem handed_hand (stays : o ≠ .abandoned) (received : Option Int) (order : List Part) :
    (s.sched g).Handed x ((s.hand g x o received order).sched g) := by
  rw [State.hand, outcomeSched_eq _ g x stays]
  refine handed_cycleGoes ?_ x
  rw [sched_demandEnded, sched_applyOutcome]

/-- An entry that was not granted stays. -/
theorem mem_handedQueue {d : DemandEntry} (queued : d ∈ (s.sched g).queue) (waits : d.granted = false)
    (received : Option Int) (order : List Part) : d ∈ s.handedQueue g x o received order := by
  have kept : d ∈ ((s.applyOutcome g x o received order).sched g).queue := by
    rw [sched_applyOutcome]
    exact List.mem_append_left _ queued
  refine List.mem_append_left _ ?_
  unfold Scheduler.served
  split
  · exact List.mem_filter.mpr ⟨kept, by simp [waits]⟩
  · exact kept

theorem line_hand (received : Option Int) (order : List Part) (p : Port) :
    ((s.hand g x o received order).segNoteOf p g).line = (s.segNoteOf p g).line := by
  have ended := congrArg SegNote.line ((cycles_outcomeSched (s.applyOutcome g x o received order) g x o).ended p)
  have ended : ((s.hand g x o received order).segNoteOf p g).line = _ := ended
  rw [ended, segNotes_demandEnded, line_applyOutcome]

/-! ### The line fault (R113, R114) -/

/-- The exchange in flight has ended LINE_FAULT. -/
def State.faultHanded (s : State) (g : Seg) : State :=
  match (s.link g).exchange with
  | some x => s.hand g x .lineFault none []
  | none => s

/-- The fault counted and told. -/
def State.faultTold (s : State) (g : Seg) : State :=
  (((s.faultHanded g).modLink g fun l => { l with faults := min ((s.link g).faults + 1) 7 }).raiseSeg g .line).tally g
    [.lineFaults] none

theorem lineFault_recovers (below : min ((s.link g).faults + 1) 7 < (s.link g).cfg.faultLimit) :
    s.lineFault g = (s.faultTold g).modLink g Link.recover := if_pos below

theorem lineFault_down (reached : (s.link g).cfg.faultLimit ≤ min ((s.link g).faults + 1) 7) :
    s.lineFault g = (((s.faultTold g).modLink g Link.down).raiseSeg g .line).modSched g Scheduler.lineDown :=
  if_neg (Nat.not_lt.mpr reached)

theorem faultHanded_some (flying : (s.link g).exchange = some x) :
    s.faultHanded g = s.hand g x .lineFault none [] := by
  rw [State.faultHanded, flying]

theorem faultHanded_none (free : (s.link g).exchange = none) : s.faultHanded g = s := by
  rw [State.faultHanded, free]

theorem touches_faultHanded (s : State) (g : Seg) : Touches noSeg noSeg (onlySeg g) s (s.faultHanded g) := by
  unfold State.faultHanded
  split
  · exact touches_hand (onlySeg_self g) s _ _ none []
  · exact .refl _ _ _ s

theorem link_faultTold (s : State) (g : Seg) :
    (s.faultTold g).link g = { s.link g with faults := min ((s.link g).faults + 1) 7 } := by
  rw [State.faultTold, link_tally, (raiseSeg_noticesOnly _ g .line).link, link_modLink_same,
    (touches_faultHanded s g).link g id]

theorem sched_faultTold (s : State) (g : Seg) : (s.faultTold g).sched g = (s.faultHanded g).sched g := by
  rw [State.faultTold, sched_tally, (raiseSeg_noticesOnly _ g .line).sched, sched_modLink]

theorem line_raised (s : State) (g : Seg) (p : Port) : ((s.raiseSeg g .line).segNoteOf p g).line =
    ((s.segNoteOf p g).line || (s.port p).segMask.getLsbD 3) := by
  have bit : SegReason.line.bit = 3 := rfl
  rw [segNoteOf_raiseSeg, bit]
  cases masked : (s.port p).segMask.getLsbD 3 with
  | true => simp [SegNote.add]
  | false => rw [if_neg (by simp), Bool.or_false]

theorem line_faultTold (s : State) (g : Seg) (p : Port) : ((s.faultTold g).segNoteOf p g).line =
    ((s.segNoteOf p g).line || (s.port p).segMask.getLsbD 3) := by
  have handed : ((s.faultHanded g).segNoteOf p g).line = (s.segNoteOf p g).line := by
    unfold State.faultHanded
    split
    · exact line_hand none [] p
    · rfl
  have mask : ((s.faultHanded g).port p).segMask = (s.port p).segMask :=
    segMask_of_bare ((touches_faultHanded s g).ports p)
  rw [State.faultTold, segNoteOf_tally, if_pos rfl]
  refine (line_raised _ g p).trans ?_
  rw [← handed, ← mask]
  rfl

/-! ### LINE_DOWN at the Scheduler (R93) -/

theorem lineDown_going {c : Scheduler} (going : c.scan = .waiting ∨ c.scan = .running ∨ c.scan = .finishing) :
    c.lineDown = c.halt .haltedLine := by
  unfold Scheduler.lineDown
  rcases going with scan | scan | scan
  · rw [scan]
  · rw [scan]
  · rw [scan]

theorem lineDown_resting {c : Scheduler} (resting : c.scan = .stopped ∨ c.scan = .haltedPower ∨ c.scan = .haltedLine) :
    c.lineDown = c := by
  unfold Scheduler.lineDown
  rcases resting with scan | scan | scan
  · rw [scan]
  · rw [scan]
  · rw [scan]

theorem lineDown_stops (c : Scheduler) :
    c.lineDown.scan.inCycle = false ∧ c.lineDown.scan ≠ .waiting ∧ c.lineDown.scan ≠ .stopping := by
  unfold Scheduler.lineDown
  cases scan : c.scan with
  | stopped | haltedPower | haltedLine =>
    dsimp only
    rw [scan]
    exact ⟨rfl, nofun, nofun⟩
  | waiting | running | finishing | stopping => exact ⟨rfl, nofun, nofun⟩

theorem queue_lineDown (c : Scheduler) : c.lineDown.queue = c.queue := by
  unfold Scheduler.lineDown
  cases c.scan <;> rfl

/-- Both events are the line fault. -/
theorem exec_lineFault {i : Instr} (awake : s.inReset = false)
    (event : (i = .idleWaitExpiry g ∧ (s.link g).idleTimer ≠ none ∧
        ((s.link g).state = .recovering ∨ ∃ x, (s.link g).state = .busy .sending x)) ∨
      (i = .transmitterCurrentLimit g ∧ (s.link g).driving = true)) : exec i s = .next (s.lineFault g) := by
  obtain ⟨rfl, timed, state⟩ | ⟨rfl, driving⟩ := event
  · refine SegEvent.gives .idleWaitExpiry awake ?_
    change s.idleWaitExpiry g = _
    rw [State.idleWaitExpiry, if_neg (by simpa using timed)]
    rcases state with recovering | ⟨x, sending⟩
    · rw [recovering]
    · rw [sending]
  · exact SegEvent.gives .transmitterCurrentLimit awake (if_pos driving)

/-- The Scheduler at LINE_DOWN, by what the end of the exchange has left. -/
theorem sched_lineFault_down (reached : (s.link g).cfg.faultLimit ≤ min ((s.link g).faults + 1) 7) :
    (s.lineFault g).sched g = ((s.faultHanded g).sched g).lineDown := by
  rw [lineFault_down reached, sched_modSched_same, (raiseSeg_noticesOnly _ g .line).sched, sched_modLink,
    sched_faultTold]

theorem sched_lineFault_recovers (below : min ((s.link g).faults + 1) 7 < (s.link g).cfg.faultLimit) :
    (s.lineFault g).sched g = (s.faultHanded g).sched g := by
  rw [lineFault_recovers below, sched_modLink, sched_faultTold]

theorem queue_lineFault (s : State) (g : Seg) :
    ((s.lineFault g).sched g).queue = ((s.faultHanded g).sched g).queue := by
  by_cases below : min ((s.link g).faults + 1) 7 < (s.link g).cfg.faultLimit
  · rw [sched_lineFault_recovers below]
  · rw [sched_lineFault_down (Nat.not_lt.mp below), queue_lineDown]

theorem link_lineFault_recovers (below : min ((s.link g).faults + 1) 7 < (s.link g).cfg.faultLimit) :
    (s.lineFault g).link g = ({ s.link g with faults := min ((s.link g).faults + 1) 7 } : Link).recover := by
  rw [lineFault_recovers below, link_modLink_same, link_faultTold]

theorem link_lineFault_down (reached : (s.link g).cfg.faultLimit ≤ min ((s.link g).faults + 1) 7) :
    (s.lineFault g).link g = ({ s.link g with faults := min ((s.link g).faults + 1) 7 } : Link).down := by
  rw [lineFault_down reached, link_modSched, (raiseSeg_noticesOnly _ g .line).link, link_modLink_same, link_faultTold]

theorem line_lineFault (s : State) (g : Seg) (p : Port) : ((s.lineFault g).segNoteOf p g).line =
    ((s.segNoteOf p g).line || (s.port p).segMask.getLsbD 3) := by
  rcases lt_or_ge (min ((s.link g).faults + 1) 7) (s.link g).cfg.faultLimit with below | reached
  · rw [lineFault_recovers below, ← line_faultTold]
    rfl
  · have mask : ((s.faultTold g).port p).segMask = (s.port p).segMask := by
      rw [State.faultTold, segMask_of_bare ((tally_noticesOnly _ g _ _).ports p)]
      exact (segMask_raiseSeg _ g _ p).trans (segMask_of_bare ((touches_faultHanded s g).ports p))
    rw [lineFault_down reached]
    refine (line_raised ((s.faultTold g).modLink g Link.down) g p).trans ?_
    change (((s.faultTold g).segNoteOf p g).line || ((s.faultTold g).port p).segMask.getLsbD 3) = _
    rw [line_faultTold, mask, Bool.or_assoc, Bool.or_self]

/-- Where no cycle ends, the end of the exchange leaves the Scheduler but for its queue and a cut without a cycle. -/
theorem sched_faultHanded_rests (goes : (s.sched g).scan ≠ .stopping)
    (rests : ∀ x, (s.link g).exchange = some x → ¬ (s.sched g).endsNow x) :
    ∃ cut, ((s.sched g).cut = false → cut = false) ∧ (s.faultHanded g).sched g =
      { s.sched g with queue := ((s.faultHanded g).sched g).queue, cut := cut } := by
  cases flying : (s.link g).exchange with
  | none =>
    rw [faultHanded_none flying]
    exact ⟨_, id, rfl⟩
  | some x =>
    rw [faultHanded_some flying]
    exact ⟨false, fun _ => rfl, (handed_hand (o := .lineFault) nofun none []).rests goes (rests x flying)⟩

theorem lineDown_faultHanded_stopping (stopping : (s.sched g).scan = .stopping) :
    ((s.faultHanded g).sched g).lineDown = { s.sched g with queue := ((s.faultHanded g).sched g).queue }.stop := by
  cases flying : (s.link g).exchange with
  | none =>
    rw [faultHanded_none flying]
    unfold Scheduler.lineDown
    rw [stopping]
  | some x =>
    rw [faultHanded_some flying]
    have stops := (handed_hand (g := g) (x := x) (s := s) (o := .lineFault) nofun none []).stopping stopping
    rw [lineDown_resting (.inl (by rw [stops]; rfl))]
    exact stops

theorem halt_of_goesOn {c d : Scheduler} (goes : c.GoesOn d) : d.halt .haltedLine =
    { c with
      scan := .haltedLine, cursor := c.list.head?, periodTimer := none, cut := false, deferred := false
      cyclesEnded := c.endCount, cycleMark := d.cycleMark } := by
  have halted := congrArg (Scheduler.halt · .haltedLine) goes.rest
  exact halted

end

end Sys2Proof.Machine

namespace Sys2Proof
open Machine

/-- Settles O38: the exchange in flight is handed on LINE_FAULT, the fault counted, and at LINE_DOWN what is left of the
scan halts. -/
theorem lineFaults : Obligations.LineFaults := by
  intro s g i n m c ends stops awake count same ends_iff m_eq stops_iff event
  subst same count
  have count : m = (s.sched g).endCount := m_eq
  have stops_iff : stops ↔ (s.sched g).lastCycle := by rw [stops_iff, count]; rfl
  have ends_iff : ends ↔ ∃ x, (s.link g).exchange = some x ∧ (s.sched g).endsNow x := ends_iff
  have touches := touches_lineFault (F := noSeg) (onlySeg_self g) (onlySeg_self g) s
  have queue := queue_lineFault s g
  have timers : ((s.lineFault g).link g).faults = min ((s.link g).faults + 1) 7 ∧
      ((s.lineFault g).link g).idleTimer = none ∧ ((s.lineFault g).link g).windowTimer = none := by
    rcases lt_or_ge (min ((s.link g).faults + 1) 7) (s.link g).cfg.faultLimit with below | reached
    · rw [link_lineFault_recovers below]
      exact ⟨rfl, rfl, rfl⟩
    · rw [link_lineFault_down reached]
      exact ⟨rfl, rfl, rfl⟩
  obtain ⟨faults, idle, window⟩ := timers
  refine ⟨_, exec_lineFault awake event, faults, idle, window, fun p => ?_, fun below => ?_, fun reached => ?_,
    fun d queued waits => ?_,
    fun free => ?_, fun h => touches.feed h id, fun h other => ⟨touches.sched h other, touches.link h other⟩⟩
  · exact line_lineFault s g p
  · rw [sched_lineFault_recovers below, link_lineFault_recovers below]
    exact ⟨rfl, rfl, fun free => by rw [faultHanded_none free]⟩
  · have down := sched_lineFault_down reached
    have stopped := lineDown_stops ((s.faultHanded g).sched g)
    rw [link_lineFault_down reached, queue, down]
    refine ⟨rfl, rfl, stopped.1, stopped.2.1, stopped.2.2, fun quiet going => ?_, fun due filled on => ?_,
      fun due filled last => ?_, lineDown_faultHanded_stopping, fun resting uncut => ?_⟩
    · obtain ⟨cut, -, rests⟩ := sched_faultHanded_rests (s := s) (g := g)
        (fun stopping => by rw [stopping] at going; simp at going)
        fun x flying now => quiet (ends_iff.mpr ⟨x, flying, now⟩)
      rw [lineDown_going (by rw [rests]; exact going)]
      exact congrArg (Scheduler.halt · .haltedLine) rests
    · obtain ⟨x, flying, now⟩ := ends_iff.mp due
      rw [faultHanded_some flying]
      have goes := (handed_hand (o := .lineFault) nofun none []).on now (fun l => on (stops_iff.mpr l)) filled
      rw [lineDown_going (goes.scan.imp id .inl), halt_of_goesOn goes, count]
      rfl
    · obtain ⟨x, flying, now⟩ := ends_iff.mp due
      rw [faultHanded_some flying]
      have stops := (handed_hand (o := .lineFault) nofun none []).last now (stops_iff.mp last)
      rw [lineDown_resting (.inl (by rw [stops]; rfl)), count]
      exact stops
    · obtain ⟨cut, uncut', rests⟩ := sched_faultHanded_rests (s := s) (g := g)
        (fun stopping => by rw [stopping] at resting; simp at resting) fun x flying now => by
          rcases now with ⟨cut, -⟩ | ⟨-, cycle, -⟩
          · rw [uncut] at cut
            cases cut
          · rcases resting with scan | scan | scan <;> rw [scan] at cycle <;> cases cycle
      rw [uncut' uncut, ← uncut] at rests
      rw [lineDown_resting (by rw [rests]; exact resting)]
      exact rests
  · rw [queue]
    cases flying : (s.link g).exchange with
    | none => rwa [faultHanded_none flying]
    | some x =>
      rw [faultHanded_some flying, queue_hand]
      exact mem_handedQueue queued waits none []
  · rw [queue, faultHanded_none free]

end Sys2Proof
end

section
/-! PROOF. How an exchange ends (R79, R109 to R113): each of its events hands the outcome on, after a report of the attempt
and before the link rests or recovers. -/

namespace Sys2Proof.Machine

section
variable {s t u : State} {g : Seg} {x : Exchange} {o : ExchangeOutcome}

/-! ### Reports and their segment -/

theorem node_tally (s : State) (g : Seg) (evs : List TallyEvent) (node : Option NodeIdx) (n : NodeIdx) :
    (s.tally g evs node).node g n = s.node g n :=
  (congrArg (fun v : Segment => v.nodes[n.val]) (seg_tally s g evs node)).trans rfl

theorem feed_tally (s : State) (g : Seg) (evs : List TallyEvent) (node : Option NodeIdx) :
    (s.tally g evs node).feed g = s.feed g := (congrArg Segment.feed (seg_tally s g evs node)).trans rfl

theorem nodeNote_tally (s : State) (g : Seg) (evs : List TallyEvent) (node : Option NodeIdx) (p : Port) :
    ((s.tally g evs node).segNoteOf p g).nodes = (s.segNoteOf p g).nodes := by
  rw [segNoteOf_tally, if_pos rfl]

theorem nodeNote_line (s : State) (g : Seg) (p : Port) :
    ((s.raiseSeg g .line).segNoteOf p g).nodes = (s.segNoteOf p g).nodes := by
  rw [segNoteOf_raiseSeg]
  split
  · rfl
  · rfl

/-! ### Before and after the outcome -/

/-- From `s` to `u`, before an outcome is handed on: an attempt may have been reported, and a timer stopped. -/
structure Reports (g : Seg) (s u : State) : Prop where
  points : u.points = s.points
  notes : ∀ p j, u.noteOf p j = s.noteOf p j
  bare : ∀ p, (u.port p).bare = (s.port p).bare
  sched : u.sched g = s.sched g
  feed : u.feed g = s.feed g
  cfg : (u.link g).cfg = (s.link g).cfg
  nodes : ∀ n, u.node g n = s.node g n
  told : ∀ p, (u.segNoteOf p g).nodes = (s.segNoteOf p g).nodes
  named : ∀ p j, u.named p j = s.named p j

theorem Reports.refl (g : Seg) (s : State) : Reports g s s :=
  ⟨rfl, fun _ _ => rfl, fun _ => rfl, rfl, rfl, rfl, fun _ => rfl, fun _ => rfl, fun _ _ => rfl⟩

theorem Reports.point (h : Reports g s u) (j : PointIdx) : u.point j = s.point j := by
  rw [State.point, h.points]
  rfl

theorem Listened.reports (h : Listened s g u) (x : Exchange) (r : AttemptResult) : Reports g s (u.reported g x r) := by
  have listened : Reports g s u := by
    rcases h with rfl | rfl
    · exact .refl g u
    · exact ⟨rfl, fun _ _ => rfl, fun _ => rfl, sched_modLink s g _ g, feed_modLink s g _ g,
        by rw [State.windowClosed, link_modLink_same], fun n => node_modLink s g _ g n, fun _ => rfl, fun _ _ => rfl⟩
  unfold State.reported
  exact ⟨(points_tally u g _ _).trans listened.points, fun p j => (noteOf_tally u g _ _ p j).trans (listened.notes p j),
    fun p => ((tally_noticesOnly u g _ _).ports p).trans (listened.bare p), (sched_tally u g _ _ g).trans listened.sched,
    (feed_tally u g _ _).trans listened.feed, (congrArg Link.cfg (link_tally u g _ _ g)).trans listened.cfg,
    fun n => (node_tally u g _ _ n).trans (listened.nodes n),
    fun p => (nodeNote_tally u g _ _ p).trans (listened.told p),
    fun p j => (named_tally u g _ _ p j).trans (listened.named p j)⟩

/-- From `u` to `t`, after an outcome has been handed on: the link rests or recovers, with its own notes and reports, and
at LINE_DOWN the scan halts. -/
structure Settles (g : Seg) (u t : State) : Prop where
  points : t.points = u.points
  notes : ∀ p j, t.noteOf p j = u.noteOf p j
  sched : t.sched g = u.sched g ∨ t.sched g = (u.sched g).lineDown
  nodes : ∀ n, t.node g n = u.node g n
  told : ∀ p, (t.segNoteOf p g).nodes = (u.segNoteOf p g).nodes

theorem Settles.point (h : Settles g u t) (j : PointIdx) : t.point j = u.point j := by
  rw [State.point, h.points]
  rfl

theorem Settles.queue (h : Settles g u t) : (t.sched g).queue = (u.sched g).queue := by
  rcases h.sched with same | down
  · rw [same]
  · rw [down, queue_lineDown]

theorem settles_modLink (u : State) (g : Seg) (f : Link → Link) : Settles g u (u.modLink g f) :=
  ⟨rfl, fun _ _ => rfl, .inl (sched_modLink u g f g), fun n => node_modLink u g f g n, fun _ => rfl⟩

theorem settles_lineFault (s : State) (g : Seg) : Settles g (s.faultHanded g) (s.lineFault g) := by
  have told : Settles g (s.faultHanded g) (s.faultTold g) := by
    unfold State.faultTold
    have raised := raiseSeg_noticesOnly
      ((s.faultHanded g).modLink g fun l => { l with faults := min ((s.link g).faults + 1) 7 }) g .line
    refine ⟨(points_tally _ g _ _).trans raised.points, fun p j => ?_, .inl ?_, fun n => ?_, fun p => ?_⟩
    · rw [noteOf_tally, noteOf_raiseSeg]
      rfl
    · rw [sched_tally, raised.sched, sched_modLink]
    · rw [node_tally, raised.node, node_modLink]
    · rw [nodeNote_tally, nodeNote_line]
      rfl
  rcases lt_or_ge (min ((s.link g).faults + 1) 7) (s.link g).cfg.faultLimit with below | reached
  · have recovers := settles_modLink (s.faultTold g) g Link.recover
    rw [← lineFault_recovers below] at recovers
    exact ⟨recovers.points.trans told.points, fun p j => (recovers.notes p j).trans (told.notes p j),
      .inl (sched_lineFault_recovers below), fun n => (recovers.nodes n).trans (told.nodes n),
      fun p => (recovers.told p).trans (told.told p)⟩
  · have raised := raiseSeg_noticesOnly ((s.faultTold g).modLink g Link.down) g .line
    refine ⟨?_, fun p j => ?_, .inr (sched_lineFault_down reached), fun n => ?_, fun p => ?_⟩
    · rw [lineFault_down reached]
      exact raised.points.trans told.points
    · rw [lineFault_down reached]
      refine Eq.trans ?_ (told.notes p j)
      exact noteOf_raiseSeg ((s.faultTold g).modLink g Link.down) g j .line p
    · rw [lineFault_down reached, node_modSched, raised.node, node_modLink]
      exact told.nodes n
    · rw [lineFault_down reached]
      refine Eq.trans ?_ (told.told p)
      exact nodeNote_line ((s.faultTold g).modLink g Link.down) g p

/-! ### The end of an exchange -/

theorem last_attempt {n m : Nat} (out : n < m) : decide (m < n + 1) = false := decide_eq_false (by omega)

/-- However an exchange ends, its outcome is handed on. -/
theorem exec_endsExchange {i : Instr} (awake : s.inReset = false) (ends : s.endsExchange i g x o) :
    ∃ u received order t, Reports g s u ∧ exec i s = .next t ∧ Settles g (u.hand g x o received order) t ∧
      o ≠ .abandoned := by
  have attempt {r : AttemptResult} {u : State} {v : Option Int} {idle : Bool} {order : List Part}
      (listened : Listened s g u) (outcome : r.outcome (s.retries g x) = some o)
      (run : exec i s = .next (u.endAttempt g x r v idle order)) :
      ∃ u received order t, Reports g s u ∧ exec i s = .next t ∧ Settles g (u.hand g x o received order) t ∧
        o ≠ .abandoned := by
    have retries : u.retries g x = s.retries g x := by rw [State.retries, listened.link_cfg]; rfl
    rw [endAttempt_ends (by rwa [retries])] at run
    refine ⟨_, _, _, _, listened.reports x r, run, settles_modLink _ g _, ?_⟩
    rintro rfl
    cases r <;> simp [AttemptResult.outcome] at outcome
  have spent (out : (s.link g).cfg.retries < x.attempts) : s.retries g x = false := last_attempt out
  have fault (flying : ∃ k, (s.link g).state = .busy k x) (run : exec i s = .next (s.lineFault g))
      (fault : o = .lineFault) : ∃ u received order t, Reports g s u ∧ exec i s = .next t ∧
        Settles g (u.hand g x o received order) t ∧ o ≠ .abandoned := by
    subst fault
    have settles := settles_lineFault s g
    rw [faultHanded_some ((exchange_eq_some_iff _ _).mpr flying)] at settles
    exact ⟨s, none, [], _, .refl g s, run, settles, nofun⟩
  rcases ends with ⟨e, same, awaits, out, failed⟩ | ⟨e, same, receives, out, failed⟩ | ⟨frame, e, same, receives, answer⟩ |
    ⟨same, sending, timed, faulty⟩ | ⟨same, sending, idle, faulty⟩
  · obtain ⟨u, listened, run⟩ := exec_attempt (frame := []) awake (.inl ⟨same, awaits, rfl, rfl⟩)
    exact attempt listened (by rw [spent out, failed]; rfl) run
  · obtain ⟨u, listened, run⟩ := exec_attempt (frame := []) awake (.inr (.inl ⟨same, receives, rfl, rfl⟩))
    exact attempt listened (by rw [spent out, failed]; rfl) run
  · obtain ⟨u, listened, run⟩ := exec_attempt awake (.inr (.inr ⟨same, receives, rfl, rfl⟩))
    refine attempt listened ?_ run
    rcases answer with ⟨accepted, rfl⟩ | ⟨refused, rfl⟩ | ⟨error, out, rfl⟩ | ⟨busy, out, rfl⟩
    · rw [accepted]
      rfl
    · simp only [List.mem_cons, List.not_mem_nil, or_false] at refused
      rcases refused with answer | answer | answer <;> rw [answer] <;> rfl
    · rw [error, spent out]
      rfl
    · rw [busy, spent out]
      rfl
  · exact fault ⟨_, sending⟩ (exec_lineFault awake (.inl ⟨same, timed, .inr ⟨x, sending⟩⟩)) faulty
  · refine fault ⟨_, sending⟩ (exec_lineFault awake (.inr ⟨same, ?_⟩)) faulty
    rw [Link.driving, sending, idle]
    rfl

end

end Sys2Proof.Machine
end

section
/-! PROOF. An exchange outcome at a LIVE target (R26 to R32, R40, R61 to R63): the record and the notes that each outcome
leaves, then what the node's judgement and the end of a demand add. -/

namespace Sys2Proof.Machine

section
variable {s t u : State} {g : Seg} {x : Exchange} {o : ExchangeOutcome} {k : PointIdx}

/-! ### Change and limit (R41 to R50) -/

/-- LIMIT is due for the value. -/
def Point.bandDue (t : Point) (v : Int) : Bool := t.band.any fun b => limitDue b.state (b.classify v)

theorem point_judgeChange_same (s : State) (k : PointIdx) (old : Option Int) (v : Int) :
    (s.judgeChange k old v).point k =
      { s.point k with
        deadband := if changeDue (s.point k).deadband old v then
            (s.point k).deadband.map fun d => { d with reference := some v }
          else (s.point k).deadband } := by
  rw [judgeChange_eq]
  split
  · rw [(raisePoint_noticesOnly _ k _ _).point, point_modPoint_same]
  · rfl

theorem noteOf_judgeChange_same (s : State) (k : PointIdx) (old : Option Int) (v : Int) (p : Port) :
    (s.judgeChange k old v).noteOf p k =
      if changeDue (s.point k).deadband old v = true ∧ ((s.point k).subscribers 0).get p = true then
        (s.noteOf p k).add .change
      else s.noteOf p k := by
  rw [judgeChange_eq]
  by_cases due : changeDue (s.point k).deadband old v = true
  · rw [if_pos due, noteOf_raisePoint, noteOf_modPoint]
    · exact if_congr ⟨fun h => ⟨due, h.2⟩, fun h => ⟨rfl, h.2⟩⟩ rfl rfl
    · rfl
  · rw [if_neg due, if_neg fun both => due both.1]

theorem point_judgeBand_same (s : State) (k : PointIdx) (v : Int) : (s.judgeBand k v).point k =
    { s.point k with band := (s.point k).band.map fun b => { b with state := b.classify v } } := by
  cases band : (s.point k).band with
  | none =>
    rw [judgeBand_none band, Option.map_none, ← band]
  | some b =>
    rw [judgeBand_some band]
    split
    · rw [(raisePoint_noticesOnly _ k _ _).point, point_modPoint_same]
      rfl
    · rw [point_modPoint_same]
      rfl

theorem noteOf_judgeBand_same (s : State) (k : PointIdx) (v : Int) (p : Port) :
    (s.judgeBand k v).noteOf p k =
      if (s.point k).bandDue v = true ∧ ((s.point k).subscribers 1).get p = true then (s.noteOf p k).add .limit
      else s.noteOf p k := by
  unfold Point.bandDue
  cases band : (s.point k).band with
  | none =>
    rw [judgeBand_none band, if_neg fun both => by simp at both]
  | some b =>
    rw [judgeBand_some band, Option.any_some]
    by_cases due : limitDue b.state (b.classify v) = true
    · rw [if_pos due, noteOf_raisePoint, noteOf_modPoint]
      · exact if_congr ⟨fun h => ⟨due, h.2⟩, fun h => ⟨rfl, h.2⟩⟩ rfl rfl
      · rfl
    · rw [if_neg due, if_neg fun both => due both.1]
      exact noteOf_modPoint s k rfl p k

/-- The record behind a value update, judged against the band and the deadband of the record before. -/
def Point.evaluated (t : Point) (old : Option Int) (v : Int) : Point :=
  { t with
    deadband := if changeDue t.deadband old v then t.deadband.map fun d => { d with reference := some v }
      else t.deadband
    band := t.band.map fun b => { b with state := b.classify v } }

/-- The note behind a value update at a port that holds the subscriptions. -/
def PointNote.evaluated (n : PointNote) (change limit : Bool) : PointNote :=
  { n with
    changes := if change then min (n.changes + 1) 15 else n.changes
    limits := if limit then min (n.limits + 1) 15 else n.limits }

theorem point_evaluate_same (s : State) (k : PointIdx) (old : Option Int) (v : Int) :
    (s.evaluate k old v).point k = (s.point k).evaluated old v := by
  rw [State.evaluate, point_judgeBand_same, point_judgeChange_same]
  rfl

theorem noteOf_evaluate_same (s : State) (k : PointIdx) (old : Option Int) (v : Int) (p : Port) :
    (s.evaluate k old v).noteOf p k = (s.noteOf p k).evaluated
      (changeDue (s.point k).deadband old v && ((s.point k).subscribers 0).get p)
      ((s.point k).bandDue v && ((s.point k).subscribers 1).get p) := by
  rw [State.evaluate, noteOf_judgeBand_same, point_judgeChange_same, noteOf_judgeChange_same]
  have due : ({ s.point k with
      deadband := if changeDue (s.point k).deadband old v then
          (s.point k).deadband.map fun d => { d with reference := some v }
        else (s.point k).deadband } : Point).bandDue v = (s.point k).bandDue v := rfl
  have subs (d : Option Deadband) : ({ s.point k with deadband := d } : Point).subscribers 1 =
      (s.point k).subscribers 1 := rfl
  rw [due, subs]
  simp only [← Bool.and_eq_true]
  cases changeDue (s.point k).deadband old v && ((s.point k).subscribers 0).get p <;>
    cases (s.point k).bandDue v && ((s.point k).subscribers 1).get p <;> rfl

/-! ### A value update (R26, R28, R29, R41) -/

/-- The value of a point is updated: its record by `f`, then GOOD, then the judgements. -/
def State.updates (s : State) (k : PointIdx) (f : Point → Point) (v : Int) : State :=
  ((s.modPoint k f).setQuality k .good).evaluate k (s.point k).value v

theorem point_updates_same (s : State) (k : PointIdx) (f : Point → Point) (v : Int) :
    (s.updates k f v).point k =
      ({ f (s.point k) with quality := .good } : Point).evaluated (s.point k).value v := by
  rw [State.updates, point_evaluate_same, point_setQuality_same, point_modPoint_same]

/-- The update of the record keeps what the notices of a value update depend on. -/
structure Point.Stores (f : Point → Point) (t : Point) : Prop where
  generation : (f t).generation = t.generation
  quality : (f t).quality = t.quality
  subs : (f t).subs = t.subs
  deadband : (f t).deadband = t.deadband
  band : (f t).band = t.band
  demanders : (f t).demanders = t.demanders

/-- QUALITY joins a note where it is due. -/
def PointNote.withQuality (n : PointNote) (due : Bool) : PointNote := { n with quality := n.quality || due }

theorem add_quality_if (n : PointNote) {due : Bool} {p : Prop} [Decidable p] (iff : p ↔ due = true) :
    (if p then n.add .quality else n) = n.withQuality due := by
  cases due with
  | true => rw [if_pos (iff.mpr rfl), PointNote.withQuality, Bool.or_true]; rfl
  | false => rw [if_neg (iff.not.mpr nofun), PointNote.withQuality, Bool.or_false]

theorem noteOf_setQuality_same (s : State) (k : PointIdx) (q : Quality) (p : Port) :
    (s.setQuality k q).noteOf p k = (s.noteOf p k).withQuality
      (decide ((s.point k).quality ≠ q) && ((s.point k).subscribers 2).get p) := by
  rw [noteOf_setQuality]
  exact add_quality_if _ (by simp only [true_and, Bool.and_eq_true, decide_eq_true_eq])

theorem noteOf_updates_same {f : Point → Point} (stores : Point.Stores f (s.point k)) (v : Int) (p : Port) :
    (s.updates k f v).noteOf p k =
      ((s.noteOf p k).withQuality
        (decide ((s.point k).quality ≠ .good) && ((s.point k).subscribers 2).get p)).evaluated
        (changeDue (s.point k).deadband (s.point k).value v && ((s.point k).subscribers 0).get p)
        ((s.point k).bandDue v && ((s.point k).subscribers 1).get p) := by
  have subs (n : Nat) : ({ f (s.point k) with quality := .good } : Point).subscribers n = (s.point k).subscribers n := by
    rw [Point.subscribers, Point.subscribers, ← stores.subs]
  have subs' : (f (s.point k)).subscribers 2 = (s.point k).subscribers 2 := by
    rw [Point.subscribers, Point.subscribers, stores.subs]
  have band : ({ f (s.point k) with quality := .good } : Point).bandDue v = (s.point k).bandDue v := by
    rw [Point.bandDue, Point.bandDue, ← stores.band]
  rw [State.updates, noteOf_evaluate_same, point_setQuality_same, point_modPoint_same, noteOf_setQuality_same,
    point_modPoint_same, noteOf_modPoint s k stores.generation, subs, subs, subs', band, stores.quality]
  dsimp only
  rw [stores.deadband]

/-! ### A READ (R26 to R28, R65) -/

theorem readOk_input (input : (s.point k).kind = .input) (v : Int) :
    s.readOk k v = s.updates k (fun t => { t with value := some v, age := 0 }) v := by
  unfold State.readOk
  dsimp only
  rw [input]
  rfl

theorem readOk_fresh (output : (s.point k).kind = .output) (none : (s.point k).value = none) (v : Int) :
    s.readOk k v = s.updates k (fun t => { t with value := some v, observed := some v, age := 0 }) v := by
  unfold State.readOk
  dsimp only
  rw [output, none, State.updates, none]

theorem readOk_agrees {v : Int} (output : (s.point k).kind = .output) (value : (s.point k).value = some v) :
    s.readOk k v = (s.modPoint k fun t => { t with observed := some v, age := 0 }).setQuality k .good := by
  unfold State.readOk
  dsimp only
  rw [output, value]
  exact if_pos rfl

theorem readOk_disagrees {v d : Int} (output : (s.point k).kind = .output) (value : (s.point k).value = some d)
    (other : v ≠ d) : s.readOk k v = (s.modPoint k fun t =>
      { t with
        observed := some v
        slot := if t.slot.isSome then t.slot else some ⟨d, .reassert, false⟩ }).setQuality k .disagree := by
  unfold State.readOk
  dsimp only
  rw [output, value]
  exact if_neg other

theorem deliver_some {f : Slot} (flight : (s.point k).inFlight = some f) : s.deliver k =
    (s.updates k (fun t => { t with value := some f.value, age := 0, inFlight := none, failed := 0 }) f.value).raiseWrite
      k .delivered f.writer := by
  unfold State.deliver
  dsimp only
  rw [flight]
  rfl

/-! ### The outcome as a whole (R31, R40, R79) -/

/-- A record when the demand exchange that served it has ended. -/
def Point.released (t : Point) (x : Exchange) (j : PointIdx) : Point :=
  if x.kind = .demand ∧ j = x.target then { t with demanders := ⟨false, false⟩ } else t

/-- From `m`, what the outcome has left at a LIVE target, to `t`: the points of a LOST node are marked, and a demand
exchange has told its target's demanders. -/
structure LiveOutcome (g : Seg) (x : Exchange) (o : ExchangeOutcome) (s m t : State) : Prop where
  kept : ¬ s.bringsLost g x.node o → ∀ j, t.point j = (m.point j).released x j
  marked : s.bringsLost g x.node o → ∀ j, t.point j =
    ((if (m.point j).losesNode g x.node then { m.point j with quality := .nodeLost } else m.point j).released x j)
  notes : ¬ s.bringsLost g x.node o → ∀ p j, t.noteOf p j =
    if (x.kind = .demand ∧ j = x.target) ∧ (m.point j).demanders.get p = true then
      (m.noteOf p j).add (.demand o.demandOutcome)
    else m.noteOf p j
  told : s.bringsLost g x.node o → ∀ p j, t.noteOf p j =
    if (x.kind = .demand ∧ j = x.target) ∧ (m.point j).demanders.get p = true then
      ((m.noteOf p j).withQuality ((m.point j).losesNode g x.node && decide ((m.point j).quality ≠ .nodeLost) &&
        ((m.point j).subscribers 2).get p)).add (.demand o.demandOutcome)
    else (m.noteOf p j).withQuality ((m.point j).losesNode g x.node && decide ((m.point j).quality ≠ .nodeLost) &&
      ((m.point j).subscribers 2).get p)

theorem point_tellDemanders (live : (s.point k).life = .live) (d : DemandOutcome) (j : PointIdx) :
    (s.tellDemanders k d).point j = if j = k then { s.point k with demanders := ⟨false, false⟩ } else s.point j := by
  rw [State.tellDemanders, if_pos live, point_modPoint, (raisePoint_noticesOnly s k _ _).point,
    (raisePoint_noticesOnly s k _ _).point]
  rfl

theorem noteOf_tellDemanders (live : (s.point k).life = .live) (d : DemandOutcome) (p : Port) (j : PointIdx) :
    (s.tellDemanders k d).noteOf p j =
      if j = k ∧ (s.point k).demanders.get p = true then (s.noteOf p j).add (.demand d) else s.noteOf p j := by
  rw [State.tellDemanders, if_pos live, noteOf_modPoint _ k rfl, noteOf_raisePoint]

theorem point_demandEnded (live : (s.point x.target).life = .live) (o : ExchangeOutcome) (j : PointIdx) :
    (s.demandEnded g x o).point j = (s.point j).released x j := by
  unfold State.demandEnded Point.released
  by_cases demand : x.kind = .demand
  · rw [if_pos demand, (joins_offerAgain _ g x.target).point]
    refine (point_tellDemanders live o.demandOutcome j).trans ?_
    by_cases here : j = x.target
    · rw [if_pos here, if_pos ⟨demand, here⟩, here]
    · rw [if_neg here, if_neg fun both => here both.2]
  · rw [if_neg demand, if_neg fun both => demand both.1]

theorem noteOf_demandEnded (live : (s.point x.target).life = .live) (o : ExchangeOutcome) (p : Port) (j : PointIdx) :
    (s.demandEnded g x o).noteOf p j =
      if (x.kind = .demand ∧ j = x.target) ∧ (s.point j).demanders.get p = true then
        (s.noteOf p j).add (.demand o.demandOutcome)
      else s.noteOf p j := by
  unfold State.demandEnded
  by_cases demand : x.kind = .demand
  · rw [if_pos demand, (joins_offerAgain _ g x.target).notes]
    refine (noteOf_tellDemanders live o.demandOutcome p j).trans (if_congr ?_ rfl rfl)
    constructor
    · rintro ⟨rfl, asked⟩
      exact ⟨⟨demand, rfl⟩, asked⟩
    · rintro ⟨⟨-, rfl⟩, asked⟩
      exact ⟨rfl, asked⟩
  · rw [if_neg demand, if_neg fun both => demand both.1.1]

theorem tells_backTold (s : State) (k : PointIdx) (f : Slot) : Tells k s (s.backTold k f) := by
  have back : Tells k s (s.comesBack k f) := tells_modPoint s
  unfold State.backTold
  dsimp only
  split
  · split
    · exact (back.trans (tells_raiseWrite _ _ _)).trans (tells_raiseWrite _ _ _)
    · exact back.trans (tells_raiseWrite _ _ _)
  · split
    · exact back.trans (tells_raiseWrite _ _ _)
    · exact back

theorem tells_pointOutcome (s : State) (x : Exchange) (o : ExchangeOutcome) (received : Option Int) :
    Tells x.target s (s.pointOutcome x o received) := by
  unfold State.pointOutcome
  split
  · split
    · cases received with
      | none => exact .refl s
      | some v => exact tells_readOk s v
    · exact tells_deliver s
    · exact tells_setQuality s _
    · exact (tells_setQuality s _).trans (tells_writeRefused _)
    · exact .refl s
    · cases (s.point x.target).inFlight with
      | none => exact .refl s
      | some f => exact tells_backTold s _ f
  · exact tells_outcomeRetiring s o
  · exact .refl s

theorem bringsLost_congr {n : NodeIdx} (node : t.node g n = s.node g n) (cfg : (t.link g).cfg = (s.link g).cfg)
    (o : ExchangeOutcome) : t.bringsLost g n o ↔ s.bringsLost g n o := by
  rw [State.bringsLost, State.bringsLost, node, cfg]

theorem life_outcomeNode (s : State) (g : Seg) (x : Exchange) (o : ExchangeOutcome) (order : List Part) (j : PointIdx) :
    ((s.outcomeNode g x o order).point j).life = (s.point j).life := by
  have node := nodeOutcome s g x o order
  by_cases brings : s.bringsLost g x.node o
  · rw [node.marked brings]
    split <;> rfl
  · rw [State.point, node.points brings]
    rfl

theorem liveOutcome_hand (live : (s.point x.target).life = .live) (received : Option Int) (order : List Part) :
    LiveOutcome g x o s (s.pointOutcome x o received) (s.hand g x o received order) := by
  have own := atPoint_pointOutcome s x o received
  have joins := joins_outcomePoint s g x o received
  have node := nodeOutcome (s.outcomePoint g x o received) g x o order
  have brings_iff : (s.outcomePoint g x o received).bringsLost g x.node o ↔ s.bringsLost g x.node o :=
    bringsLost_congr ((joins.node g _).trans (own.node g _)) (by rw [joins.link, own.link]) o
  have alive : (((s.outcomePoint g x o received).outcomeNode g x o order).point x.target).life = .live := by
    rw [life_outcomeNode, joins.point, (tells_pointOutcome s x o received).kept.life, live]
  have open' : s.applyOutcome g x o received order = (s.outcomePoint g x o received).outcomeNode g x o order := by
    unfold State.applyOutcome State.outcomeClose
    rw [if_neg (by rw [alive]; nofun)]
  have cycles := cycles_outcomeSched (s.applyOutcome g x o received order) g x o
  have point (j : PointIdx) : (s.hand g x o received order).point j =
      (((s.outcomePoint g x o received).outcomeNode g x o order).point j).released x j := by
    rw [State.hand, cycles.point, open', point_demandEnded alive]
  have note (p : Port) (j : PointIdx) : (s.hand g x o received order).noteOf p j =
      if (x.kind = .demand ∧ j = x.target) ∧
          (((s.outcomePoint g x o received).outcomeNode g x o order).point j).demanders.get p = true then
        (((s.outcomePoint g x o received).outcomeNode g x o order).noteOf p j).add (.demand o.demandOutcome)
      else ((s.outcomePoint g x o received).outcomeNode g x o order).noteOf p j := by
    rw [State.hand, cycles.notes, open', noteOf_demandEnded alive]
  have told (j : PointIdx) (p : Port) : (((s.outcomePoint g x o received).outcomeNode g x o order).point j).demanders.get p =
      ((s.pointOutcome x o received).point j).demanders.get p := by
    by_cases brings : s.bringsLost g x.node o
    · rw [node.marked (brings_iff.mpr brings), joins.point]
      split <;> rfl
    · rw [State.point, node.points (brings_iff.not.mpr brings)]
      exact congrArg (fun r : Point => r.demanders.get p) (joins.point j)
  refine ⟨fun brings j => ?_, fun brings j => ?_, fun brings p j => ?_, fun brings p j => ?_⟩
  · rw [point, State.point, node.points (brings_iff.not.mpr brings)]
    exact congrArg (Point.released · x j) (joins.point j)
  · rw [point, node.marked (brings_iff.mpr brings), joins.point]
  · rw [note, told, node.notes (brings_iff.not.mpr brings), joins.notes]
  · have marked : ((s.outcomePoint g x o received).outcomeNode g x o order).noteOf p j =
        ((s.pointOutcome x o received).noteOf p j).withQuality
          (((s.pointOutcome x o received).point j).losesNode g x.node &&
            decide (((s.pointOutcome x o received).point j).quality ≠ .nodeLost) &&
            (((s.pointOutcome x o received).point j).subscribers 2).get p) := by
      rw [node.told (brings_iff.mpr brings), joins.point, joins.notes]
      exact add_quality_if _ (by simp only [Bool.and_eq_true, decide_eq_true_eq, and_assoc])
    rw [note, told, marked]

end

end Sys2Proof.Machine
end

section
/-! PROOF. An accepted answer at a LIVE target: the integer of its data characters (R25) and what a READ makes of it (R26
to R28, R41, R65). -/

namespace Sys2Proof.Machine

section
variable {s t u w : State} {g : Seg} {x : Exchange} {o : ExchangeOutcome} {k : PointIdx} {e : Env} {frame : List RxChar}

/-! ### The integer of the data characters (R25) -/

theorem getLsbD_seven (b : Byte) : b.getLsbD 7 = decide (128 ≤ b.toNat) :=
  (BitVec.msb_eq_getLsbD_last b).symm.trans (BitVec.msb_eq_decide b)

theorem intOfBytes_signed (xs : List Byte) : intOfBytes true xs =
    (natOfBytes xs : Int) - if 256 ^ xs.length ≤ 2 * natOfBytes xs then (256 : Int) ^ xs.length else 0 := by
  unfold intOfBytes
  dsimp only
  by_cases negative : 256 ^ xs.length ≤ 2 * natOfBytes xs
  · rw [if_pos negative, if_pos (by simpa using negative)]
  · rw [if_neg negative, if_neg (by simpa using negative), sub_zero]

theorem intOfBytes_unsigned (xs : List Byte) : intOfBytes false xs = natOfBytes xs := rfl

/-- The top bit of the last data character says whether the number reaches half of its range. -/
theorem sign_of_last {low high n m : Nat} {b : Byte} (value : n = low + high * b.toNat) (small : low < high)
    (range : 256 ^ m = 256 * high) : 256 ^ m ≤ 2 * n ↔ b.getLsbD 7 = true := by
  rw [range]
  have bound := b.isLt
  rw [getLsbD_seven, decide_eq_true_iff, value]
  constructor
  · intro reaches
    by_contra below
    have le : b.toNat ≤ 127 := by omega
    have := Nat.mul_le_mul_left high le
    omega
  · intro reaches
    have := Nat.mul_le_mul_left high reaches
    omega

theorem integers (b0 b1 b2 b3 : Byte) :
    intOfBytes false [b0] = b0.toNat ∧
    intOfBytes false [b0, b1] = (b0.toNat : Int) + 256 * b1.toNat ∧
    intOfBytes false [b0, b1, b2, b3] =
      (b0.toNat : Int) + 256 * b1.toNat + 65536 * b2.toNat + 16777216 * b3.toNat ∧
    intOfBytes true [b0] = (b0.toNat : Int) - (if b0.getLsbD 7 = true then 256 else 0) ∧
    intOfBytes true [b0, b1] = (b0.toNat : Int) + 256 * b1.toNat - (if b1.getLsbD 7 = true then 65536 else 0) ∧
    intOfBytes true [b0, b1, b2, b3] =
      (b0.toNat : Int) + 256 * b1.toNat + 65536 * b2.toNat + 16777216 * b3.toNat -
        (if b3.getLsbD 7 = true then 4294967296 else 0) := by
  have h0 := b0.isLt
  have h1 := b1.isLt
  have h2 := b2.isLt
  have n1 : natOfBytes [b0] = b0.toNat := by simp [natOfBytes]
  have n2 : natOfBytes [b0, b1] = b0.toNat + 256 * b1.toNat := by simp [natOfBytes]
  have n4 : natOfBytes [b0, b1, b2, b3] =
      b0.toNat + 256 * b1.toNat + 65536 * b2.toNat + 16777216 * b3.toNat := by
    simp only [natOfBytes]
    omega
  refine ⟨?_, ?_, ?_, ?_, ?_, ?_⟩
  · rw [intOfBytes_unsigned, n1]
  · rw [intOfBytes_unsigned, n2]
    push_cast
    rfl
  · rw [intOfBytes_unsigned, n4]
    push_cast
    rfl
  · have sign : 256 ^ [b0].length ≤ 2 * natOfBytes [b0] ↔ b0.getLsbD 7 = true :=
      sign_of_last (low := 0) (high := 1) (by omega) (by omega) rfl
    rw [intOfBytes_signed, if_congr sign rfl rfl, n1]
    rfl
  · have sign : 256 ^ [b0, b1].length ≤ 2 * natOfBytes [b0, b1] ↔ b1.getLsbD 7 = true := sign_of_last n2 h0 rfl
    rw [intOfBytes_signed, if_congr sign rfl rfl, n2]
    norm_num
  · have four : [b0, b1, b2, b3].length = 4 := rfl
    have sign := sign_of_last (m := 4) n4 (by omega) (by norm_num)
    rw [intOfBytes_signed, four, if_congr sign rfl rfl, n4]
    norm_num

theorem responseData_eq {node status check : Byte} {data : List Byte}
    (sent : frame.map RxChar.data = 0x5D :: node :: status :: byteOf data.length :: data ++ [check]) :
    responseData frame = data := by
  simp [responseData, sent]

/-! ### The accepted answer -/

theorem released_eq (t : Point) (x : Exchange) (j : PointIdx) :
    t.released x j = { t with demanders := (t.released x j).demanders } := by
  unfold Point.released
  split <;> rfl

/-- An accepted answer at a LIVE target leaves what OK makes of it. -/
theorem exec_accepted (awake : s.inReset = false) (receives : (s.link g).state = .busy .receiving x)
    (accepted : judgeResponse x frame = .accepted) (live : (s.point x.target).life = .live) :
    ∃ w t, Reports g s w ∧ exec (.responseFrameEnd g frame e) s = .next t ∧
      (∀ j, t.point j = ((w.pointOutcome x .ok (s.receivedBy x frame .accepted)).point j).released x j) ∧
      ∀ p j, t.noteOf p j =
        if (x.kind = .demand ∧ j = x.target) ∧
            ((w.pointOutcome x .ok (s.receivedBy x frame .accepted)).point j).demanders.get p = true then
          ((w.pointOutcome x .ok (s.receivedBy x frame .accepted)).noteOf p j).add (.demand .completed)
        else (w.pointOutcome x .ok (s.receivedBy x frame .accepted)).noteOf p j := by
  obtain ⟨u, listened, run⟩ := exec_attempt (e := e) awake (.inr (.inr ⟨rfl, receives, rfl, rfl⟩))
  rw [accepted, endAttempt_ends (o := .ok) rfl, if_pos rfl] at run
  have reports := listened.reports x .accepted
  have settles := settles_modLink ((u.reported g x .accepted).hand g x .ok (s.receivedBy x frame .accepted) e.order) g
    fun l => l.rest .ok
  have outcome := liveOutcome_hand (g := g) (o := .ok) (x := x) (s := u.reported g x .accepted)
    (by rw [reports.point, live]) (s.receivedBy x frame .accepted) e.order
  have found : ¬ (u.reported g x .accepted).bringsLost g x.node .ok := fun brings => nomatch brings.1
  exact ⟨_, _, reports, run, fun j => (settles.point j).trans (outcome.kept found j),
    fun p j => (settles.notes p j).trans (outcome.notes found p j)⟩

theorem receivedBy_read (read : x.func = .read) : s.receivedBy x frame .accepted =
    some (intOfBytes (s.point x.target).signed (responseData frame)) := if_pos ⟨rfl, read⟩

theorem pointOutcome_read (live : (s.point x.target).life = .live) (read : x.func = .read) (v : Int) :
    s.pointOutcome x .ok (some v) = s.readOk x.target v := by
  unfold State.pointOutcome
  rw [live, read]
  rfl

theorem pointOutcome_deliver (live : (s.point x.target).life = .live) (write : x.func = .write) (v : Option Int) :
    s.pointOutcome x .ok v = s.deliver x.target := by
  unfold State.pointOutcome
  rw [live, write]

end

end Sys2Proof.Machine

namespace Sys2Proof
open Machine

/-- Settles O40: an accepted READ is `readOk` at its target, by the branches of R26, R27 with R65, and R28. -/
theorem readOutcomes : Obligations.ReadOutcomes := by
  refine ⟨fun frame node status check data => responseData_eq, integers, ?_⟩
  intro s g x frame e v awake receives read accepted live value
  obtain ⟨w, t, reports, run, point, note⟩ := exec_accepted (e := e) awake receives accepted live
  have at_k := reports.point x.target
  have outcome : w.pointOutcome x .ok (s.receivedBy x frame .accepted) = w.readOk x.target v := by
    rw [receivedBy_read read, ← value, pointOutcome_read (by rw [at_k, live]) read]
  rw [outcome] at point note
  have record := (point x.target).trans (released_eq _ x _)
  refine ⟨t, run, fun input => ?_, fun output fresh => ?_, fun d output held => ?_⟩
  · rw [readOk_input (by rw [at_k, input]), point_updates_same] at record
    rw [record]
    exact ⟨rfl, rfl, rfl⟩
  · rw [readOk_fresh (by rw [at_k, output]) (by rw [at_k, fresh]), point_updates_same] at record
    rw [record]
    exact ⟨rfl, rfl, rfl, rfl⟩
  · have told {m : State} (same : w.readOk x.target v = m) (changes : ∀ p, (m.noteOf p x.target).changes =
        (s.noteOf p x.target).changes) (limits : ∀ p, (m.noteOf p x.target).limits = (s.noteOf p x.target).limits)
        (p : Port) : (t.noteOf p x.target).changes = (s.noteOf p x.target).changes ∧
          (t.noteOf p x.target).limits = (s.noteOf p x.target).limits := by
      rw [note, same]
      split
      · exact ⟨changes p, limits p⟩
      · exact ⟨changes p, limits p⟩
    have before (p : Port) : (w.modPoint x.target fun r => { r with observed := some v, age := 0 }).noteOf p x.target =
        s.noteOf p x.target := (noteOf_modPoint w _ rfl p _).trans (reports.notes p _)
    by_cases same : v = d
    · subst same
      have agrees := readOk_agrees (s := w) (by rw [at_k, output]) (by rw [at_k, held])
      rw [agrees, point_setQuality_same, point_modPoint_same, at_k] at record
      rw [record]
      refine ⟨held, rfl, fun _ => ⟨rfl, rfl, rfl⟩, fun other => absurd rfl other, rfl, rfl, told agrees ?_ ?_⟩
      · intro p
        rw [noteOf_setQuality_same, before]
        rfl
      · intro p
        rw [noteOf_setQuality_same, before]
        rfl
    · have disagrees := readOk_disagrees (s := w) (by rw [at_k, output]) (by rw [at_k, held]) same
      rw [disagrees, point_setQuality_same, point_modPoint_same, at_k] at record
      rw [record]
      refine ⟨held, rfl, fun agrees => absurd agrees same, fun _ => ⟨rfl, rfl, ?_⟩, rfl, rfl, told disagrees ?_ ?_⟩
      · cases (s.point x.target).slot <;> rfl
      · intro p
        rw [noteOf_setQuality_same, noteOf_modPoint w x.target rfl, reports.notes]
        rfl
      · intro p
        rw [noteOf_setQuality_same, noteOf_modPoint w x.target rfl, reports.notes]
        rfl

end Sys2Proof
end

section
/-! PROOF. A value update by an accepted answer (R41): its band, its deadband and every notice of its point. -/

namespace Sys2Proof.Machine

section
variable {s t u w : State} {g : Seg} {x : Exchange} {k : PointIdx}

theorem get_subscribers (t : Point) (n : Nat) (p : Port) : (t.subscribers n).get p = (t.subs.get p).getLsbD n := by
  cases p <;> rfl

theorem get_portUnion (a b : PortSet) (p : Port) : (portUnion a b).get p = (a.get p || b.get p) := by
  cases p <;> rfl

/-- DELIVERED and REFUSED go to the writer and to the WRITE subscribers (R60). -/
theorem noteOf_raiseWrite_final {r : WriteResult} (final : r = .delivered ∨ r = .refused) (s : State) (k : PointIdx)
    (by' : Writer) (p : Port) : (s.raiseWrite k r by').noteOf p k =
      { s.noteOf p k with
        write := if by' = .port p ∨ ((s.point k).subs.get p).getLsbD 3 = true then some (r, by')
          else (s.noteOf p k).write } := by
  have others : s.raiseWrite k r by' =
      s.raisePoint k (.write r by') (portUnion (writerPorts by') ((s.point k).subscribers 3)) := by
    rcases final with rfl | rfl <;> rfl
  rw [others, noteOf_raisePoint, get_portUnion, get_subscribers]
  by_cases told : by' = .port p ∨ ((s.point k).subs.get p).getLsbD 3 = true
  · rw [if_pos told, if_pos ⟨rfl, by rwa [Bool.or_eq_true, get_writerPorts]⟩]
    rfl
  · rw [if_neg told, if_neg fun both => told (by rw [← get_writerPorts, ← Bool.or_eq_true]; exact both.2)]

/-- The write result of a value update: DELIVERED where a writer brought the value. -/
def PointNote.broughtBy (n : PointNote) (t : Point) (p : Port) : Option Writer → PointNote
  | none => n
  | some by' =>
    { n with write := if by' = .port p ∨ (t.subs.get p).getLsbD 3 = true then some (.delivered, by') else n.write }

/-- The two ways that an accepted answer brings a value to its target (R41). -/
def Point.Brings (t : Point) (x : Exchange) (received : Option Int) (v : Int) (writer : Option Writer) : Prop :=
  x.func = .read ∧ (t.kind = .input ∨ t.value = none) ∧ received = some v ∧ writer = none ∨
    ∃ f, x.func = .write ∧ t.inFlight = some f ∧ v = f.value ∧ writer = some f.writer

/-- Either way the value is updated by a change of the record that stores it with age 0, and DELIVERED follows. -/
theorem pointOutcome_brings {received : Option Int} {v : Int} {writer : Option Writer}
    (live : (s.point x.target).life = .live) (brings : (s.point x.target).Brings x received v writer) :
    ∃ f, Point.Stores f (s.point x.target) ∧ (f (s.point x.target)).value = some v ∧ (f (s.point x.target)).age = 0 ∧
      (s.pointOutcome x .ok received).point x.target = (s.updates x.target f v).point x.target ∧
      ∀ p, (s.pointOutcome x .ok received).noteOf p x.target =
        ((s.updates x.target f v).noteOf p x.target).broughtBy (s.point x.target) p writer := by
  rcases brings with ⟨read, kind, rfl, rfl⟩ | ⟨f, write, flight, rfl, rfl⟩
  · rw [pointOutcome_read live read]
    cases input : (s.point x.target).kind with
    | input =>
      rw [readOk_input input]
      exact ⟨_, ⟨rfl, rfl, rfl, rfl, rfl, rfl⟩, rfl, rfl, rfl, fun _ => rfl⟩
    | output =>
      have fresh : (s.point x.target).value = none := kind.resolve_left (by rw [input]; nofun)
      rw [readOk_fresh input fresh]
      exact ⟨_, ⟨rfl, rfl, rfl, rfl, rfl, rfl⟩, rfl, rfl, rfl, fun _ => rfl⟩
  · rw [pointOutcome_deliver live write, deliver_some flight]
    refine ⟨_, ⟨rfl, rfl, rfl, rfl, rfl, rfl⟩, rfl, rfl, (raisePoint_noticesOnly _ _ _ _).point _, fun p => ?_⟩
    rw [noteOf_raiseWrite_final (.inl rfl), point_updates_same]
    rfl

end

end Sys2Proof.Machine

namespace Sys2Proof
open Machine

/-- Settles O42: a READ and a delivered WRITE update the value alike; DELIVERED and DEMAND come behind. -/
theorem valueUpdates : Obligations.ValueUpdates := by
  intro s g x frame e k v writer changes after due awake receives accepted target live brought changes_iff after_eq due_iff
  subst target
  obtain ⟨w, t, reports, run, point, note⟩ := exec_accepted (e := e) awake receives accepted live
  have at_k := reports.point x.target
  have change_eq : changeDue (s.point x.target).deadband (s.point x.target).value v = changes := by
    rw [Bool.eq_iff_iff, changeDue_iff, changes_iff]
  have classified : after = (s.point x.target).band.map fun b => b.classify v := by
    rw [after_eq]
    exact congrArg (Option.map · _) (funext fun b => (classify_eq b v).symm)
  have limit_eq : (s.point x.target).bandDue v = due := by
    rw [Bool.eq_iff_iff, due_iff, classified, Point.bandDue]
    cases (s.point x.target).band with
    | none => simp
    | some b => simp [limitDue_iff]
  have brings : (w.point x.target).Brings x (s.receivedBy x frame .accepted) v writer := by
    rw [at_k]
    rcases brought with ⟨read, kind, value, nobody⟩ | wrote
    · exact .inl ⟨read, kind, by rw [receivedBy_read read, value], nobody⟩
    · exact .inr wrote
  obtain ⟨f, stores, value, age, record, told⟩ := pointOutcome_brings (by rw [at_k, live]) brings
  have told := fun p => (told p).trans (congrArg (PointNote.broughtBy · _ p writer) (noteOf_updates_same stores v p))
  rw [point_updates_same] at record
  have final := (point x.target).trans (released_eq _ x _)
  rw [record] at final
  simp only [at_k, change_eq, limit_eq, reports.notes, get_subscribers] at told
  have asked (p : Port) : ((w.pointOutcome x .ok (s.receivedBy x frame .accepted)).point x.target).demanders.get p =
      (s.point x.target).demanders.get p := by
    rw [record]
    exact congrArg (PerPort.get · p) (stores.demanders.trans (by rw [at_k]))
  refine ⟨t, run, ?_, ?_, ?_, ?_, ?_, fun p => ?_, fun p j other => ?_⟩
  · rw [final]
    exact value
  · rw [final]
    exact age
  · rw [final]
    rfl
  · rw [final, classified]
    refine (congrArg (Option.map _) (stores.band.trans (by rw [at_k]))).trans ?_
    cases (s.point x.target).band <;> rfl
  · rw [final, ← change_eq]
    change (if changeDue (f (w.point x.target)).deadband (w.point x.target).value v = true then
      (f (w.point x.target)).deadband.map _ else (f (w.point x.target)).deadband) = _
    rw [stores.deadband, at_k]
  · rw [note, told, asked]
    by_cases asks : x.kind = .demand ∧ (s.point x.target).demanders.get p = true
    · rw [if_pos ⟨⟨asks.1, rfl⟩, asks.2⟩, if_pos asks]
      cases writer <;> rfl
    · rw [if_neg fun both => asks ⟨both.1.1, both.2⟩, if_neg asks]
      cases writer <;> rfl
  · rw [note, if_neg fun both => other both.1.2, (atPoint_pointOutcome w x .ok _).notes p j other, reports.notes]

end Sys2Proof
end

section
/-! PROOF. The end of an exchange at a LIVE target (R29 to R32, R36, R60 to R63), by whichever event. -/

namespace Sys2Proof.Machine

section
variable {s t u m : State} {g : Seg} {x : Exchange} {o : ExchangeOutcome} {k : PointIdx}

/-! ### What each outcome does at its target -/

theorem pointOutcome_refused_read (live : (s.point x.target).life = .live) (read : x.func = .read) (v : Option Int) :
    s.pointOutcome x .refused v = s.setQuality x.target .refused := by
  unfold State.pointOutcome
  rw [live, read]

theorem pointOutcome_refused_write (live : (s.point x.target).life = .live) (write : x.func = .write) (v : Option Int) :
    s.pointOutcome x .refused v = (s.setQuality x.target .refused).writeRefused x.target := by
  unfold State.pointOutcome
  rw [live, write]

theorem pointOutcome_failed_read (live : (s.point x.target).life = .live) (read : x.func = .read) (ok : o ≠ .ok)
    (refused : o ≠ .refused) (v : Option Int) : s.pointOutcome x o v = s := by
  unfold State.pointOutcome
  rw [live, read]
  cases o with
  | ok => exact absurd rfl ok
  | refused => exact absurd rfl refused
  | failed | deferred | lineFault | abandoned => rfl

theorem pointOutcome_failed_write (live : (s.point x.target).life = .live) (write : x.func = .write) (ok : o ≠ .ok)
    (refused : o ≠ .refused) (v : Option Int) :
    s.pointOutcome x o v = (s.point x.target).inFlight.elim s (s.backTold x.target) := by
  unfold State.pointOutcome
  rw [live, write]
  cases o with
  | ok => exact absurd rfl ok
  | refused => exact absurd rfl refused
  | failed | deferred | lineFault | abandoned => rfl

/-! ### A refused WRITE (R62) -/

theorem writeRefused_some {f : Slot} (flight : (s.point k).inFlight = some f) : s.writeRefused k =
    (s.modPoint k fun t => { t with inFlight := none, failed := 0 }).raiseWrite k .refused f.writer := by
  rw [State.writeRefused, flight]

theorem writeRefused_none (flight : (s.point k).inFlight = none) : s.writeRefused k = s := by
  rw [State.writeRefused, flight]

theorem refused_some {f : Slot} (flight : (s.point k).inFlight = some f) : (s.setQuality k .refused).writeRefused k =
    ((s.setQuality k .refused).modPoint k fun t => { t with inFlight := none, failed := 0 }).raiseWrite k .refused
      f.writer :=
  writeRefused_some (by rw [point_setQuality_same]; exact flight)

theorem point_refused_some {f : Slot} (flight : (s.point k).inFlight = some f) :
    ((s.setQuality k .refused).writeRefused k).point k =
      { s.point k with quality := .refused, inFlight := none, failed := 0 } := by
  rw [refused_some flight]
  refine ((raisePoint_noticesOnly _ k _ _).point k).trans ?_
  rw [point_modPoint_same, point_setQuality_same]

theorem noteOf_refused_some {f : Slot} (flight : (s.point k).inFlight = some f) (p : Port) :
    ((s.setQuality k .refused).writeRefused k).noteOf p k =
      { (s.noteOf p k).withQuality (decide ((s.point k).quality ≠ .refused) && ((s.point k).subscribers 2).get p) with
        write := if f.writer = .port p ∨ ((s.point k).subs.get p).getLsbD 3 = true then some (.refused, f.writer)
          else (s.noteOf p k).write } := by
  rw [refused_some flight, noteOf_raiseWrite_final (.inr rfl), noteOf_modPoint _ k rfl, noteOf_setQuality_same,
    point_modPoint_same, point_setQuality_same]
  rfl

/-! ### A WRITE that comes back (R63) -/

/-- The other results go to the writer alone (R60). -/
theorem noteOf_raiseWrite_port {r : WriteResult} (other : r = .superseded ∨ r = .delayed) (s : State) (k : PointIdx)
    (w : Writer) (p : Port) : (s.raiseWrite k r w).noteOf p k =
      { s.noteOf p k with write := if w = .port p then some (r, w) else (s.noteOf p k).write } := by
  have nobodyElse : portUnion (writerPorts w) noPorts = writerPorts w := by
    simp only [portUnion, noPorts, Bool.or_false]
  have alone : s.raiseWrite k r w = s.raisePoint k (.write r w) (writerPorts w) := by
    rcases other with rfl | rfl <;> exact congrArg (s.raisePoint k _) nobodyElse
  rw [alone, noteOf_raisePoint]
  by_cases told : w = .port p
  · rw [if_pos told, if_pos ⟨rfl, (get_writerPorts w p).mpr told⟩]
    rfl
  · rw [if_neg told, if_neg fun both => told ((get_writerPorts w p).mp both.2)]

theorem point_backTold_same (s : State) (k : PointIdx) (f : Slot) : (s.backTold k f).point k =
    { s.point k with
      inFlight := none, slot := some ((s.point k).slot.getD f), failed := min ((s.point k).failed + 1) 255 } := by
  have back : (s.comesBack k f).point k = _ := point_modPoint_same s k _
  unfold State.backTold
  dsimp only
  split <;> split
  · exact (((raisePoint_noticesOnly _ k _ _).point k).trans ((raisePoint_noticesOnly _ k _ _).point k)).trans back
  · exact ((raisePoint_noticesOnly _ k _ _).point k).trans back
  · exact ((raisePoint_noticesOnly _ k _ _).point k).trans back
  · exact back

theorem noteOf_backTold_same (s : State) (k : PointIdx) (f : Slot) (p : Port) : (s.backTold k f).noteOf p k =
    { s.noteOf p k with
      write := if (s.point k).failed = 0 ∧ ((s.point k).slot.getD f).writer = .port p then
          some (.delayed, ((s.point k).slot.getD f).writer)
        else if (s.point k).slot ≠ none ∧ f.writer = .port p then some (.superseded, f.writer)
        else (s.noteOf p k).write } := by
  have back : (s.comesBack k f).noteOf p k = s.noteOf p k := noteOf_modPoint s k rfl p k
  have given : (if (s.point k).slot.isSome then (s.comesBack k f).raiseWrite k .superseded f.writer
      else s.comesBack k f).noteOf p k =
      { s.noteOf p k with
        write := if (s.point k).slot ≠ none ∧ f.writer = .port p then some (.superseded, f.writer)
          else (s.noteOf p k).write } := by
    by_cases empty : (s.point k).slot = none
    · rw [if_neg (by simp [empty]), back, if_neg fun both => both.1 empty]
    · rw [if_pos (Option.isSome_iff_ne_none.mpr empty), noteOf_raiseWrite_port (.inl rfl), back]
      by_cases writer : f.writer = .port p
      · rw [if_pos writer, if_pos ⟨empty, writer⟩]
      · rw [if_neg writer, if_neg fun both => writer both.2]
  unfold State.backTold
  dsimp only
  by_cases first : (s.point k).failed = 0
  · rw [if_pos first, noteOf_raiseWrite_port (.inr rfl), given]
    by_cases writer : ((s.point k).slot.getD f).writer = .port p
    · have due : (s.point k).failed = 0 ∧ ((s.point k).slot.getD f).writer = .port p := ⟨first, writer⟩
      rw [if_pos writer, if_pos due]
    · have elsewhere : ¬ ((s.point k).failed = 0 ∧ ((s.point k).slot.getD f).writer = .port p) := fun both =>
        writer both.2
      rw [if_neg writer, if_neg elsewhere]
  · have told : ¬ ((s.point k).failed = 0 ∧ ((s.point k).slot.getD f).writer = .port p) := fun both => first both.1
    rw [if_neg first, given, if_neg told]

/-! ### The quality behind an outcome (R29 to R31, R36) -/

/-- QUALITY in the note says whether the quality has changed; the subscriptions and the demanders stay, and DEMAND is not
told. -/
structure QualityTold (k : PointIdx) (s t : State) : Prop where
  subs : (t.point k).subs = (s.point k).subs
  demanders : (t.point k).demanders = (s.point k).demanders
  demand : ∀ p, (t.noteOf p k).demand = (s.noteOf p k).demand
  told : ∀ p, (t.noteOf p k).quality = ((s.noteOf p k).quality ||
    (decide ((t.point k).quality ≠ (s.point k).quality) && ((s.point k).subs.get p).getLsbD 2))

theorem qualityTold_of_set {q : Quality} (subs : (t.point k).subs = (s.point k).subs)
    (demanders : (t.point k).demanders = (s.point k).demanders) (quality : (t.point k).quality = q)
    (demand : ∀ p, (t.noteOf p k).demand = (s.noteOf p k).demand) (notes : ∀ p, (t.noteOf p k).quality =
      ((s.noteOf p k).withQuality (decide ((s.point k).quality ≠ q) && ((s.point k).subscribers 2).get p)).quality) :
    QualityTold k s t :=
  ⟨subs, demanders, demand, fun p => by
    have swap : decide ((s.point k).quality ≠ q) = decide (q ≠ (s.point k).quality) := decide_eq_decide.mpr ne_comm
    rw [notes, PointNote.withQuality, quality, get_subscribers, swap]⟩

theorem qualityTold_of_kept (subs : (t.point k).subs = (s.point k).subs)
    (demanders : (t.point k).demanders = (s.point k).demanders) (quality : (t.point k).quality = (s.point k).quality)
    (demand : ∀ p, (t.noteOf p k).demand = (s.noteOf p k).demand)
    (notes : ∀ p, (t.noteOf p k).quality = (s.noteOf p k).quality) : QualityTold k s t :=
  ⟨subs, demanders, demand, fun p => by simp [notes, quality]⟩

theorem qualityTold_refl (k : PointIdx) (s : State) : QualityTold k s s :=
  qualityTold_of_kept rfl rfl rfl (fun _ => rfl) fun _ => rfl

theorem qualityTold_updates {f : Point → Point} (stores : Point.Stores f (s.point k)) (v : Int) :
    QualityTold k s (s.updates k f v) := by
  refine qualityTold_of_set (q := .good) ?_ ?_ ?_ (fun p => ?_) fun p => ?_
  · rw [point_updates_same]
    exact stores.subs
  · rw [point_updates_same]
    exact stores.demanders
  · rw [point_updates_same]
    rfl
  · rw [noteOf_updates_same stores]
    rfl
  · rw [noteOf_updates_same stores]
    rfl

/-- A record set to a quality behind a change that keeps quality, subscriptions and demanders. -/
theorem qualityTold_setQuality {f : Point → Point} (stores : Point.Stores f (s.point k)) (q : Quality) :
    QualityTold k s ((s.modPoint k f).setQuality k q) := by
  have note (p : Port) : ((s.modPoint k f).setQuality k q).noteOf p k =
      (s.noteOf p k).withQuality (decide ((s.point k).quality ≠ q) && ((s.point k).subscribers 2).get p) := by
    rw [noteOf_setQuality_same, point_modPoint_same, noteOf_modPoint s k stores.generation, stores.quality,
      Point.subscribers, stores.subs]
    rfl
  refine qualityTold_of_set (q := q) ?_ ?_ ?_ (fun p => ?_) fun p => ?_
  · rw [point_setQuality_same, point_modPoint_same]
    exact stores.subs
  · rw [point_setQuality_same, point_modPoint_same]
    exact stores.demanders
  · rw [point_setQuality_same]
  · rw [note]
    rfl
  · rw [note]

theorem qualityTold_readOk (s : State) (k : PointIdx) (v : Int) : QualityTold k s (s.readOk k v) := by
  cases kind : (s.point k).kind with
  | input =>
    rw [readOk_input kind]
    exact qualityTold_updates ⟨rfl, rfl, rfl, rfl, rfl, rfl⟩ v
  | output =>
    cases held : (s.point k).value with
    | none =>
      rw [readOk_fresh kind held]
      exact qualityTold_updates ⟨rfl, rfl, rfl, rfl, rfl, rfl⟩ v
    | some d =>
      by_cases same : v = d
      · subst same
        rw [readOk_agrees kind held]
        exact qualityTold_setQuality ⟨rfl, rfl, rfl, rfl, rfl, rfl⟩ .good
      · rw [readOk_disagrees kind held same]
        exact qualityTold_setQuality ⟨rfl, rfl, rfl, rfl, rfl, rfl⟩ .disagree

theorem deliver_none (flight : (s.point k).inFlight = none) : s.deliver k = s := by
  unfold State.deliver
  dsimp only
  rw [flight]

theorem qualityTold_deliver (s : State) (k : PointIdx) : QualityTold k s (s.deliver k) := by
  cases flight : (s.point k).inFlight with
  | none =>
    rw [deliver_none flight]
    exact qualityTold_refl k s
  | some f =>
    have updates : QualityTold k s (s.updates k
        (fun t => { t with value := some f.value, age := 0, inFlight := none, failed := 0 }) f.value) :=
      qualityTold_updates ⟨rfl, rfl, rfl, rfl, rfl, rfl⟩ f.value
    have quiet := raisePoint_noticesOnly (s.updates k
      (fun t => { t with value := some f.value, age := 0, inFlight := none, failed := 0 }) f.value) k
      (.write .delivered f.writer)
    rw [deliver_some flight]
    refine ⟨(congrArg Point.subs ((quiet _).point k)).trans updates.subs,
      (congrArg Point.demanders ((quiet _).point k)).trans updates.demanders, fun p => ?_, fun p => ?_⟩
    · rw [noteOf_raiseWrite_final (.inl rfl)]
      exact updates.demand p
    · rw [noteOf_raiseWrite_final (.inl rfl), State.raiseWrite, (quiet _).point]
      exact updates.told p

theorem qualityTold_pointOutcome (live : (s.point x.target).life = .live) (o : ExchangeOutcome) (v : Option Int) :
    QualityTold x.target s (s.pointOutcome x o v) := by
  have same : QualityTold x.target s s := qualityTold_refl x.target s
  by_cases ok : o = .ok
  · subst ok
    cases func : x.func with
    | read =>
      cases v with
      | none =>
        unfold State.pointOutcome
        rw [live, func]
        exact same
      | some v =>
        rw [pointOutcome_read live func]
        exact qualityTold_readOk s _ v
    | write =>
      rw [pointOutcome_deliver live func]
      exact qualityTold_deliver s _
  by_cases refused : o = .refused
  · subst refused
    have set : QualityTold x.target s (s.setQuality x.target .refused) := by
      refine qualityTold_of_set (q := .refused) ?_ ?_ ?_ (fun p => ?_) fun p => ?_
      · rw [point_setQuality_same]
      · rw [point_setQuality_same]
      · rw [point_setQuality_same]
      · rw [noteOf_setQuality_same]
        rfl
      · rw [noteOf_setQuality_same]
    cases func : x.func with
    | read =>
      rw [pointOutcome_refused_read live func]
      exact set
    | write =>
      rw [pointOutcome_refused_write live func]
      cases flight : (s.point x.target).inFlight with
      | none =>
        rw [writeRefused_none (by rw [point_setQuality_same]; exact flight)]
        exact set
      | some f =>
        refine qualityTold_of_set (q := .refused) ?_ ?_ ?_ (fun p => ?_) fun p => ?_
        · rw [point_refused_some flight]
        · rw [point_refused_some flight]
        · rw [point_refused_some flight]
        · rw [noteOf_refused_some flight]
          rfl
        · rw [noteOf_refused_some flight]
  · cases func : x.func with
    | read =>
      rw [pointOutcome_failed_read live func ok refused]
      exact same
    | write =>
      rw [pointOutcome_failed_write live func ok refused]
      cases flight : (s.point x.target).inFlight with
      | none => exact same
      | some f =>
        change QualityTold x.target s (s.backTold x.target f)
        refine qualityTold_of_kept ?_ ?_ ?_ (fun p => ?_) fun p => ?_
        · rw [point_backTold_same]
        · rw [point_backTold_same]
        · rw [point_backTold_same]
        · rw [noteOf_backTold_same]
        · rw [noteOf_backTold_same]

/-- Every outcome but OK and REFUSED keeps the quality. -/
theorem quality_pointOutcome_failed (live : (s.point x.target).life = .live) (ok : o ≠ .ok) (refused : o ≠ .refused)
    (v : Option Int) : ((s.pointOutcome x o v).point x.target).quality = (s.point x.target).quality := by
  cases func : x.func with
  | read => rw [pointOutcome_failed_read live func ok refused]
  | write =>
    rw [pointOutcome_failed_write live func ok refused]
    cases (s.point x.target).inFlight with
    | none => rfl
    | some f =>
      change ((s.backTold x.target f).point x.target).quality = _
      rw [point_backTold_same]

theorem quality_pointOutcome_refused (live : (s.point x.target).life = .live) (v : Option Int) :
    ((s.pointOutcome x .refused v).point x.target).quality = .refused := by
  cases func : x.func with
  | read => rw [pointOutcome_refused_read live func, point_setQuality_same]
  | write =>
    rw [pointOutcome_refused_write live func]
    cases flight : (s.point x.target).inFlight with
    | none => rw [writeRefused_none (by rw [point_setQuality_same]; exact flight), point_setQuality_same]
    | some f => rw [point_refused_some flight]

/-! ### From the outcome at the target to the end (R32, R40) -/

section
variable (h : LiveOutcome g x o s m t)
include h

/-- What the node's judgement and the end of the demand leave of a record: all but its quality and its demanders. -/
theorem LiveOutcome.record (j : PointIdx) : ∃ q d, t.point j = { m.point j with quality := q, demanders := d } := by
  by_cases brings : s.bringsLost g x.node o
  · rw [h.marked brings, released_eq]
    split
    · exact ⟨_, _, rfl⟩
    · exact ⟨_, _, rfl⟩
  · rw [h.kept brings, released_eq]
    exact ⟨_, _, rfl⟩

theorem LiveOutcome.quality_kept (found : ¬ s.bringsLost g x.node o) (j : PointIdx) :
    (t.point j).quality = (m.point j).quality := by
  rw [h.kept found, released_eq]

theorem LiveOutcome.quality_marked (brings : s.bringsLost g x.node o) (j : PointIdx) :
    (t.point j).quality = if (m.point j).losesNode g x.node then .nodeLost else (m.point j).quality := by
  rw [h.marked brings, released_eq]
  split <;> rfl

theorem LiveOutcome.write (p : Port) (j : PointIdx) : (t.noteOf p j).write = (m.noteOf p j).write := by
  by_cases brings : s.bringsLost g x.node o
  · rw [h.told brings]
    split <;> rfl
  · rw [h.notes brings]
    split <;> rfl

theorem LiveOutcome.demand (p : Port) (j : PointIdx) : (t.noteOf p j).demand =
    if (x.kind = .demand ∧ j = x.target) ∧ (m.point j).demanders.get p = true then some o.demandOutcome
    else (m.noteOf p j).demand := by
  by_cases brings : s.bringsLost g x.node o
  · rw [h.told brings]
    split <;> rfl
  · rw [h.notes brings]
    split <;> rfl

/-- QUALITY tells the change of the quality from before the outcome to its end, marks of the node included. -/
theorem LiveOutcome.quality {w : State} {j : PointIdx} (told : QualityTold j w m)
    (unmoved : s.bringsLost g x.node o → (m.point j).quality = (w.point j).quality) (p : Port) :
    (t.noteOf p j).quality = ((w.noteOf p j).quality ||
      (decide ((t.point j).quality ≠ (w.point j).quality) && ((w.point j).subs.get p).getLsbD 2)) := by
  by_cases brings : s.bringsLost g x.node o
  · have kept := unmoved brings
    have note : (t.noteOf p j).quality = ((m.noteOf p j).quality || ((m.point j).losesNode g x.node &&
        decide ((m.point j).quality ≠ .nodeLost) && ((m.point j).subscribers 2).get p)) := by
      rw [h.told brings]
      split <;> rfl
    rw [note, told.told, h.quality_marked brings, get_subscribers, told.subs, kept]
    by_cases loses : (m.point j).losesNode g x.node = true
    · rw [if_pos loses, loses]
      have swap : decide ((w.point j).quality ≠ .nodeLost) = decide (Quality.nodeLost ≠ (w.point j).quality) :=
        decide_eq_decide.mpr ne_comm
      simp [swap]
    · rw [if_neg loses, Bool.eq_false_iff.mpr loses]
      simp
  · have note : (t.noteOf p j).quality = (m.noteOf p j).quality := by
      rw [h.notes brings]
      split <;> rfl
    rw [note, told.told, h.quality_kept brings]

end

end

end Sys2Proof.Machine
end

section
/-! PROOF. The end of an exchange at a LIVE target (R29 to R32, R36, R60 to R63): the obligation, from the layers before. -/

namespace Sys2Proof.Machine

section
variable {s t u : State} {g : Seg} {x : Exchange} {o : ExchangeOutcome} {k : PointIdx}

theorem point_deliver_some {f : Slot} (flight : (s.point k).inFlight = some f) : (s.deliver k).point k =
    ({ s.point k with value := some f.value, age := 0, inFlight := none, failed := 0, quality := .good } :
      Point).evaluated (s.point k).value f.value := by
  rw [deliver_some flight]
  exact ((raisePoint_noticesOnly _ k _ _).point k).trans (point_updates_same s k _ _)

/-- A WRITE that ends leaves its target without a value in flight, by its outcome (R61 to R63). -/
structure WriteEnds (o : ExchangeOutcome) (f : Slot) (a b : Point) : Prop where
  inFlight : b.inFlight = none
  observed : b.observed = a.observed
  ok : o = .ok → b.value = some f.value ∧ b.age = 0 ∧ b.quality = .good ∧ b.failed = 0 ∧ b.slot = a.slot
  notOk : o ≠ .ok → b.value = a.value ∧ b.age = a.age
  refused : o = .refused → b.failed = 0 ∧ b.slot = a.slot
  back : o ≠ .ok → o ≠ .refused → b.failed = min (a.failed + 1) 255 ∧ b.slot = some (a.slot.getD f)

theorem writeEnds_pointOutcome {f : Slot} (live : (s.point x.target).life = .live) (write : x.func = .write)
    (flight : (s.point x.target).inFlight = some f) (v : Option Int) :
    WriteEnds o f (s.point x.target) ((s.pointOutcome x o v).point x.target) := by
  by_cases ok : o = .ok
  · subst ok
    rw [pointOutcome_deliver live write, point_deliver_some flight]
    exact ⟨rfl, rfl, fun _ => ⟨rfl, rfl, rfl, rfl, rfl⟩, fun other => absurd rfl other, nofun,
      fun other => absurd rfl other⟩
  by_cases refused : o = .refused
  · subst refused
    rw [pointOutcome_refused_write live write, point_refused_some flight]
    exact ⟨rfl, rfl, nofun, fun _ => ⟨rfl, rfl⟩, fun _ => ⟨rfl, rfl⟩, fun _ other => absurd rfl other⟩
  · rw [pointOutcome_failed_write live write ok refused, flight]
    change WriteEnds o f (s.point x.target) ((s.backTold x.target f).point x.target)
    rw [point_backTold_same]
    exact ⟨rfl, rfl, fun same => absurd same ok, fun _ => ⟨rfl, rfl⟩, fun same => absurd same refused,
      fun _ _ => ⟨rfl, rfl⟩⟩

/-- The write result of a WRITE that ends with DELIVERED or REFUSED. -/
theorem write_pointOutcome_final {f : Slot} (live : (s.point x.target).life = .live) (write : x.func = .write)
    (flight : (s.point x.target).inFlight = some f) (final : o = .ok ∨ o = .refused) (v : Option Int) (p : Port) :
    ((s.pointOutcome x o v).noteOf p x.target).write =
      if f.writer = .port p ∨ ((s.point x.target).subs.get p).getLsbD 3 = true then
        some (if o = .ok then .delivered else .refused, f.writer)
      else (s.noteOf p x.target).write := by
  rcases final with rfl | rfl
  · rw [pointOutcome_deliver live write, deliver_some flight, noteOf_raiseWrite_final (.inl rfl), point_updates_same,
      noteOf_updates_same ⟨rfl, rfl, rfl, rfl, rfl, rfl⟩]
    rfl
  · rw [pointOutcome_refused_write live write, noteOf_refused_some flight]
    rfl

theorem write_pointOutcome_back {f : Slot} (live : (s.point x.target).life = .live) (write : x.func = .write)
    (flight : (s.point x.target).inFlight = some f) (ok : o ≠ .ok) (refused : o ≠ .refused) (v : Option Int) (p : Port) :
    ((s.pointOutcome x o v).noteOf p x.target).write =
      if (s.point x.target).failed = 0 ∧ ((s.point x.target).slot.getD f).writer = .port p then
        some (.delayed, ((s.point x.target).slot.getD f).writer)
      else if (s.point x.target).slot ≠ none ∧ f.writer = .port p then some (.superseded, f.writer)
      else (s.noteOf p x.target).write := by
  rw [pointOutcome_failed_write live write ok refused, flight]
  exact congrArg PointNote.write (noteOf_backTold_same s x.target f p)

/-- A READ that is not OK keeps value, observed value, age and slot (R30, R31). -/
theorem read_pointOutcome_failed (live : (s.point x.target).life = .live) (read : x.func = .read) (ok : o ≠ .ok)
    (v : Option Int) : ((s.pointOutcome x o v).point x.target).value = (s.point x.target).value ∧
      ((s.pointOutcome x o v).point x.target).observed = (s.point x.target).observed ∧
      ((s.pointOutcome x o v).point x.target).age = (s.point x.target).age ∧
      ((s.pointOutcome x o v).point x.target).slot = (s.point x.target).slot := by
  by_cases refused : o = .refused
  · subst refused
    rw [pointOutcome_refused_read live read, point_setQuality_same]
    exact ⟨rfl, rfl, rfl, rfl⟩
  · rw [pointOutcome_failed_read live read ok refused]
    exact ⟨rfl, rfl, rfl, rfl⟩

end

end Sys2Proof.Machine

namespace Sys2Proof
open Machine

/-- Settles O41: the event hands the outcome on; at its target it is `pointOutcome`, and behind it the node marks its
points and a demand tells its demanders. -/
theorem outcomesAtLivePoints : Obligations.OutcomesAtLivePoints := by
  intro s g x o i k awake ends target live
  subst target
  obtain ⟨u, received, order, t, reports, run, settles, -⟩ := exec_endsExchange awake ends
  have at_k := reports.point x.target
  have alive : (u.point x.target).life = .live := at_k ▸ live
  have outcome := liveOutcome_hand (g := g) (o := o) alive received order
  have own := atPoint_pointOutcome u x o received
  have kept := (tells_pointOutcome u x o received).kept
  have brings_iff : u.bringsLost g x.node o ↔ s.bringsLost g x.node o :=
    bringsLost_congr (reports.nodes x.node) reports.cfg o
  have failed_of (brings : u.bringsLost g x.node o) : o ≠ .ok ∧ o ≠ .refused := by
    rw [brings.1]
    exact ⟨nofun, nofun⟩
  obtain ⟨q, d, record⟩ := outcome.record x.target
  have record : t.point x.target =
      { (u.pointOutcome x o received).point x.target with quality := q, demanders := d } :=
    (settles.point _).trans record
  have quality (j : PointIdx) : (t.point j).quality = ((u.hand g x o received order).point j).quality := by
    rw [settles.point]
  refine ⟨t, run, ?_, fun f write flight => ?_, fun read ok => ?_, fun refused => ?_, fun ok refused found => ?_,
    fun j alive' home node brings powered => ?_, fun p j alive' => ?_, fun found j other => ?_⟩
  · rw [record]
    exact kept.life.trans alive
  · have flight' : (u.point x.target).inFlight = some f := at_k ▸ flight
    have written := writeEnds_pointOutcome (o := o) alive write flight' received
    have result (p : Port) : (t.noteOf p x.target).write =
        ((u.pointOutcome x o received).noteOf p x.target).write := by
      rw [settles.notes, outcome.write]
    rw [at_k] at written
    refine ⟨?_, ?_, fun ok => ?_, fun ok => ?_, fun refused => ?_, fun final p => ?_,
      fun ok refused => ⟨?_, ?_, fun p => ?_⟩⟩
    · rw [record]
      exact written.inFlight
    · rw [record]
      exact written.observed
    · obtain ⟨value, age, good, failed, slot⟩ := written.ok ok
      have found : ¬ u.bringsLost g x.node o := fun brings => (failed_of brings).1 ok
      rw [quality, outcome.quality_kept found, record]
      exact ⟨value, age, good, failed, slot⟩
    · rw [record]
      exact written.notOk ok
    · rw [record]
      exact written.refused refused
    · rw [result, write_pointOutcome_final alive write flight' final, at_k, reports.notes]
    · rw [record]
      exact (written.back ok refused).1
    · rw [record]
      exact (written.back ok refused).2
    · rw [result, write_pointOutcome_back alive write flight' ok refused, at_k, reports.notes]
  · have read := read_pointOutcome_failed alive read ok received
    rw [at_k] at read
    rw [record]
    exact read
  · have found : ¬ u.bringsLost g x.node o := fun brings => (failed_of brings).2 refused
    subst refused
    rw [quality, outcome.quality_kept found, quality_pointOutcome_refused alive]
  · rw [quality, outcome.quality_kept (brings_iff.not.mpr found), quality_pointOutcome_failed alive ok refused, at_k]
  · have brings := brings_iff.mpr brings
    rw [quality, outcome.quality_marked brings, if_pos ((losesNode_iff _ g x.node).mpr ?_)]
    by_cases same : j = x.target
    · subst same
      have unmoved := quality_pointOutcome_failed alive (failed_of brings).1 (failed_of brings).2 received
      rw [kept.life, kept.seg, kept.node, unmoved, at_k]
      exact ⟨alive', home, node, powered⟩
    · rw [own.others j same, reports.point]
      exact ⟨alive', home, node, powered⟩
  · have told : QualityTold j u (u.pointOutcome x o received) := by
      by_cases same : j = x.target
      · subst same
        exact qualityTold_pointOutcome alive o received
      · exact qualityTold_of_kept (by rw [own.others j same]) (by rw [own.others j same]) (by rw [own.others j same])
          (fun p => by rw [own.notes p j same]) fun p => by rw [own.notes p j same]
    have unmoved (brings : u.bringsLost g x.node o) :
        ((u.pointOutcome x o received).point j).quality = (u.point j).quality := by
      by_cases same : j = x.target
      · subst same
        exact quality_pointOutcome_failed alive (failed_of brings).1 (failed_of brings).2 received
      · rw [own.others j same]
    have final := outcome.quality told unmoved p
    rw [settles.notes, settles.point, final, reports.point, reports.notes]
  · rw [settles.point, outcome.kept (brings_iff.not.mpr found), own.others j other, reports.point, Point.released,
      if_neg fun both => other both.2]

end Sys2Proof
end

section
/-! PROOF. The end of an exchange at the rest of its segment: the closure of a RETIRING target (R15 to R17), the node's
count (R120) and its probe marks, and the entries that join the queue (R58, R63). -/

namespace Sys2Proof.Machine

section
variable {s t u : State} {g : Seg} {x : Exchange} {o : ExchangeOutcome} {k : PointIdx}

/-! ### The closure of a record (R16, R17) -/

/-- The ports that are told of a closure. -/
def Point.toldRetired (t : Point) : PortSet := portUnion t.subscribed (portUnion t.demanders t.retireSet)

theorem get_toldRetired (t : Point) (p : Port) : t.toldRetired.get p = true ↔
    t.subs.get p ≠ 0 ∨ t.demanders.get p = true ∨ t.retireSet.get p = true := by
  rw [Point.toldRetired, get_portUnion, get_portUnion, Bool.or_eq_true, Bool.or_eq_true]
  refine or_congr ?_ Iff.rfl
  cases p <;> exact decide_eq_true_iff

/-- The record in CLOSED, before its closure is tested. -/
def State.closing (s : State) (k : PointIdx) : State :=
  ((s.modNode (s.point k).seg (s.point k).node NodeRec.leave).raisePoint k .retired (s.point k).toldRetired).modPoint k
    Point.close

theorem closePoint_eq (s : State) (k : PointIdx) : s.closePoint k = (s.closing k).closureTest k := rfl

theorem point_closing (s : State) (k : PointIdx) : (s.closing k).point k = (s.point k).close := by
  rw [State.closing, point_modPoint_same, (raisePoint_noticesOnly _ k _ _).point, point_modNode]

theorem noteOf_closing (s : State) (k : PointIdx) (p : Port) : (s.closing k).noteOf p k =
    if (s.point k).toldRetired.get p = true then (s.noteOf p k).add .retired else s.noteOf p k := by
  have unread : (s.modNode (s.point k).seg (s.point k).node NodeRec.leave).noteOf p k = s.noteOf p k := rfl
  rw [State.closing, noteOf_modPoint _ k rfl, noteOf_raisePoint, unread]
  exact if_congr (by simp) rfl rfl

theorem named_closing (s : State) (k : PointIdx) (p : Port) :
    (s.closing k).named p k = (s.named p k || (s.point k).toldRetired.get p) := by
  have unread : (s.modNode (s.point k).seg (s.point k).node NodeRec.leave).named p k = s.named p k := rfl
  rw [State.closing, named_modPoint _ k rfl, named_raisePoint, unread, decide_eq_true rfl, Bool.true_and]

theorem forgotten_closing_iff (s : State) (k : PointIdx) : (s.closing k).Forgotten k ↔
    ∀ p, ¬ (s.point k).toldRetired.get p = true ∧ s.named p k = false := by
  have one (p : Port) : (s.closing k).named p k = false ↔
      ¬ (s.point k).toldRetired.get p = true ∧ s.named p k = false := by
    rw [named_closing, Bool.or_eq_false_iff, Bool.not_eq_true, and_comm]
  rw [State.Forgotten, point_closing, one, one]
  refine ⟨fun h p => ?_, fun h => ⟨rfl, h .a, h .b⟩⟩
  cases p with
  | a => exact h.2.1
  | b => exact h.2.2

/-- A record that a list names, or that its closure tells of, stays CLOSED with its notes. -/
theorem closePoint_stays (named : ∃ p, (s.point k).toldRetired.get p = true ∨ s.named p k = true) :
    (s.closePoint k).point k = (s.point k).close ∧ ∀ p, (s.closePoint k).noteOf p k =
      if (s.point k).toldRetired.get p = true then (s.noteOf p k).add .retired else s.noteOf p k := by
  have kept : s.closePoint k = s.closing k := closureTest_of_not_forgotten fun forgotten => by
    obtain ⟨p, told | listed⟩ := named
    · exact ((forgotten_closing_iff s k).mp forgotten p).1 told
    · rw [((forgotten_closing_iff s k).mp forgotten p).2] at listed
      cases listed
  rw [kept]
  exact ⟨point_closing s k, noteOf_closing s k⟩

theorem closePoint_frees (free : ∀ p, ¬ (s.point k).toldRetired.get p = true ∧ s.named p k = false) :
    (s.closePoint k).point k = Point.cleared ((s.point k).generation + 1) := by
  rw [closePoint_eq, closureTest_of_forgotten ((forgotten_closing_iff s k).mpr free), point_setPoint_same, point_closing]
  rfl

theorem not_live_closePoint (s : State) (k : PointIdx) : ((s.closePoint k).point k).life ≠ .live := fun live =>
  (closePoint_reads s k).1 (.inl live)

/-! ### Probe marks (R126) -/

/-- From `s` to `t`, the node records of a segment may have lost their probe marks. -/
def Clears (g : Seg) (s t : State) : Prop :=
  ∀ n, t.node g n = s.node g n ∨ t.node g n = { s.node g n with probe := false }

theorem Clears.refl (g : Seg) (s : State) : Clears g s s := fun _ => .inl rfl

theorem Clears.trans (h : Clears g s t) (l : Clears g t u) : Clears g s u := fun n => by
  rcases l n with same | cleared
  · rw [same]
    exact h n
  · rcases h n with same | cleared'
    · rw [cleared, same]
      exact .inr rfl
    · rw [cleared, cleared']
      exact .inr rfl

theorem clears_modSched (s : State) (g : Seg) (f : Scheduler → Scheduler) : Clears g s (s.modSched g f) :=
  fun n => .inl (node_modSched s g f g n)

theorem clears_endScan (s : State) (g : Seg) : Clears g s (s.endScan g) := fun n =>
  .inl (((raiseSeg_noticesOnly _ g .scanEnded).node g n).trans (node_modSched s g _ g n))

theorem clears_beginCycle (s : State) (g : Seg) : Clears g s (s.beginCycle g) := fun n => by
  rw [State.beginCycle, node_mapNodes_same, node_modSched]
  exact .inr rfl

theorem clears_completeOnce (s : State) (g : Seg) : Clears g s (s.completeOnce g).1 := by
  unfold State.completeOnce
  dsimp only
  split
  · exact (clears_modSched s g _).trans (clears_endScan _ g)
  · exact (clears_modSched s g _).trans (clears_modSched _ g _)

theorem clears_startCycle (s : State) (g : Seg) : Clears g s (s.startCycle g) := by
  unfold State.startCycle
  dsimp only
  split
  · exact (clears_beginCycle s g).trans (clears_completeOnce _ g)
  · exact clears_beginCycle s g

theorem clears_complete (s : State) (g : Seg) : Clears g s (s.complete g) := by
  unfold State.complete
  dsimp only
  split
  · exact (clears_completeOnce s g).trans (clears_startCycle _ g)
  · exact clears_completeOnce s g

theorem clears_applyCut (s : State) (g : Seg) : Clears g s (s.applyCut g) := by
  unfold State.applyCut
  dsimp only
  generalize (if (s.sched g).scan.inCycle then (s.sched g).counted else (s.sched g).cyclesEnded) = n
  have counted : Clears g s (s.modSched g fun d => { d with cut := false, cyclesEnded := n }) := clears_modSched s g _
  split
  · split
    · exact counted.trans (clears_endScan _ g)
    · exact counted.trans (clears_startCycle _ g)
  · exact counted

theorem clears_cycleGoes (s : State) (g : Seg) (x : Exchange) : Clears g s (s.cycleGoes g x) := by
  unfold State.cycleGoes
  split
  · exact clears_applyCut s g
  · split
    · exact clears_complete s g
    · exact .refl g s

theorem node_stopsNow (s : State) (g : Seg) (n : NodeIdx) : (s.stopsNow g).node g n = s.node g n := by
  unfold State.stopsNow
  split
  · exact node_modSched s g _ g n
  · rfl

theorem node_demandEnded (s : State) (g : Seg) (x : Exchange) (o : ExchangeOutcome) (n : NodeIdx) :
    (s.demandEnded g x o).node g n = s.node g n := by
  unfold State.demandEnded
  split
  · exact ((joins_offerAgain _ g x.target).node g n).trans ((node_modSched _ g _ g n).trans
      ((atPoint_tellDemanders s x.target o.demandOutcome).node g n))
  · rfl

/-! ### The end at a target that is not LIVE -/

theorem tellDemanders_idle (idle : (s.point k).life ≠ .live) (d : DemandOutcome) : s.tellDemanders k d = s :=
  if_neg idle

theorem rejoined_idle (idle : (s.point k).life ≠ .live) : s.rejoined g k = [] := by
  rw [State.rejoined, State.rejoins, State.offers, decide_eq_false idle]
  rfl

theorem demandJoins_idle (idle : (s.point x.target).life ≠ .live) (o : ExchangeOutcome) :
    s.demandJoins g x o = [] := by
  unfold State.demandJoins
  split
  · refine rejoined_idle ?_
    rw [State.demandTold, tellDemanders_idle idle]
    exact idle
  · rfl

theorem point_demandEnded_idle (idle : (s.point x.target).life ≠ .live) (o : ExchangeOutcome) (j : PointIdx) :
    (s.demandEnded g x o).point j = s.point j := by
  unfold State.demandEnded
  split
  · rw [(joins_offerAgain _ g x.target).point, State.demandTold, tellDemanders_idle idle]
    rfl
  · rfl

theorem noteOf_demandEnded_idle (idle : (s.point x.target).life ≠ .live) (o : ExchangeOutcome) (p : Port)
    (j : PointIdx) : (s.demandEnded g x o).noteOf p j = s.noteOf p j := by
  unfold State.demandEnded
  split
  · rw [(joins_offerAgain _ g x.target).notes, State.demandTold, tellDemanders_idle idle]
    rfl
  · rfl

end

end Sys2Proof.Machine
end

section
/-! PROOF. The end of an exchange at the rest of its segment (R15 to R17, R40, R58, R63, R79, R120), from the layers
before: the closed target, the node's record and the queue. -/

namespace Sys2Proof.Machine

section
variable {s t u : State} {g : Seg} {x : Exchange} {o : ExchangeOutcome} {k : PointIdx}

/-! ### A RETIRING target (R15) -/

theorem outcomeRetiring_none (flight : (s.point k).inFlight = none) : s.outcomeRetiring k o = s := by
  unfold State.outcomeRetiring
  dsimp only
  rw [flight]

theorem outcomeRetiring_some {f : Slot} (flight : (s.point k).inFlight = some f) : s.outcomeRetiring k o =
    (s.modPoint k fun t => { t with inFlight := none }).raisePoint k (.write o.retiringResult f.writer)
      ⟨(writerPorts f.writer).a && (s.point k).retireSet.a, (writerPorts f.writer).b && (s.point k).retireSet.b⟩ := by
  unfold State.outcomeRetiring
  dsimp only
  rw [flight]

/-- The writer of the value in flight is in the retire notice set. -/
def Point.writerTold (t : Point) (p : Port) : Bool :=
  t.inFlight.any fun f => (writerPorts f.writer).get p && t.retireSet.get p

theorem notice_of_writerTold {t : Point} {p : Port} (wrote : t.writerTold p = true) : t.retireSet.get p = true := by
  rw [Point.writerTold] at wrote
  cases flight : t.inFlight with
  | none =>
    rw [flight] at wrote
    cases wrote
  | some f =>
    rw [flight] at wrote
    exact (Bool.and_eq_true_iff.mp wrote).2

theorem get_meet (a b : PortSet) (p : Port) : (⟨a.a && b.a, a.b && b.b⟩ : PortSet).get p = (a.get p && b.get p) := by
  cases p <;> rfl

theorem point_outcomeRetiring (s : State) (k : PointIdx) (o : ExchangeOutcome) :
    (s.outcomeRetiring k o).point k = { s.point k with inFlight := none } := by
  cases flight : (s.point k).inFlight with
  | none => rw [outcomeRetiring_none flight, ← flight]
  | some f => rw [outcomeRetiring_some flight, (raisePoint_noticesOnly _ k _ _).point, point_modPoint_same]

theorem noteOf_outcomeRetiring (s : State) (k : PointIdx) (o : ExchangeOutcome) (p : Port) {f : Slot}
    (flight : (s.point k).inFlight = some f) (wrote : f.writer = .port p) (notice : (s.point k).retireSet.get p = true) :
    ((s.outcomeRetiring k o).noteOf p k).write = some (o.retiringResult, f.writer) := by
  rw [outcomeRetiring_some flight, noteOf_raisePoint, get_meet, (get_writerPorts f.writer p).mpr wrote, notice,
    if_pos ⟨rfl, rfl⟩]
  rfl

theorem named_outcomeRetiring (s : State) (k : PointIdx) (o : ExchangeOutcome) (p : Port) :
    (s.outcomeRetiring k o).named p k = (s.named p k || (s.point k).writerTold p) := by
  cases flight : (s.point k).inFlight with
  | none => rw [outcomeRetiring_none flight, Point.writerTold, flight, Option.any_none, Bool.or_false]
  | some f =>
    rw [outcomeRetiring_some flight, named_raisePoint, named_modPoint s k rfl, get_meet, Point.writerTold, flight]
    simp

theorem pointOutcome_retiring (retiring : (s.point x.target).life = .retiring) (v : Option Int) :
    s.pointOutcome x o v = s.outcomeRetiring x.target o := by
  unfold State.pointOutcome
  rw [retiring]

/-- Before its closure, what the outcome leaves of a RETIRING target. -/
theorem retiring_judged (retiring : (s.point x.target).life = .retiring) (v : Option Int) (order : List Part) :
    ((s.outcomePoint g x o v).outcomeNode g x o order).point x.target = { s.point x.target with inFlight := none } ∧
      (∀ p, ((s.outcomePoint g x o v).outcomeNode g x o order).noteOf p x.target =
        (s.outcomeRetiring x.target o).noteOf p x.target) ∧
      ∀ p, ((s.outcomePoint g x o v).outcomeNode g x o order).named p x.target =
        (s.named p x.target || (s.point x.target).writerTold p) := by
  have joins := joins_outcomePoint s g x o v
  have node := nodeOutcome (s.outcomePoint g x o v) g x o order
  rw [pointOutcome_retiring retiring] at joins
  have before : (s.outcomePoint g x o v).point x.target = { s.point x.target with inFlight := none } :=
    (joins.point _).trans (point_outcomeRetiring s x.target o)
  have idle : ((s.outcomePoint g x o v).point x.target).life ≠ .live := by
    rw [before]
    change (s.point x.target).life ≠ .live
    rw [retiring]
    nofun
  have unmarked : ((s.outcomePoint g x o v).point x.target).losesNode g x.node = false :=
    Bool.eq_false_iff.mpr fun loses => idle ((losesNode_iff _ g x.node).mp loses).1
  have named (p : Port) : (s.outcomePoint g x o v).named p x.target = (s.outcomeRetiring x.target o).named p x.target :=
    named_congr (by rw [joins.port]) (by rw [joins.point])
  refine ⟨?_, fun p => ?_, fun p => ?_⟩
  · rw [← before]
    by_cases brings : (s.outcomePoint g x o v).bringsLost g x.node o
    · rw [node.marked brings, unmarked]
      rfl
    · rw [State.point, node.points brings]
      rfl
  · rw [← joins.notes]
    by_cases brings : (s.outcomePoint g x o v).bringsLost g x.node o
    · rw [node.told brings, if_neg fun all => by rw [unmarked] at all; exact nomatch all.1]
    · exact node.notes brings p _
  · rw [node.named p _ idle, named, named_outcomeRetiring]

/-- What the end of an exchange leaves of its RETIRING target: closed, or free where no list names it. -/
theorem retiring_hand (retiring : (s.point x.target).life = .retiring) (v : Option Int) (order : List Part) :
    ((∃ p, (s.point x.target).toldRetired.get p = true ∨ s.named p x.target = true) →
      (s.hand g x o v order).point x.target = (s.point x.target).close ∧
      ∀ p, (s.hand g x o v order).noteOf p x.target =
        if (s.point x.target).toldRetired.get p = true then
          ((s.outcomeRetiring x.target o).noteOf p x.target).add .retired
        else (s.outcomeRetiring x.target o).noteOf p x.target) ∧
    ((∀ p, ¬ (s.point x.target).toldRetired.get p = true ∧ s.named p x.target = false) →
      (s.hand g x o v order).point x.target = Point.cleared ((s.point x.target).generation + 1)) := by
  obtain ⟨point, note, named⟩ := retiring_judged (g := g) (o := o) retiring v order
  generalize judged : (s.outcomePoint g x o v).outcomeNode g x o order = n at point note named
  have applied : s.applyOutcome g x o v order = n.closePoint x.target := by
    unfold State.applyOutcome State.outcomeClose
    rw [judged, if_pos (by rw [point]; exact retiring)]
  have idle := not_live_closePoint n x.target
  have cycles := cycles_outcomeSched (n.closePoint x.target) g x o
  have final : (s.hand g x o v order).point x.target = (n.closePoint x.target).point x.target := by
    rw [State.hand, applied, cycles.point, point_demandEnded_idle idle]
  have finalNote (p : Port) : (s.hand g x o v order).noteOf p x.target = (n.closePoint x.target).noteOf p x.target := by
    rw [State.hand, applied, cycles.notes, noteOf_demandEnded_idle idle]
  have told : (n.point x.target).toldRetired = (s.point x.target).toldRetired := by rw [point]; rfl
  rw [final]
  refine ⟨fun known => ?_, fun unknown => ?_⟩
  · obtain ⟨closed, notes⟩ := closePoint_stays (s := n) (k := x.target) (by
      obtain ⟨p, retired | listed⟩ := known
      · exact ⟨p, .inl (told ▸ retired)⟩
      · exact ⟨p, .inr (by rw [named, listed, Bool.true_or])⟩)
    refine ⟨by rw [closed, point]; rfl, fun p => ?_⟩
    rw [finalNote, notes, told, note]
  · rw [closePoint_frees (s := n) fun p => ?_, point]
    obtain ⟨silent, unlisted⟩ := unknown p
    refine ⟨told ▸ silent, ?_⟩
    have unwritten : (s.point x.target).writerTold p = false := Bool.eq_false_iff.mpr fun wrote => by
      exact silent ((get_toldRetired _ p).mpr (.inr (.inr (notice_of_writerTold wrote))))
    rw [named, unlisted, unwritten]
    rfl

/-! ### The node's record (R120, R121) -/

theorem node_outcomeNode (s : State) (g : Seg) (x : Exchange) (o : ExchangeOutcome) (order : List Part) (n : NodeIdx) :
    (s.outcomeNode g x o order).node g n = if n = x.node then s.judged g x o else s.node g n := by
  have seg := congrArg (fun v : Segment => v.nodes[n.val]) (nodeOutcome s g x o order).seg
  refine Eq.trans seg ?_
  change ((s.seg g).nodes.set x.node.val (s.judged g x o) x.node.isLt)[n.val] = _
  by_cases same : n = x.node
  · subst same
    rw [if_pos rfl, Vector.getElem_set_self]
  · rw [if_neg same, Vector.getElem_set_ne _ _ fun values => same (Fin.ext values.symm)]
    rfl

theorem judged_congr (node : t.node g x.node = s.node g x.node) (cfg : (t.link g).cfg = (s.link g).cfg) :
    t.judged g x o = s.judged g x o := by
  rw [State.judged, State.judged, node, cfg]

/-- What the owners leave of the target's node: judged, and counted one less with the closure of its point. -/
def State.nodeLeft (s : State) (g : Seg) (x : Exchange) (o : ExchangeOutcome) : NodeRec :=
  if (s.point x.target).life = .retiring then (s.judged g x o).leave else s.judged g x o

theorem node_applyOutcome (home : (s.point x.target).life = .retiring →
      (s.point x.target).seg = g ∧ (s.point x.target).node = x.node) (v : Option Int) (order : List Part) (n : NodeIdx) :
    (s.applyOutcome g x o v order).node g n = if n = x.node then s.nodeLeft g x o else s.node g n := by
  have own := atPoint_pointOutcome s x o v
  have joins := joins_outcomePoint s g x o v
  have kept := (tells_pointOutcome s x o v).kept
  have unmoved (n : NodeIdx) : (s.outcomePoint g x o v).node g n = s.node g n :=
    (joins.node g n).trans (own.node g n)
  have judged : (s.outcomePoint g x o v).judged g x o = s.judged g x o :=
    judged_congr (unmoved x.node) (by rw [joins.link, own.link])
  have record (n : NodeIdx) : ((s.outcomePoint g x o v).outcomeNode g x o order).node g n =
      if n = x.node then s.judged g x o else s.node g n := by
    rw [node_outcomeNode, judged, unmoved]
  have life : (((s.outcomePoint g x o v).outcomeNode g x o order).point x.target).life = (s.point x.target).life := by
    rw [life_outcomeNode, joins.point, kept.life]
  unfold State.applyOutcome State.outcomeClose State.nodeLeft
  rw [life]
  by_cases retiring : (s.point x.target).life = .retiring
  · obtain ⟨seg, node⟩ := home retiring
    have point := (retiring_judged (g := g) (o := o) retiring v order).1
    rw [if_pos retiring, if_pos retiring]
    have segs := (closesPoint ((s.outcomePoint g x o v).outcomeNode g x o order) x.target).segs
    rw [point] at segs
    have read : (((s.outcomePoint g x o v).outcomeNode g x o order).closePoint x.target).node g n =
        (((s.outcomePoint g x o v).outcomeNode g x o order).modNode g x.node NodeRec.leave).node g n := by
      rw [State.node, State.seg, segs]
      change (((s.outcomePoint g x o v).outcomeNode g x o order).modNode (s.point x.target).seg (s.point x.target).node
        NodeRec.leave).node g n = _
      rw [seg, node]
    rw [read, node_modNode, record]
    by_cases same : n = x.node
    · rw [if_pos ⟨rfl, same⟩, if_pos same, if_pos same]
    · rw [if_neg fun both => same both.2, if_neg same, if_neg same]
  · rw [if_neg retiring, if_neg retiring, record]

theorem clears_hand (stays : o ≠ .abandoned) (v : Option Int) (order : List Part) :
    Clears g (s.applyOutcome g x o v order) (s.hand g x o v order) := by
  rw [State.hand, outcomeSched_eq _ g x stays]
  refine Clears.trans (fun n => .inl ?_) (clears_cycleGoes _ g x)
  rw [node_stopsNow, node_demandEnded]

/-- Without a cut and without the end of a cycle no probe mark is cleared. -/
theorem node_hand_rests (stays : o ≠ .abandoned) (uncut : (s.sched g).cut = false)
    (goes : (s.sched g).scan.inCycle = false ∨ (s.sched g).cursor ≠ none ∨ x.kind = .demand) (v : Option Int)
    (order : List Part) (n : NodeIdx) :
    (s.hand g x o v order).node g n = (s.applyOutcome g x o v order).node g n := by
  rw [State.hand, outcomeSched_eq _ g x stays, cycleGoes_rests, node_stopsNow, node_demandEnded]
  · rw [sched_stopsNow, sched_demandEnded, sched_applyOutcome]
    split
    · rfl
    · exact uncut
  · rw [sched_stopsNow, sched_demandEnded, sched_applyOutcome]
    split
    · next stopping =>
      rintro (⟨cut, -⟩ | ⟨-, cycle, -⟩)
      · cases cut
      · cases cycle
    · rintro (⟨cut, -⟩ | ⟨-, cycle, cursor, scan⟩)
      · exact Bool.eq_false_iff.mp uncut cut
      · rcases goes with idle | more | demand
        · exact Bool.eq_false_iff.mp idle cycle
        · exact more cursor
        · rw [demand] at scan
          cases scan

end

end Sys2Proof.Machine
end

section
/-! PROOF. The end of an exchange at the rest of its segment: what its target offers to the queue again (R58, R63), and the
obligation. -/

namespace Sys2Proof.Machine

section
variable {s t u : State} {g : Seg} {x : Exchange} {o : ExchangeOutcome} {k : PointIdx}

/-! ### The value that waits behind an outcome -/

theorem slot_readOk (s : State) (k : PointIdx) (v : Int) : ((s.readOk k v).point k).slot.any Slot.urgent =
    (s.point k).slot.any Slot.urgent := by
  cases kind : (s.point k).kind with
  | input =>
    rw [readOk_input kind, point_updates_same]
    rfl
  | output =>
    cases held : (s.point k).value with
    | none =>
      rw [readOk_fresh kind held, point_updates_same]
      rfl
    | some d =>
      by_cases same : v = d
      · subst same
        rw [readOk_agrees kind held, point_setQuality_same, point_modPoint_same]
      · rw [readOk_disagrees kind held same, point_setQuality_same, point_modPoint_same]
        dsimp only
        cases (s.point k).slot <;> rfl

/-- The value in flight that an outcome gives back. -/
def State.backValue (s : State) (x : Exchange) (o : ExchangeOutcome) : Option Slot :=
  if x.func = .write ∧ o ≠ .ok ∧ o ≠ .refused then (s.point x.target).inFlight else none

/-- An urgent value waits behind the outcome if it did before, or comes back to an empty slot. -/
theorem urgent_pointOutcome (live : (s.point x.target).life = .live) (o : ExchangeOutcome) (v : Option Int) :
    ((s.pointOutcome x o v).point x.target).slot.any Slot.urgent =
      ((s.point x.target).slot.or (s.backValue x o)).any Slot.urgent := by
  unfold State.backValue
  by_cases ok : o = .ok
  · subst ok
    rw [if_neg (by simp), Option.or_none]
    cases func : x.func with
    | read =>
      cases v with
      | none =>
        unfold State.pointOutcome
        rw [live, func]
        rfl
      | some v => rw [pointOutcome_read live func, slot_readOk]
    | write =>
      rw [pointOutcome_deliver live func]
      cases flight : (s.point x.target).inFlight with
      | none => rw [deliver_none flight]
      | some f =>
        rw [point_deliver_some flight]
        rfl
  by_cases refused : o = .refused
  · subst refused
    rw [if_neg (by simp), Option.or_none]
    cases func : x.func with
    | read => rw [pointOutcome_refused_read live func, point_setQuality_same]
    | write =>
      rw [pointOutcome_refused_write live func]
      cases flight : (s.point x.target).inFlight with
      | none => rw [writeRefused_none (by rw [point_setQuality_same]; exact flight), point_setQuality_same]
      | some f => rw [point_refused_some flight]
  · cases func : x.func with
    | read =>
      rw [pointOutcome_failed_read live func ok refused, if_neg (by simp), Option.or_none]
    | write =>
      rw [pointOutcome_failed_write live func ok refused, if_pos ⟨rfl, ok, refused⟩]
      cases flight : (s.point x.target).inFlight with
      | none => rw [Option.or_none]; rfl
      | some f =>
        change ((s.backTold x.target f).point x.target).slot.any Slot.urgent = _
        rw [point_backTold_same]
        cases (s.point x.target).slot <;> rfl

/-! ### What joins the queue (R57, R58, R63) -/

theorem rejoins_iff (s : State) (g : Seg) (k : PointIdx) : s.rejoins g k = true ↔
    ((s.point k).life = .live ∧ (s.point k).slot.any Slot.urgent = true) ∧
      (s.feed g).state = .on ∧ (∀ d ∈ (s.sched g).queue, d.point ≠ k) ∧ (s.sched g).queue.length < 8 := by
  rw [State.rejoins, State.offers, Bool.and_eq_true, Bool.and_eq_true, decide_eq_true_iff, decide_eq_true_iff,
    urgentCode_one_iff]

/-- What the owners leave of a LIVE target: all but its quality is what the outcome made of it. -/
theorem record_applyOutcome (live : (s.point x.target).life = .live) (v : Option Int) (order : List Part) :
    ∃ q, (s.applyOutcome g x o v order).point x.target = { (s.pointOutcome x o v).point x.target with quality := q } := by
  have joins := joins_outcomePoint s g x o v
  have node := nodeOutcome (s.outcomePoint g x o v) g x o order
  have alive : (((s.outcomePoint g x o v).outcomeNode g x o order).point x.target).life = .live := by
    rw [life_outcomeNode, joins.point, (tells_pointOutcome s x o v).kept.life, live]
  have open' : s.applyOutcome g x o v order = (s.outcomePoint g x o v).outcomeNode g x o order := by
    unfold State.applyOutcome State.outcomeClose
    rw [if_neg (by rw [alive]; nofun)]
  rw [open']
  by_cases brings : (s.outcomePoint g x o v).bringsLost g x.node o
  · rw [node.marked brings, joins.point]
    split
    · exact ⟨_, rfl⟩
    · exact ⟨_, rfl⟩
  · rw [State.point, node.points brings]
    exact ⟨_, joins.point x.target⟩

theorem feed_applyOutcome (s : State) (g : Seg) (x : Exchange) (o : ExchangeOutcome) (v : Option Int)
    (order : List Part) : (s.applyOutcome g x o v order).feed g = s.feed g :=
  (touches_applyOutcome (F := noSeg) (L := noSeg) (onlySeg_self g) s x o v order).feed g id

/-- A target out of use stays out of it, and a RETIRING one is closed. -/
theorem idle_applyOutcome (idle : (s.point x.target).life ≠ .live) (v : Option Int) (order : List Part) :
    ((s.applyOutcome g x o v order).point x.target).life ≠ .live := by
  have joins := joins_outcomePoint s g x o v
  have life : (((s.outcomePoint g x o v).outcomeNode g x o order).point x.target).life = (s.point x.target).life := by
    rw [life_outcomeNode, joins.point, (tells_pointOutcome s x o v).kept.life]
  unfold State.applyOutcome State.outcomeClose
  split
  · exact not_live_closePoint _ _
  · rwa [life]

/-- The entry that the target takes behind the end of its exchange. -/
def State.rejoinsAfter (s : State) (g : Seg) (x : Exchange) (o : ExchangeOutcome) : Prop :=
  (s.point x.target).life = .live ∧
    ((if x.kind = .demand then (s.point x.target).slot.or (s.backValue x o)
      else if (s.point x.target).slot = none then s.backValue x o else none).any Slot.urgent) = true ∧
    (s.feed g).state = .on ∧ (∀ d ∈ (s.sched g).served x, d.point ≠ x.target) ∧ ((s.sched g).served x).length < 8

theorem served_scan (scan : x.kind = .scan) (c : Scheduler) : c.served x = c.queue := by
  rw [Scheduler.served, scan]
  exact if_neg nofun

theorem demandJoins_scan (scan : x.kind = .scan) : s.demandJoins g x o = [] := by
  rw [State.demandJoins, scan]
  exact if_neg nofun

theorem returned_demand (demand : x.kind = .demand) (v : Option Int) : s.returned g x o v = [] := by
  have rests : s.givesBack x o = false := Bool.eq_false_iff.mpr fun gives => by
    obtain ⟨-, -, -, scan, -⟩ := (givesBack_iff s x o).mp gives
    rw [demand] at scan
    cases scan
  rw [State.returned, rests]
  rfl

/-- Behind a scan exchange only a WRITE that was not final offers its value again (R63). -/
theorem returned_scan (scan : x.kind = .scan) (v : Option Int) :
    (s.rejoinsAfter g x o → s.returned g x o v = [x.target]) ∧ (¬ s.rejoinsAfter g x o → s.returned g x o v = []) := by
  have own := atPoint_pointOutcome s x o v
  have life := (tells_pointOutcome s x o v).kept.life
  have back_iff : s.backValue x o ≠ none ↔
      (x.func = .write ∧ o ≠ .ok ∧ o ≠ .refused) ∧ (s.point x.target).inFlight ≠ none := by
    unfold State.backValue
    by_cases back : x.func = .write ∧ o ≠ .ok ∧ o ≠ .refused
    · rw [if_pos back]
      exact ⟨fun h => ⟨back, h⟩, And.right⟩
    · rw [if_neg back]
      exact ⟨fun h => absurd rfl h, fun h => absurd h.1 back⟩
  have joins_iff (live : (s.point x.target).life = .live) (empty : (s.point x.target).slot = none) :
      (s.pointOutcome x o v).rejoins g x.target = true ↔ (s.backValue x o).any Slot.urgent = true ∧
        (s.feed g).state = .on ∧ (∀ d ∈ (s.sched g).queue, d.point ≠ x.target) ∧ (s.sched g).queue.length < 8 := by
    rw [rejoins_iff, life, urgent_pointOutcome live, own.feed, own.sched, empty, Option.none_or]
    exact ⟨fun h => ⟨h.1.2, h.2⟩, fun h => ⟨⟨live, h.1⟩, h.2⟩⟩
  have after_iff : s.rejoinsAfter g x o ↔ (s.point x.target).life = .live ∧ (s.point x.target).slot = none ∧
      (s.backValue x o).any Slot.urgent = true ∧ (s.feed g).state = .on ∧
      (∀ d ∈ (s.sched g).queue, d.point ≠ x.target) ∧ (s.sched g).queue.length < 8 := by
    rw [State.rejoinsAfter, served_scan scan, scan, if_neg (by nofun)]
    by_cases empty : (s.point x.target).slot = none
    · rw [if_pos empty]
      simp [empty]
    · rw [if_neg empty]
      simp [empty]
  rw [after_iff]
  refine ⟨fun ⟨live, empty, urgent, rest⟩ => ?_, fun stays => ?_⟩
  · have flying : s.backValue x o ≠ none := fun none => by
      rw [none] at urgent
      cases urgent
    obtain ⟨⟨write, final⟩, flight⟩ := back_iff.mp flying
    rw [State.returned, (givesBack_iff s x o).mpr ⟨live, write, final, scan, empty, flight⟩, if_pos rfl, State.rejoined,
      (joins_iff live empty).mpr ⟨urgent, rest⟩, if_pos rfl]
  · cases gives : s.givesBack x o with
    | false =>
      rw [State.returned, gives]
      rfl
    | true =>
      obtain ⟨live, write, final, -, empty, flight⟩ := (givesBack_iff s x o).mp gives
      have silent : (s.pointOutcome x o v).rejoins g x.target = false := Bool.eq_false_iff.mpr fun joins => by
        obtain ⟨urgent, rest⟩ := (joins_iff live empty).mp joins
        exact stays ⟨live, empty, urgent, rest⟩
      rw [State.returned, gives, if_pos rfl, State.rejoined, silent]
      rfl

/-- Behind a demand exchange the target is offered again (R58). -/
theorem demandJoins_demand (demand : x.kind = .demand) (v : Option Int) (order : List Part) :
    (s.rejoinsAfter g x o → (s.applyOutcome g x o v order).demandJoins g x o = [x.target]) ∧
      (¬ s.rejoinsAfter g x o → (s.applyOutcome g x o v order).demandJoins g x o = []) := by
  by_cases live : (s.point x.target).life = .live
  · obtain ⟨q, record⟩ := record_applyOutcome (g := g) (o := o) live v order
    have alive : ((s.applyOutcome g x o v order).point x.target).life = .live := by
      rw [record]
      exact (tells_pointOutcome s x o v).kept.life.trans live
    have sched : (s.applyOutcome g x o v order).sched g = s.sched g := by
      rw [sched_applyOutcome, returned_demand demand, List.map_nil, List.append_nil]
    have queue : (((s.applyOutcome g x o v order).demandTold g x.target o).sched g).queue = (s.sched g).served x := by
      rw [State.demandTold, sched_modSched_same, (atPoint_tellDemanders _ x.target _).sched, sched, Scheduler.served,
        if_pos demand]
    have point : ((s.applyOutcome g x o v order).demandTold g x.target o).point x.target =
        { (s.applyOutcome g x o v order).point x.target with demanders := ⟨false, false⟩ } :=
      (point_tellDemanders alive o.demandOutcome x.target).trans (if_pos rfl)
    have feed : ((s.applyOutcome g x o v order).demandTold g x.target o).feed g = s.feed g := by
      rw [State.demandTold, feed_modSched, (atPoint_tellDemanders _ x.target _).feed, feed_applyOutcome]
    have joins_iff : ((s.applyOutcome g x o v order).demandTold g x.target o).rejoins g x.target = true ↔
        s.rejoinsAfter g x o := by
      have urgent := urgent_pointOutcome live o v
      rw [rejoins_iff, queue, point, feed, State.rejoinsAfter, if_pos demand, ← urgent, record]
      exact ⟨fun h => ⟨live, h.1.2, h.2⟩, fun h => ⟨⟨(tells_pointOutcome s x o v).kept.life.trans live, h.2.1⟩, h.2.2⟩⟩
    rw [State.demandJoins, if_pos demand, State.rejoined]
    exact ⟨fun joins => if_pos (joins_iff.mpr joins), fun stays => if_neg fun joins => stays (joins_iff.mp joins)⟩
  · exact ⟨fun joins => absurd joins.1 live, fun _ => demandJoins_idle (idle_applyOutcome live v order) o⟩

/-- The queue behind an outcome: without the entry it served, and with one for a value that is offered again. -/
theorem handedQueue_eq (s : State) (g : Seg) (x : Exchange) (o : ExchangeOutcome) (v : Option Int) (order : List Part) :
    (s.rejoinsAfter g x o → s.handedQueue g x o v order = (s.sched g).served x ++ [⟨x.target, ⟨false, false⟩, false⟩]) ∧
      (¬ s.rejoinsAfter g x o → s.handedQueue g x o v order = (s.sched g).served x) := by
  unfold State.handedQueue
  cases kind : x.kind with
  | scan =>
    obtain ⟨joins, stays⟩ := returned_scan (s := s) (g := g) (o := o) kind v
    rw [demandJoins_scan kind, served_scan kind, served_scan kind, sched_applyOutcome]
    refine ⟨fun after => ?_, fun after => ?_⟩
    · rw [joins after, List.map_nil, List.append_nil]
      rfl
    · rw [stays after, List.map_nil, List.append_nil]
      exact List.append_nil _
  | demand =>
    obtain ⟨joins, stays⟩ := demandJoins_demand (s := s) (g := g) (o := o) kind v order
    have served : ((s.applyOutcome g x o v order).sched g).served x = (s.sched g).served x := by
      rw [sched_applyOutcome, returned_demand kind, List.map_nil, List.append_nil]
    rw [served]
    refine ⟨fun after => ?_, fun after => ?_⟩
    · rw [joins after]
      rfl
    · rw [stays after, List.map_nil, List.append_nil]

end

end Sys2Proof.Machine
end

section
/-! PROOF. The end of an exchange at the rest of its segment: the obligation, from the layers before. -/

namespace Sys2Proof.Machine

section
variable {s t u : State} {g : Seg} {x : Exchange} {o : ExchangeOutcome} {k : PointIdx} {i : Instr}

theorem retiringResult_eq (o : ExchangeOutcome) :
    o.retiringResult = if o = .ok then .delivered else if o = .refused then .refused else .cancelled := by
  cases o <;> rfl

theorem demandOutcome_eq {o : ExchangeOutcome} (stays : o ≠ .abandoned) :
    o.demandOutcome = if o = .ok ∨ o = .refused then .completed else .failed := by
  cases o with
  | abandoned => exact absurd rfl stays
  | ok | refused | failed | deferred | lineFault => rfl

/-- The exchange that ends is the one in flight. -/
theorem exchange_of_endsExchange (ends : s.endsExchange i g x o) : (s.link g).exchange = some x := by
  refine (exchange_eq_some_iff _ _).mpr ?_
  rcases ends with ⟨e, -, awaits, -⟩ | ⟨e, -, receives, -⟩ | ⟨frame, e, -, receives, -⟩ | ⟨-, sending, -⟩ | ⟨-, sending, -⟩
  · exact ⟨_, awaits⟩
  · exact ⟨_, receives⟩
  · exact ⟨_, receives⟩
  · exact ⟨_, sending⟩
  · exact ⟨_, sending⟩

/-- The node's record at the end of an exchange, but for a probe mark that a new cycle has cleared (R120, R126). -/
theorem node_of_endsExchange {received : Option Int} {order : List Part} (law : SegmentLaw s)
    (ends : s.endsExchange i g x o) (reports : Reports g s u) (settles : Settles g (u.hand g x o received order) t)
    (stays : o ≠ .abandoned) (n : NodeIdx) :
    t.node g n = (if n = x.node then s.nodeLeft g x o else s.node g n) ∨
      t.node g n = { (if n = x.node then s.nodeLeft g x o else s.node g n) with probe := false } := by
  obtain ⟨-, -, flying, -⟩ := law g
  obtain ⟨home, node, -⟩ := flying x (exchange_of_endsExchange ends)
  have left : u.nodeLeft g x o = s.nodeLeft g x o := by
    rw [State.nodeLeft, State.nodeLeft, reports.point, judged_congr (reports.nodes x.node) reports.cfg]
  have applied := node_applyOutcome (s := u) (g := g) (x := x) (o := o)
    (fun _ => by rw [reports.point]; exact ⟨home, node⟩) received order n
  rw [left, reports.nodes] at applied
  rw [settles.nodes, ← applied]
  exact clears_hand stays received order n

theorem backValue_eq_some_iff (s : State) (x : Exchange) (o : ExchangeOutcome) (f : Slot) :
    s.backValue x o = some f ↔
      x.func = .write ∧ (s.point x.target).inFlight = some f ∧ o ≠ .ok ∧ o ≠ .refused := by
  unfold State.backValue
  by_cases back : x.func = .write ∧ o ≠ .ok ∧ o ≠ .refused
  · rw [if_pos back]
    exact ⟨fun flight => ⟨back.1, flight, back.2⟩, fun h => h.2.1⟩
  · rw [if_neg back]
    exact ⟨nofun, fun h => absurd ⟨h.1, h.2.2⟩ back⟩

/-- The value that is offered behind the end of an exchange: after a demand one that waits, after either one that came
back to an empty slot. -/
theorem waitsAfter_iff (s : State) (x : Exchange) (o : ExchangeOutcome) (f : Slot) :
    (if x.kind = .demand then (s.point x.target).slot.or (s.backValue x o)
      else if (s.point x.target).slot = none then s.backValue x o else none) = some f ↔
      (s.point x.target).slot = some f ∧ x.kind = .demand ∨
        (s.point x.target).slot = none ∧ x.func = .write ∧ (s.point x.target).inFlight = some f ∧ o ≠ .ok ∧
          o ≠ .refused := by
  rw [← backValue_eq_some_iff]
  cases (s.point x.target).slot with
  | none => simp
  | some old =>
    by_cases demand : x.kind = .demand
    · simp [demand]
    · simp [demand]

theorem rejoinsAfter_iff {kept : List DemandEntry} {urgent : Prop} (served : kept = (s.sched g).served x)
    (urgent_iff : urgent ↔ ∃ f, f.urgent = true ∧
      ((s.point x.target).slot = some f ∧ x.kind = .demand ∨
        (s.point x.target).slot = none ∧ x.func = .write ∧ (s.point x.target).inFlight = some f ∧ o ≠ .ok ∧
          o ≠ .refused)) :
    s.rejoinsAfter g x o ↔ urgent ∧ (s.point x.target).life = .live ∧ (s.feed g).state = .on ∧
      (∀ d ∈ kept, d.point ≠ x.target) ∧ kept.length < 8 := by
  have waits : ((if x.kind = .demand then (s.point x.target).slot.or (s.backValue x o)
      else if (s.point x.target).slot = none then s.backValue x o else none).any Slot.urgent) = true ↔ urgent := by
    rw [urgent_iff, Option.any_eq_true]
    exact exists_congr fun f => by rw [waitsAfter_iff, and_comm]
  rw [State.rejoinsAfter, waits, ← served]
  exact ⟨fun ⟨live, urgent, rest⟩ => ⟨urgent, live, rest⟩, fun ⟨urgent, live, rest⟩ => ⟨live, urgent, rest⟩⟩

theorem leave_refs (n : NodeRec) : n.leave.refs = n.refs - 1 := by
  unfold NodeRec.leave
  split
  · next few => exact (Nat.sub_eq_zero_of_le few).symm
  · rfl

theorem judge_refs (n : NodeRec) (o : ExchangeOutcome) (limit : Nat) : (n.judge o limit).refs = n.refs := by
  unfold NodeRec.judge
  split
  · rfl
  · cases o <;> rfl

/-- LINE_DOWN ends no cycle, and leaves no cut. -/
theorem lineDown_keeps (c : Scheduler) : c.lineDown.cyclesEnded = c.cyclesEnded ∧
    (c.cut = false → c.lineDown.cut = false) ∧ (c.scan = .stopped → c.lineDown.scan = .stopped) := by
  refine ⟨?_, fun uncut => ?_, fun stopped => ?_⟩
  · unfold Scheduler.lineDown
    cases c.scan <;> rfl
  · unfold Scheduler.lineDown
    cases c.scan with
    | stopped | haltedPower | haltedLine => exact uncut
    | waiting | running | finishing | stopping => rfl
  · rw [lineDown_resting (.inl stopped), stopped]

/-- What the end of an exchange at a LIVE target leaves of its demanders. -/
theorem demanders_released (t : Point) {x : Exchange} (d : PortSet) (demanders : t.demanders = d) :
    (t.released x x.target).demanders = if x.kind = .demand then ⟨false, false⟩ else d := by
  unfold Point.released
  by_cases demand : x.kind = .demand
  · rw [if_pos ⟨demand, rfl⟩, if_pos demand]
  · rw [if_neg fun both => demand both.1, if_neg demand, demanders]

theorem LiveOutcome.demanders {m : State} (h : LiveOutcome g x o s m t) : (t.point x.target).demanders =
    if x.kind = .demand then ⟨false, false⟩ else (m.point x.target).demanders := by
  by_cases brings : s.bringsLost g x.node o
  · rw [h.marked brings]
    refine demanders_released _ _ ?_
    split <;> rfl
  · rw [h.kept brings]
    exact demanders_released _ _ rfl

end

end Sys2Proof.Machine

namespace Sys2Proof
open Machine

/-- Settles O43: the owners' part closes a RETIRING target, the Scheduler's serves the queue and goes on. -/
theorem exchangeEnds : Obligations.ExchangeEnds := by
  intro s g x o i k told kept urgent offer awake ends target told_iff kept_eq urgent_iff offer_iff
  subst target
  obtain ⟨u, received, order, t, reports, run, settles, stays⟩ := exec_endsExchange awake ends
  have at_k := reports.point x.target
  have retired_iff (p : Port) : (u.point x.target).toldRetired.get p = true ↔ told p := by
    rw [at_k]
    exact (get_toldRetired _ p).trans (told_iff p).symm
  have served : kept = (u.sched g).served x := kept_eq.trans (congrArg (Scheduler.served · x) reports.sched.symm)
  have urgent_u : urgent ↔ ∃ f, f.urgent = true ∧
      ((u.point x.target).slot = some f ∧ x.kind = .demand ∨
        (u.point x.target).slot = none ∧ x.func = .write ∧ (u.point x.target).inFlight = some f ∧ o ≠ .ok ∧
          o ≠ .refused) := by
    rw [at_k]
    exact urgent_iff
  have offer_iff : u.rejoinsAfter g x o ↔ offer := by
    refine (rejoinsAfter_iff served urgent_u).trans ?_
    rw [at_k, reports.feed]
    exact offer_iff.symm
  have queue := handedQueue_eq u g x o received order
  have queue_eq : (t.sched g).queue = u.handedQueue g x o received order := settles.queue.trans (queue_hand u g x o _ _)
  have ungranted : x.kind = .demand → ∀ d ∈ kept, ¬ (d.point = x.target ∧ d.granted = true) := fun demand d queued => by
    rw [kept_eq, if_pos demand] at queued
    have passes := (List.mem_filter.mp queued).2
    rintro ⟨point, granted⟩
    simp [point, granted] at passes
  have handed := handed_hand (s := u) (g := g) (x := x) stays received order
  rw [reports.sched] at handed
  have halts : (t.sched g).cyclesEnded = ((u.hand g x o received order).sched g).cyclesEnded ∧
      (((u.hand g x o received order).sched g).cut = false → (t.sched g).cut = false) ∧
      (((u.hand g x o received order).sched g).scan = .stopped → (t.sched g).scan = .stopped) := by
    rcases settles.sched with same | down
    · rw [same]
      exact ⟨rfl, id, id⟩
    · rw [down]
      exact lineDown_keeps _
  refine ⟨t, run, fun retiring => ?_, fun live demand => ?_, fun live scan => ?_, fun joins => ?_, fun rests => ?_,
    fun demand d queued => ?_, fun law => ?_, fun stopping => ?_, fun cycle filled ended => ?_⟩
  · obtain ⟨known, unknown⟩ := retiring_hand (s := u) (g := g) (o := o) (by rw [at_k]; exact retiring) received order
    refine ⟨fun p retired => ?_, fun named => ?_, fun unnamed => ?_⟩
    · have due := (retired_iff p).mpr retired
      have note := (known ⟨p, .inl due⟩).2 p
      rw [if_pos due] at note
      rw [settles.notes, note]
      refine ⟨rfl, fun f flight wrote notice => ?_⟩
      rw [← retiringResult_eq]
      exact noteOf_outcomeRetiring u x.target o p (by rw [at_k]; exact flight) wrote (by rw [at_k]; exact notice)
    · rw [settles.point, (known ?_).1, at_k]
      · rfl
      · obtain ⟨p, retired | listed⟩ := named
        · exact ⟨p, .inl ((retired_iff p).mpr retired)⟩
        · exact ⟨p, .inr (by rw [reports.named]; exact listed)⟩
    · rw [settles.point, unknown fun p => ?_, at_k]
      exact ⟨fun due => (unnamed p).1 ((retired_iff p).mp due), by rw [reports.named]; exact (unnamed p).2⟩
  · have outcome := liveOutcome_hand (g := g) (o := o) (s := u) (x := x) (by rw [at_k]; exact live) received order
    have told := qualityTold_pointOutcome (s := u) (x := x) (by rw [at_k]; exact live) o received
    refine ⟨?_, fun p => ?_⟩
    · rw [settles.point, outcome.demanders, if_pos demand]
    · rw [settles.notes, outcome.demand, told.demanders, at_k, told.demand, reports.notes, demandOutcome_eq stays]
      exact if_congr ⟨And.right, fun h => ⟨⟨demand, rfl⟩, h⟩⟩ rfl rfl
  · have outcome := liveOutcome_hand (g := g) (o := o) (s := u) (x := x) (by rw [at_k]; exact live) received order
    have told := qualityTold_pointOutcome (s := u) (x := x) (by rw [at_k]; exact live) o received
    rw [settles.point, outcome.demanders, if_neg (by rw [scan]; nofun), told.demanders, at_k]
  · rw [queue_eq, queue.1 (offer_iff.mpr joins), ← served]
  · rw [queue_eq, queue.2 (offer_iff.not.mpr rests), ← served]
  · by_cases joins : u.rejoinsAfter g x o
    · rw [queue_eq, queue.1 joins, ← served] at queued
      rcases List.mem_append.mp queued with old | new
      · exact ungranted demand d old
      · obtain rfl := List.mem_singleton.mp new
        exact fun both => nomatch both.2
    · rw [queue_eq, queue.2 joins, ← served] at queued
      exact ungranted demand d queued
  · have node := node_of_endsExchange law ends reports settles stays x.node
    rw [if_pos rfl] at node
    have refs : (t.node g x.node).refs = (s.nodeLeft g x o).refs := by
      rcases node with same | cleared
      · rw [same]
      · rw [cleared]
    have judged : (s.judged g x o).refs = (s.node g x.node).refs := judge_refs _ o _
    refine ⟨?_, fun retiring few => ?_⟩
    · rw [refs, State.nodeLeft]
      split
      · rw [leave_refs, judged]
      · exact judged
    · have idle : s.nodeLeft g x o = ⟨.idle, 0, 0, false⟩ := by
        rw [State.nodeLeft, if_pos retiring, NodeRec.leave, judged, if_pos few]
      rw [idle] at node
      rcases node with same | cleared
      · exact same
      · exact cleared
  · exact halts.2.2 (by rw [handed.stopping stopping]; rfl)
  · have ends' : (s.sched g).endsNow x := by
      by_cases cut : (s.sched g).cut = true
      · exact .inl ⟨cut, .inl cycle⟩
      · obtain ⟨cursor, scan⟩ := ended.resolve_left cut
        exact .inr ⟨Bool.eq_false_iff.mpr cut, cycle, cursor, scan⟩
    have count : (s.sched g).endCount = min ((s.sched g).cyclesEnded + 1) 255 := if_pos cycle
    by_cases last : (s.sched g).lastCycle
    · have stops := handed.last ends' last
      refine ⟨?_, halts.2.1 ?_⟩
      · rw [halts.1, stops, ← count]
        rfl
      · rw [stops]
        rfl
    · have goes := (handed.on ends' last filled).rest
      refine ⟨?_, halts.2.1 ?_⟩
      · rw [halts.1, goes, ← count]
        rfl
      · rw [goes]

end Sys2Proof
end

section
/-! PROOF. The tally counters (R129, R130): each report adds to the counters that count it, and no other part of an event
touches them. -/

namespace Sys2Proof.Machine

section
variable {s t u : State} {g : Seg} {x : Exchange} {o : ExchangeOutcome} {i : Instr} {hit later : Tally → Bool}

/-- The segment's counters, the second by `true`. -/
def Segment.tallyOf (v : Segment) : Bool → Tally
  | false => v.tally0
  | true => v.tally1

def SegNote.wrapOf (n : SegNote) : Bool → Bool
  | false => n.wrap0
  | true => n.wrap1

/-- A counter after a report that `hit` says it counts. -/
def Tally.after (c : Tally) (hit : Tally → Bool) : Tally := if hit c then c.step else c

/-- TALLY is raised: the counter counts the report and goes from 65535 to 0, and the port's mask is set. -/
def Tally.raises (c : Tally) (hit : Tally → Bool) (mask : BitVec 6) : Bool :=
  hit c && decide (c.count = 0xFFFF) && mask.getLsbD 5

/-- From `s` to `t`, each counter of the segment that `hit` selects has counted one report (R130). -/
structure Counts (g : Seg) (hit : Tally → Bool) (s t : State) : Prop where
  counter : ∀ b, (t.seg g).tallyOf b = ((s.seg g).tallyOf b).after hit
  wrap : ∀ b p, (t.segNoteOf p g).wrapOf b =
    ((s.segNoteOf p g).wrapOf b || ((s.seg g).tallyOf b).raises hit (s.port p).segMask)
  mask : ∀ p, (t.port p).segMask = (s.port p).segMask

/-- From `s` to `t`, no counter of the segment has counted. -/
structure KeepsTallies (g : Seg) (s t : State) : Prop where
  counter : ∀ b, (t.seg g).tallyOf b = (s.seg g).tallyOf b
  wrap : ∀ b p, (t.segNoteOf p g).wrapOf b = (s.segNoteOf p g).wrapOf b
  mask : ∀ p, (t.port p).segMask = (s.port p).segMask

theorem KeepsTallies.refl (g : Seg) (s : State) : KeepsTallies g s s := ⟨fun _ => rfl, fun _ _ => rfl, fun _ => rfl⟩

theorem KeepsTallies.trans (h : KeepsTallies g s u) (k : KeepsTallies g u t) : KeepsTallies g s t :=
  ⟨fun b => (k.counter b).trans (h.counter b), fun b p => (k.wrap b p).trans (h.wrap b p),
    fun p => (k.mask p).trans (h.mask p)⟩

theorem KeepsTallies.counts (h : KeepsTallies g s u) (k : Counts g hit u t) : Counts g hit s t :=
  ⟨fun b => by rw [k.counter, h.counter], fun b p => by rw [k.wrap, h.wrap, h.counter, h.mask],
    fun p => (k.mask p).trans (h.mask p)⟩

theorem Counts.keeps (h : Counts g hit s u) (k : KeepsTallies g u t) : Counts g hit s t :=
  ⟨fun b => (k.counter b).trans (h.counter b), fun b p => (k.wrap b p).trans (h.wrap b p),
    fun p => (k.mask p).trans (h.mask p)⟩

theorem Counts.congr (h : Counts g hit s t) (same : ∀ c, later c = hit c) : Counts g later s t := by
  obtain rfl : later = hit := funext same
  exact h

/-- Two reports that no counter counts both. -/
theorem Counts.trans (h : Counts g hit s u) (k : Counts g later u t) (steady : ∀ c, later c.step = later c)
    (apart : ∀ c, hit c = true → later c = false) : Counts g (fun c => hit c || later c) s t := by
  have once (c : Tally) : (c.after hit).after later = c.after fun c => hit c || later c := by
    unfold Tally.after
    cases first : hit c with
    | true => simp [first, steady, apart c first]
    | false => simp [first]
  have told (c : Tally) (m : BitVec 6) :
      (c.raises hit m || (c.after hit).raises later m) = c.raises (fun c => hit c || later c) m := by
    unfold Tally.raises Tally.after
    cases first : hit c with
    | true => simp [first, steady, apart c first]
    | false => simp [first]
  refine ⟨fun b => by rw [k.counter, h.counter, once], fun b p => ?_, fun p => (k.mask p).trans (h.mask p)⟩
  rw [k.wrap, h.wrap, h.counter, h.mask, Bool.or_assoc, told]

theorem counts_tally (s : State) (g : Seg) (evs : List TallyEvent) (node : Option NodeIdx) :
    Counts g (·.counts evs node) s (s.tally g evs node) := by
  refine ⟨fun b => ?_, fun b p => ?_, fun p => segMask_of_bare ((tally_noticesOnly s g evs node).ports p)⟩
  · rw [seg_tally]
    cases b <;> rfl
  · rw [segNoteOf_tally, if_pos rfl]
    cases b <;> rfl

theorem counts_congr {c d : Tally} (event : c.event = d.event) (filter : c.filter = d.filter) (evs : List TallyEvent)
    (node : Option NodeIdx) : c.counts evs node = d.counts evs node := by
  unfold Tally.counts
  rw [event, filter]

theorem counts_iff (c : Tally) (evs : List TallyEvent) (node : Option NodeIdx) : c.counts evs node = true ↔
    c.event ∈ evs ∧ ∀ n, node = some n → c.filter = 0 ∨ c.filter = n.val + 1 := by
  unfold Tally.counts
  rw [Bool.and_eq_true, decide_eq_true_iff]
  refine and_congr Iff.rfl ?_
  cases node with
  | none => exact ⟨fun _ _ => nofun, fun _ => rfl⟩
  | some n =>
    refine decide_eq_true_iff.trans ⟨fun passes m same => ?_, fun passes => passes n rfl⟩
    cases same
    exact passes

/-- Two lists without a common event are not counted both. -/
theorem counts_apart {evs more : List TallyEvent} (apart : ∀ e ∈ evs, e ∉ more) (node next : Option NodeIdx)
    (c : Tally) (first : c.counts evs node = true) : c.counts more next = false :=
  Bool.eq_false_iff.mpr fun second =>
    apart _ ((counts_iff c evs node).mp first).1 ((counts_iff c more next).mp second).1

/-! ### Steps that report nothing -/

theorem AtPoint.keepsTallies {k : PointIdx} (h : AtPoint k s t) (g : Seg) : KeepsTallies g s t :=
  ⟨fun b => by rw [h.seg], fun b p => by rw [h.segNotes], fun p => segMask_of_bare (h.bare p)⟩

theorem Joins.keepsTallies {js : List PointIdx} (h : Joins g js s t) : KeepsTallies g s t :=
  ⟨fun b => by rw [h.seg]; cases b <;> rfl, fun b p => by rw [h.segNotes], fun p => by rw [h.port]⟩

theorem OutcomeCloses.keepsTallies {k : PointIdx} (h : OutcomeCloses k s t) (g : Seg) : KeepsTallies g s t := by
  refine ⟨fun b => ?_, fun b p => by rw [h.segNotes], fun p => segMask_of_bare (h.bare p)⟩
  obtain ⟨nodes, same⟩ := h.seg g
  rw [same]
  cases b <;> rfl

theorem Cycles.keepsTallies (h : Cycles g s t) : KeepsTallies g s t := by
  refine ⟨fun b => ?_, fun b p => ?_, fun p => segMask_of_bare (h.touches.ports p)⟩
  · cases b with
    | false => exact h.tally0
    | true => exact h.tally1
  · cases b with
    | false => exact (congrArg SegNote.wrap0 (h.ended p) :)
    | true => exact (congrArg SegNote.wrap1 (h.ended p) :)

theorem keepsTallies_modSched (s : State) (g : Seg) (f : Scheduler → Scheduler) : KeepsTallies g s (s.modSched g f) := by
  refine ⟨fun b => ?_, fun _ _ => rfl, fun _ => rfl⟩
  rw [State.modSched, seg_modSeg_same]
  cases b <;> rfl

theorem keepsTallies_modLink (s : State) (g : Seg) (f : Link → Link) : KeepsTallies g s (s.modLink g f) := by
  refine ⟨fun b => ?_, fun _ _ => rfl, fun _ => rfl⟩
  rw [State.modLink, seg_modSeg_same]
  cases b <;> rfl

theorem keepsTallies_line (s : State) (g : Seg) : KeepsTallies g s (s.raiseSeg g .line) := by
  refine ⟨fun b => by rw [(raiseSeg_noticesOnly s g .line).seg], fun b p => ?_, fun p => segMask_raiseSeg s g _ p⟩
  rw [segNoteOf_raiseSeg]
  split
  · cases b <;> rfl
  · rfl

theorem Listened.keepsTallies (h : Listened s g u) : KeepsTallies g s u := by
  rcases h with rfl | rfl
  · exact .refl g u
  · exact keepsTallies_modLink s g _

theorem keepsTallies_demandEnded (s : State) (g : Seg) (x : Exchange) (o : ExchangeOutcome) :
    KeepsTallies g s (s.demandEnded g x o) := by
  unfold State.demandEnded
  split
  · exact (((atPoint_tellDemanders s x.target o.demandOutcome).keepsTallies g).trans
      (keepsTallies_modSched _ g _)).trans (joins_offerAgain _ g x.target).keepsTallies
  · exact .refl g s

/-! ### The reports of an event (Table 7-4) -/

theorem NodeOutcome.counts (h : NodeOutcome g x o s t) : Counts g (·.counts (outcomeEvents x o) (some x.node)) s t := by
  refine ⟨fun b => ?_, fun b p => ?_, fun p => segMask_of_bare (h.bare p)⟩
  · rw [h.seg]
    cases b <;> rfl
  · rw [h.segNotes]
    cases b <;> rfl

/-- What is handed on reports its outcome once. -/
theorem counts_hand (s : State) (g : Seg) (x : Exchange) (o : ExchangeOutcome) (received : Option Int)
    (order : List Part) : Counts g (·.counts (outcomeEvents x o) (some x.node)) s (s.hand g x o received order) := by
  have before := ((atPoint_pointOutcome s x o received).keepsTallies g).trans
    (joins_outcomePoint s g x o received).keepsTallies
  have judged := before.counts (nodeOutcome _ g x o order).counts
  have closed := judged.keeps ((outcomeCloses _ x.target).keepsTallies g)
  exact (closed.keeps (keepsTallies_demandEnded _ g x o)).keeps (cycles_outcomeSched _ g x o).keepsTallies

/-- What an attempt reports; the last one is followed by the report of the outcome. -/
def attemptReports (x : Exchange) (r : AttemptResult) : Option ExchangeOutcome → List TallyEvent
  | none => attemptEvents x r
  | some o => attemptEvents x r ++ outcomeEvents x o

theorem mem_attemptEvents (x : Exchange) (r : AttemptResult) (e : TallyEvent) : e ∈ attemptEvents x r ↔
    e = .retries ∧ 1 < x.attempts ∨ e = .noResponse ∧ r = .noResponse ∨ e = .checkErrors ∧ r = .checkError ∨
      e = .busyReplies ∧ r = .busy := by
  unfold attemptEvents
  rw [List.mem_append]
  refine or_congr ?_ ?_
  · split <;> simp_all
  · cases r <;> simp

theorem mem_outcomeEvents (x : Exchange) (o : ExchangeOutcome) (e : TallyEvent) : e ∈ outcomeEvents x o ↔
    e = .exchangesOk ∧ o = .ok ∨ e = .refusals ∧ o = .refused ∨ e = .demandExchanges ∧ x.kind = .demand ∨
      e = .writesDelivered ∧ o = .ok ∧ x.func = .write := by
  have mem_due (e f : TallyEvent) (p : Prop) [Decidable p] : e ∈ (if p then [f] else []) ↔ e = f ∧ p := by
    split <;> simp_all
  unfold outcomeEvents
  rw [List.mem_append, List.mem_append, List.mem_append, mem_due, mem_due, mem_due, mem_due, or_assoc, or_assoc]

theorem attemptEvents_apart (x y : Exchange) (r : AttemptResult) (o : ExchangeOutcome) (e : TallyEvent)
    (attempt : e ∈ attemptEvents x r) : e ∉ outcomeEvents y o := by
  rw [mem_outcomeEvents]
  rcases (mem_attemptEvents x r e).mp attempt with ⟨rfl, -⟩ | ⟨rfl, -⟩ | ⟨rfl, -⟩ | ⟨rfl, -⟩ <;> simp

/-- The end of an attempt makes its reports. -/
theorem counts_endAttempt (s : State) (g : Seg) (x : Exchange) (r : AttemptResult) (received : Option Int) (idle : Bool)
    (order : List Part) :
    Counts g (·.counts (attemptReports x r (r.outcome (s.retries g x))) (some x.node)) s
      (s.endAttempt g x r received idle order) := by
  have attempt : Counts g _ s (s.reported g x r) := counts_tally s g (attemptEvents x r) (some x.node)
  cases ends : r.outcome (s.retries g x) with
  | none =>
    obtain ⟨again, more⟩ := (outcome_eq_none_iff r _).mp ends
    rcases or_assoc.mpr again with silent | rfl
    · rw [endAttempt_again silent more]
      exact attempt.keeps (keepsTallies_modLink _ g _)
    · rw [endAttempt_backs more]
      exact attempt.keeps (keepsTallies_modLink _ g _)
  | some o =>
    rw [endAttempt_ends ends]
    have both := attempt.trans (counts_hand (s.reported g x r) g { x with last := some r } o
      (if r = .accepted then received else none) order)
      (fun c => counts_congr rfl rfl _ _) (counts_apart (attemptEvents_apart x _ r o) (some x.node) _)
    refine (both.keeps (keepsTallies_modLink _ g _)).congr fun c => ?_
    rw [Bool.eq_iff_iff, Bool.or_eq_true, counts_iff, counts_iff, counts_iff, attemptReports, List.mem_append, or_and_right]
    rfl

/-- A line fault reports the exchange that it ends, and itself. -/
theorem counts_lineFault (s : State) (g : Seg) : Counts g (fun c =>
      (s.link g).exchange.any (fun x => c.counts (outcomeEvents x .lineFault) (some x.node)) ||
        c.counts [.lineFaults] none) s (s.lineFault g) := by
  have handed : Counts g (fun c => (s.link g).exchange.any fun x =>
      c.counts (outcomeEvents x .lineFault) (some x.node)) s (s.faultHanded g) := by
    cases flying : (s.link g).exchange with
    | none =>
      rw [faultHanded_none flying]
      exact ⟨fun _ => rfl, fun b p => by simp [Tally.raises], fun _ => rfl⟩
    | some x =>
      rw [faultHanded_some flying]
      exact counts_hand s g x .lineFault none []
  have told : Counts g (·.counts [.lineFaults] none) (s.faultHanded g) (s.faultTold g) :=
    ((keepsTallies_modLink _ g _).trans (keepsTallies_line _ g)).counts (counts_tally _ g [.lineFaults] none)
  have both := handed.trans told (fun c => counts_congr rfl rfl _ _) fun c first => by
    obtain ⟨x, -, counted⟩ := (Option.any_eq_true _ _).mp first
    refine counts_apart (fun e listed => ?_) _ none c counted
    rcases (mem_outcomeEvents x _ e).mp listed with ⟨rfl, -⟩ | ⟨rfl, -⟩ | ⟨rfl, -⟩ | ⟨rfl, -⟩ <;> simp
  by_cases below : min ((s.link g).faults + 1) 7 < (s.link g).cfg.faultLimit
  · rw [lineFault_recovers below]
    exact both.keeps (keepsTallies_modLink _ g _)
  · rw [lineFault_down (Nat.not_lt.mp below)]
    exact ((both.keeps (keepsTallies_modLink _ g _)).keeps (keepsTallies_line _ g)).keeps (keepsTallies_modSched _ g _)

end

end Sys2Proof.Machine
end

section
/-! PROOF. The node tracker (R120, R121, R125) and the tallies (R130): the obligation, from the layers before. -/

namespace Sys2Proof.Machine

section
variable {s t u : State} {g : Seg} {x : Exchange} {o : ExchangeOutcome} {i : Instr} {hit : Tally → Bool}

/-! ### The judgement (R121) -/

theorem judge_idle {n : NodeRec} (idle : n.state = .idle) (o : ExchangeOutcome) (limit : Nat) : n.judge o limit = n :=
  if_pos idle

theorem judge_answers {n : NodeRec} (tracked : n.state ≠ .idle) (limit : Nat)
    (answers : o = .ok ∨ o = .refused ∨ o = .deferred) : n.judge o limit = { n with state := .online, failures := 0 } := by
  unfold NodeRec.judge
  rw [if_neg tracked]
  rcases answers with rfl | rfl | rfl <;> rfl

theorem judge_failed {n : NodeRec} (tracked : n.state ≠ .idle) (limit : Nat) : n.judge .failed limit =
    { n with
      failures := min (n.failures + 1) 15
      state := if n.state = .lost ∨ limit ≤ min (n.failures + 1) 15 then .lost else .suspect } := by
  unfold NodeRec.judge
  rw [if_neg tracked]
  rfl

theorem judge_keeps (n : NodeRec) (limit : Nat) (keeps : o = .lineFault ∨ o = .abandoned) : n.judge o limit = n := by
  unfold NodeRec.judge
  rcases keeps with rfl | rfl <;> exact ite_self n

/-! ### The node's notice (R125) -/

theorem nodes_hand (s : State) (g : Seg) (x : Exchange) (o : ExchangeOutcome) (received : Option Int)
    (order : List Part) (p : Port) : ((s.hand g x o received order).segNoteOf p g).nodes =
      if (s.judged g x o).state ≠ (s.node g x.node).state ∧ (s.port p).segMask.getLsbD 4 = true then
        (s.segNoteOf p g).nodes ||| BitVec.twoPow 30 x.node.val
      else (s.segNoteOf p g).nodes := by
  have own := atPoint_pointOutcome s x o received
  have joins := joins_outcomePoint s g x o received
  have unmoved : (s.outcomePoint g x o received).node g x.node = s.node g x.node :=
    (joins.node g x.node).trans (own.node g x.node)
  have judged : (s.outcomePoint g x o received).judged g x o = s.judged g x o :=
    judged_congr unmoved (by rw [joins.link, own.link])
  have mask : ((s.outcomePoint g x o received).port p).segMask = (s.port p).segMask := by
    rw [joins.port]
    exact segMask_of_bare (own.bare p)
  have ended : ((s.hand g x o received order).segNoteOf p g).nodes =
      (((s.applyOutcome g x o received order).demandEnded g x o).segNoteOf p g).nodes :=
    (congrArg SegNote.nodes ((cycles_outcomeSched (s.applyOutcome g x o received order) g x o).ended p) :)
  rw [ended, segNotes_demandEnded, State.applyOutcome, (outcomeCloses _ _).segNotes,
    (nodeOutcome _ g x o order).segNotes, judged, unmoved, mask, joins.segNotes, own.segNotes]

/-- Without a cut and without the end of a cycle the record is as the owners have left it. -/
theorem node_rests_endsExchange {received : Option Int} {order : List Part} (law : SegmentLaw s)
    (ends : s.endsExchange i g x o) (reports : Reports g s u) (settles : Settles g (u.hand g x o received order) t)
    (stays : o ≠ .abandoned) (uncut : (s.sched g).cut = false)
    (goes : (s.sched g).scan.inCycle = false ∨ (s.sched g).cursor ≠ none ∨ x.kind = .demand) (n : NodeIdx) :
    t.node g n = if n = x.node then s.nodeLeft g x o else s.node g n := by
  obtain ⟨-, -, flying, -⟩ := law g
  obtain ⟨home, node, -⟩ := flying x (exchange_of_endsExchange ends)
  have left : u.nodeLeft g x o = s.nodeLeft g x o := by
    rw [State.nodeLeft, State.nodeLeft, reports.point, judged_congr (reports.nodes x.node) reports.cfg]
  have applied := node_applyOutcome (s := u) (g := g) (x := x) (o := o)
    (fun _ => by rw [reports.point]; exact ⟨home, node⟩) received order n
  rw [left, reports.nodes] at applied
  rw [settles.nodes, ← applied]
  exact node_hand_rests stays (by rwa [reports.sched]) (by rwa [reports.sched]) received order n

/-! ### The reports against Table 7-4 -/

/-- Each of the three events ends an attempt, with its reports. -/
theorem counts_attempt {e : Env} {frame : List RxChar} {r : AttemptResult} (awake : s.inReset = false)
    (event : (i = .responseWindowExpiry g e ∧ (s.link g).state = .busy .awaiting x ∧ r = .noResponse) ∨
      (i = .tenthCharacter g e ∧ (s.link g).state = .busy .receiving x ∧ r = .checkError) ∨
      (i = .responseFrameEnd g frame e ∧ (s.link g).state = .busy .receiving x ∧ r = judgeResponse x frame)) :
    ∃ t, exec i s = .next t ∧
      Counts g (·.counts (attemptReports x r (r.outcome (s.retries g x))) (some x.node)) s t := by
  have ended {idle : Bool} (run : ∃ u, Listened s g u ∧
      exec i s = .next (u.endAttempt g x r (s.receivedBy x frame r) idle e.order)) : ∃ t, exec i s = .next t ∧
        Counts g (·.counts (attemptReports x r (r.outcome (s.retries g x))) (some x.node)) s t := by
    obtain ⟨u, listened, run⟩ := run
    have retries : u.retries g x = s.retries g x := by rw [State.retries, listened.link_cfg]; rfl
    have counts := listened.keepsTallies.counts (counts_endAttempt u g x r (s.receivedBy x frame r) idle e.order)
    rw [retries] at counts
    exact ⟨_, run, counts⟩
  rcases event with ⟨same, awaits, result⟩ | ⟨same, receives, result⟩ | ⟨same, receives, result⟩
  · exact ended (exec_attempt awake (.inl ⟨same, awaits, result, rfl⟩))
  · exact ended (exec_attempt awake (.inr (.inl ⟨same, receives, result, rfl⟩)))
  · exact ended (exec_attempt awake (.inr (.inr ⟨same, receives, result, rfl⟩)))

/-- The counters named by what an attempt and, at the last, its outcome report. -/
theorem attemptReports_iff (x : Exchange) (r : AttemptResult) (more : Bool) (e : TallyEvent) :
    e ∈ attemptReports x r (r.outcome more) ↔
      e = .retries ∧ 1 < x.attempts ∨ e = .noResponse ∧ r = .noResponse ∨ e = .checkErrors ∧ r = .checkError ∨
        e = .busyReplies ∧ r = .busy ∨ e = .exchangesOk ∧ r = .accepted ∨
        e = .refusals ∧ (r = .noObject ∨ r = .badLength ∨ r = .readOnly) ∨
        e = .demandExchanges ∧ x.kind = .demand ∧ r.outcome more ≠ none ∨
        e = .writesDelivered ∧ r = .accepted ∧ x.func = .write := by
  cases ends : r.outcome more with
  | none =>
    rw [attemptReports, mem_attemptEvents]
    rcases (outcome_eq_none_iff r more).mp ends with ⟨rfl | rfl | rfl, -⟩ <;> simp
  | some o =>
    rw [attemptReports, List.mem_append, mem_attemptEvents, mem_outcomeEvents]
    cases r with
    | accepted | noObject | badLength | readOnly =>
      cases ends
      simp
    | noResponse | checkError | busy =>
      cases more <;> cases ends
      simp [or_assoc]

theorem faultReports_iff (s : State) (g : Seg) (c : Tally) :
    ((s.link g).exchange.any (fun x => c.counts (outcomeEvents x .lineFault) (some x.node)) ||
      c.counts [.lineFaults] none) = true ↔
    c.event = .lineFaults ∨ c.event = .demandExchanges ∧ ∃ x, (s.link g).exchange = some x ∧ x.kind = .demand ∧
      (c.filter = 0 ∨ c.filter = x.node.val + 1) := by
  have demand (x : Exchange) : c.event ∈ outcomeEvents x .lineFault ↔
      c.event = .demandExchanges ∧ x.kind = .demand := by
    rw [mem_outcomeEvents]
    simp
  rw [Bool.or_eq_true, or_comm, Option.any_eq_true]
  refine or_congr ?_ ⟨?_, ?_⟩
  · rw [counts_iff]
    simp
  · rintro ⟨x, flying, counted⟩
    obtain ⟨listed, filter⟩ := (counts_iff _ _ _).mp counted
    exact ⟨((demand x).mp listed).1, x, flying, ((demand x).mp listed).2, filter _ rfl⟩
  · rintro ⟨event, x, flying, kind, filter⟩
    refine ⟨x, flying, (counts_iff _ _ _).mpr ⟨(demand x).mpr ⟨event, kind⟩, fun n same => ?_⟩⟩
    cases same
    exact filter

theorem tally_of_hit (hits : ∀ c, hit c = c.counts evs node) (w0 w1 : Bool)
    (same0 : w0 = (s.seg g).tally0.wraps evs node) (same1 : w1 = (s.seg g).tally1.wraps evs node) :
    s.tally g evs node = (fun t => if w1 then t.raiseSeg g (.tally true) else t)
      ((fun t => if w0 then t.raiseSeg g (.tally false) else t)
        (s.modSeg g fun v =>
          { v with
            tally0 := if hit v.tally0 then { v.tally0 with count := v.tally0.count + 1 } else v.tally0
            tally1 := if hit v.tally1 then { v.tally1 with count := v.tally1.count + 1 } else v.tally1 })) := by
  obtain rfl : hit = (·.counts evs node) := funext hits
  subst same0 same1
  exact tally_eq s g evs node

end

end Sys2Proof.Machine

namespace Sys2Proof
open Machine

/-- Settles O44: the judgement by cases, the node record and NODE at the end of an exchange, one report to the tallies,
and the reports of an attempt and of a line fault. -/
theorem nodeTracker : Obligations.NodeTracker := by
  refine ⟨fun n limit tracked => ⟨fun o answers => judge_answers tracked limit answers, fun lost => ?_,
      fun kept reached => ?_, fun kept below => ?_, fun o keeps => judge_keeps n limit keeps⟩,
    fun n limit o idle => judge_idle idle o limit, ?_, ?_, ?_, ?_⟩
  · rw [judge_failed tracked, if_pos (.inl lost), lost]
  · rw [judge_failed tracked, if_pos (.inr reached)]
  · rw [judge_failed tracked, if_neg (not_or.mpr ⟨kept, Nat.not_le.mpr below⟩)]
  · intro s g x o i n m awake law ends n_eq m_eq
    obtain rfl : n = s.judged g x o := n_eq
    obtain rfl : m = s.nodeLeft g x o := m_eq
    obtain ⟨u, received, order, t, reports, run, settles, stays⟩ := exec_endsExchange awake ends
    have node (k : NodeIdx) := node_of_endsExchange law ends reports settles stays k
    have judged : u.judged g x o = s.judged g x o := judged_congr (reports.nodes x.node) reports.cfg
    refine ⟨t, run, ?_, fun k other => ?_, fun uncut goes => ?_, fun p => ?_⟩
    · rcases node x.node with same | cleared
      · rw [same, if_pos rfl]
      · rw [cleared, if_pos rfl]
    · rcases node k with same | cleared
      · rw [same, if_neg other]
      · rw [cleared, if_neg other]
    · have exact_node (k : NodeIdx) : t.node g k = if k = x.node then s.nodeLeft g x o else s.node g k :=
        node_rests_endsExchange law ends reports settles stays uncut goes k
      exact ⟨(exact_node x.node).trans (if_pos rfl), fun k other => (exact_node k).trans (if_neg other)⟩
    · rw [settles.told, nodes_hand, judged, reports.nodes, segMask_of_bare (reports.bare p), reports.told]
  · intro s u g evs node hit hits u_eq w0 w1 wrap0 wrap1
    have hits (c : Tally) : hit c = c.counts evs node := Bool.eq_iff_iff.mpr ((hits c).trans (counts_iff c evs node).symm)
    have tallied := tally_of_hit hits w0 w1 (by rw [wrap0, hits]; rfl) (by rw [wrap1, hits]; rfl)
    rw [← u_eq] at tallied
    rw [tallied]
    refine ⟨?_, ?_, ?_, ?_⟩ <;> rintro rfl rfl <;> rfl
  · intro s g x e frame i r last hit awake event last_iff hits
    obtain ⟨t, run, counts⟩ := counts_attempt awake event
    have ended : last = true ↔ r.outcome (s.retries g x) ≠ none := by
      rw [last_iff, Ne, outcome_eq_none_iff, State.retries, decide_eq_true_iff]
    have counts := counts.congr (later := hit) fun c => by
      rw [Bool.eq_iff_iff, hits, counts_iff, attemptReports_iff, ended, and_comm]
      exact and_congr Iff.rfl ⟨fun passes n same => by cases same; exact passes, fun passes => passes _ rfl⟩
    exact ⟨t, run, counts.counter false, counts.counter true, fun p => ⟨counts.wrap false p, counts.wrap true p⟩⟩
  · intro s g i hit awake event hits
    have counts := (counts_lineFault s g).congr (later := hit) fun c =>
      Bool.eq_iff_iff.mpr ((hits c).trans (faultReports_iff s g c).symm)
    exact ⟨_, exec_lineFault awake event, counts.counter false, counts.counter true⟩

end Sys2Proof
end

section
/-! PROOF. MODIFY_POINT with a move (R19, R20, R76): the point leaves, the Scheduler goes on without it, and the point joins
again, with the record's part before or after. -/

namespace Sys2Proof.Machine

section
variable {s t u v w : State} {g : Seg} {i : PointIdx} {p : Port} {ps : List Byte} {k : Fin 16} {e : Env} {stale : Bool}

theorem noteOf_modPort {f : PortUnit → PortUnit} (keeps : ∀ u, (f u).attention = u.attention) (s : State) (p q : Port)
    (j : PointIdx) : (s.modPort p f).noteOf q j = s.noteOf q j :=
  noteOf_congr (attention_modPort_kept keeps s p q) (by rw [point_modPort])

/-- An accepted frame raises no reason of a point (R163, R171). -/
theorem noteOf_acceptFrame (s : State) (p q : Port) (j : PointIdx) : (s.acceptFrame p).noteOf q j = s.noteOf q j := by
  have resumed : (s.resume p).noteOf q j = s.noteOf q j := by
    unfold State.resume
    split
    · exact (noteOf_raiseDev _ _ q j _).trans (noteOf_modPort (by exact fun _ => rfl) s p q j)
    · rfl
  exact (noteOf_modPort (by exact fun _ => rfl) _ p q j).trans resumed

/-! ### A point leaves its list (R76, R82) -/

/-- The leaving takes the cursor to END in a cycle, and no scan exchange is in flight. -/
def State.passes (s : State) (g : Seg) (i : PointIdx) : Prop :=
  (s.sched g).cursor = some i ∧ successor (s.sched g).list i = none ∧ (s.sched g).scan.inCycle = true ∧
    ∀ x, (s.link g).exchange = some x → x.kind = .demand

/-- The cycle completes, and the arbiter decides on one that starts. -/
def State.goesOn (s : State) (g : Seg) (e : Env) : State :=
  if ((s.complete g).sched g).scan.inCycle then (s.complete g).arbitrate g e else s.complete g

theorem scanExchange_eq_false_iff (l : Link) :
    l.scanExchange = false ↔ ∀ x, l.exchange = some x → x.kind = .demand := by
  unfold Link.scanExchange
  cases l.exchange with
  | none => exact ⟨fun _ _ => nofun, fun _ => rfl⟩
  | some x =>
    rw [decide_eq_false_iff_not]
    refine ⟨fun kind y same => ?_, fun demand scan => ?_⟩
    · cases same
      cases value : x.kind with
      | scan => exact absurd value kind
      | demand => rfl
    · rw [demand x rfl] at scan
      cases scan

theorem passes_congr (sched : t.sched g = s.sched g) (link : t.link g = s.link g) : t.passes g i ↔ s.passes g i := by
  rw [State.passes, State.passes, sched, link]

/-- What follows a leaving: the Scheduler goes on exactly where the cursor has passed the end. -/
theorem completeIfPassed_leaves {f : Scheduler → Scheduler} (cursor : (f (s.sched g)).cursor =
      ((s.sched g).leaveList i).cursor) (scan : (f (s.sched g)).scan = (s.sched g).scan) (e : Env) :
    (s.passes g i → (s.modSched g f).completeIfPassed g (s.sched g).cursor.isSome e = (s.modSched g f).goesOn g e) ∧
      (¬ s.passes g i → (s.modSched g f).completeIfPassed g (s.sched g).cursor.isSome e = s.modSched g f) := by
  have due : ((s.sched g).cursor.isSome && ((s.modSched g f).sched g).cursor.isNone &&
      ((s.modSched g f).sched g).scan.inCycle && !((s.modSched g f).link g).scanExchange) = true ↔ s.passes g i := by
    rw [sched_modSched_same, link_modSched, cursor, scan]
    simp only [Bool.and_eq_true, Bool.not_eq_true', scanExchange_eq_false_iff, State.passes]
    rw [and_assoc, and_assoc, ← and_assoc, ← and_assoc (b := successor _ _ = none)]
    refine and_congr ?_ Iff.rfl
    unfold Scheduler.leaveList
    dsimp only
    split
    · next here => simp [here]
    · next other =>
      refine iff_of_false (fun both => ?_) fun both => other both.1
      rw [Option.isNone_iff_eq_none.mp both.2] at both
      cases both.1
  exact ⟨fun passes => if_pos (due.mpr passes), fun stays => if_neg fun passes => stays (due.mp passes)⟩

theorem proceeds_goesOn (s : State) (g : Seg) (e : Env) : Proceeds g s (s.goesOn g e) := by
  have completed := (cycles_complete (g := g) s).proceeds
  unfold State.goesOn
  split
  · exact completed.trans (proceeds_arbitrate g _ e)
  · exact completed

/-- A point outside the list keeps its record but for a value that a grant takes. -/
theorem Proceeds.unlisted (h : Proceeds g u v) (out : i ∉ (u.sched g).list) :
    v.point i = { u.point i with slot := (v.point i).slot, inFlight := (v.point i).inFlight } := by
  have record := h.record i
  have phase := h.unvisited i out
  rw [← record, ← phase]

theorem not_mem_leaveList (c : Scheduler) (i : PointIdx) : i ∉ (c.leaveList i).list := fun listed =>
  ((mem_leaveList c i i).mp listed).2 rfl

/-! ### The record's part (R19, R20, R36) -/

theorem hasGroup_of_bare (ports : (t.port p).bare = (s.port p).bare) (r : GroupRight) (k : Fin 16) :
    t.hasGroup p r k = s.hasGroup p r k := by
  have rights : (t.port p).rights = (s.port p).rights := (congrArg PortUnit.rights ports :)
  rw [State.hasGroup, rights, State.hasGroup]

/-- The record that MODIFY_POINT makes. -/
def State.modified (s : State) (t : Point) (ps : List Byte) (k : Fin 16) (stale : Bool) : Point :=
  { t with
    divider := if selected ps 0 then arg ps 3 else t.divider
    phase := if selected ps 0 then 0 else t.phase
    staleLimit := if selected ps 1 then arg16 ps 4 else t.staleLimit
    group := k
    subs :=
      ⟨if selected ps 2 = true ∧ s.hasGroup .a .read k = false then 0 else t.subs.a,
        if selected ps 2 = true ∧ s.hasGroup .b .read k = false then 0 else t.subs.b⟩
    verify := if selected ps 3 then decide (arg ps 7 = 1) else t.verify
    quality := if stale then .stale else t.quality }

/-- A selected stale limit makes the GOOD point STALE. -/
def Point.staleBy (t : Point) (ps : List Byte) : Bool :=
  selected ps 1 && decide (arg16 ps 4 ≠ 0 ∧ t.quality = .good ∧ arg16 ps 4 ≤ t.age)

theorem staleBy_iff (t : Point) (ps : List Byte) : t.staleBy ps = true ↔
    selected ps 1 = true ∧ arg16 ps 4 ≠ 0 ∧ t.quality = .good ∧ arg16 ps 4 ≤ t.age := by
  rw [Point.staleBy, Bool.and_eq_true, decide_eq_true_iff]

theorem modifyRecord_if (s : State) (i : PointIdx) (ps : List Byte) : s.modifyRecord i ps =
    (if (s.point i).staleBy ps then s.setQuality i .stale else s).modifyFields i ps := by
  rw [modifyRecord_eq]
  exact congrArg (State.modifyFields · i ps) (if_congr (staleBy_iff _ ps).symm rfl rfl)

theorem point_modifyRecord (value : k.val = if selected ps 2 then arg ps 6 else (s.point i).group.val) :
    (s.modifyRecord i ps).point i = s.modified (s.point i) ps k ((s.point i).staleBy ps) := by
  rw [modifyRecord_if]
  cases (s.point i).staleBy ps with
  | true =>
    rw [if_pos rfl, modifyFields_eq (k := k) (by rw [group_setQuality]; exact value), point_modPoint_same,
      point_setQuality_same]
    simp only [hasGroup_setQuality]
    rfl
  | false =>
    rw [if_neg nofun, modifyFields_eq value, point_modPoint_same]
    rfl

theorem atPoint_modifyRecord (s : State) (i : PointIdx) (ps : List Byte) : AtPoint i s (s.modifyRecord i ps) := by
  rw [modifyRecord_if]
  exact (AtPoint.ite fun _ => atPoint_setQuality s i _).trans (atPoint_modPoint _ i)

theorem noteOf_modifyRecord (s : State) (i : PointIdx) (ps : List Byte) (q : Port) (j : PointIdx) :
    (s.modifyRecord i ps).noteOf q j =
      if j = i ∧ (s.point i).staleBy ps = true ∧ ((s.point i).subs.get q).getLsbD 2 = true then
        { s.noteOf q j with quality := true }
      else s.noteOf q j := by
  rw [modifyRecord_if]
  refine (noteOf_modPoint _ i rfl q j).trans ?_
  cases due : (s.point i).staleBy ps with
  | true =>
    have good : (s.point i).quality = .good := ((staleBy_iff _ ps).mp due).2.2.1
    rw [if_pos rfl, noteOf_setQuality, get_subscribers, good]
    exact if_congr (and_congr_right fun _ => and_congr_left fun _ => iff_of_true nofun rfl) rfl rfl
  | false => rw [if_neg nofun, if_neg fun all => nomatch all.2.1]

/-! ### The two orders (R152) -/

/-- From `s` to `t`, MODIFY_POINT has moved the point: it has left at `u`, behind which the Scheduler stands at `v`. -/
structure MovesPoint (g : Seg) (i : PointIdx) (ps : List Byte) (k : Fin 16) (before : Option PointIdx) (e : Env)
    (s u v t : State) : Prop where
  left : u.seg g = { s.seg g with sched := (s.sched g).leaveList i }
  trigs : u.trigs = s.trigs
  others : ∀ j, j ≠ i → u.point j = s.point j
  own : (u.point i).kind = (s.point i).kind ∧ (u.point i).node = (s.point i).node ∧
    (u.point i).object = (s.point i).object ∧ (u.point i).width = (s.point i).width ∧
    (u.point i).slot = (s.point i).slot ∧ (u.point i).inFlight = (s.point i).inFlight
  quiet : ∀ q, u.segNoteOf q g = s.segNoteOf q g
  rests : ¬ s.passes g i → v = u
  goes : s.passes g i → v = u.goesOn g e
  joined : t.seg g = { v.seg g with sched := (v.sched g).joinList i before }
  kept : ∀ j, j ≠ i → t.point j = v.point j
  told : ∀ q, t.segNoteOf q g = v.segNoteOf q g
  record : t.point i = { s.modified (s.point i) ps k ((s.point i).staleBy ps) with
    slot := (v.point i).slot, inFlight := (v.point i).inFlight }
  notes : ∀ q j, t.noteOf q j =
    if j = i ∧ (s.point i).staleBy ps = true ∧ ((s.point i).subs.get q).getLsbD 2 = true then
      { s.noteOf q j with quality := true }
    else s.noteOf q j
  elsewhere : ∀ h, h ≠ g → t.seg h = s.seg h ∧ ∀ q, t.segNoteOf q h = s.segNoteOf q h
  devices : ∀ q, t.devNoteOf q = s.devNoteOf q
  touches : Touches noSeg (onlySeg g) (onlySeg g) s t

/-- The point has left. -/
def State.leaves (s : State) (g : Seg) (i : PointIdx) : State := s.modSched g fun c => c.leaveList i

/-- The Scheduler stands behind the leaving. -/
def State.movedOn (s : State) (g : Seg) (i : PointIdx) (e : Env) : State :=
  (s.leaves g i).completeIfPassed g (s.sched g).cursor.isSome e

theorem movePoint_eq (s : State) (g : Seg) (i : PointIdx) (before : Option PointIdx) (e : Env) :
    s.movePoint g i before e = (s.movedOn g i e).modSched g fun c => c.joinList i before := rfl

theorem movedOn_cases (s : State) (g : Seg) (i : PointIdx) (e : Env) :
    (s.passes g i → s.movedOn g i e = (s.leaves g i).goesOn g e) ∧
      (¬ s.passes g i → s.movedOn g i e = s.leaves g i) :=
  completeIfPassed_leaves (f := fun c => c.leaveList i) rfl rfl e

theorem proceeds_movedOn (s : State) (g : Seg) (i : PointIdx) (e : Env) :
    Proceeds g (s.leaves g i) (s.movedOn g i e) := by
  obtain ⟨goes, rests⟩ := movedOn_cases s g i e
  by_cases passes : s.passes g i
  · rw [goes passes]
    exact proceeds_goesOn _ g e
  · rw [rests passes]
    exact .refl g _

theorem seg_leaves (s : State) (g : Seg) (i : PointIdx) :
    (s.leaves g i).seg g = { s.seg g with sched := (s.sched g).leaveList i } := seg_modSeg_same s g _

theorem seg_modSched_ne (s : State) {g h : Seg} (f : Scheduler → Scheduler) (other : h ≠ g) :
    (s.modSched g f).seg h = s.seg h := (seg_modSeg s g h _).trans (if_neg other)

theorem point_movedOn (s : State) (g : Seg) (i : PointIdx) (e : Env) : (s.movedOn g i e).point i =
    { s.point i with slot := ((s.movedOn g i e).point i).slot, inFlight := ((s.movedOn g i e).point i).inFlight } :=
  (proceeds_movedOn s g i e).unlisted (by
    rw [State.leaves, sched_modSched_same]
    exact not_mem_leaveList _ i)

/-- The record's part first. -/
theorem movesPoint_record_first (value : k.val = if selected ps 2 then arg ps 6 else (s.point i).group.val)
    (before : Option PointIdx) : MovesPoint g i ps k before e s ((s.modifyRecord i ps).leaves g i)
      ((s.modifyRecord i ps).movedOn g i e) ((s.modifyRecord i ps).movePoint g i before e) := by
  have own := atPoint_modifyRecord s i ps
  have record := point_modifyRecord value
  have changed : Touches noSeg (onlySeg g) (onlySeg g) s (s.modifyRecord i ps) := touches_modifyRecord s i ps
  have moved := proceeds_movedOn (s.modifyRecord i ps) g i e
  have same : (s.modifyRecord i ps).passes g i ↔ s.passes g i := passes_congr (own.sched g) (own.link g)
  obtain ⟨goes, rests⟩ := movedOn_cases (s.modifyRecord i ps) g i e
  have at_i := point_movedOn (s.modifyRecord i ps) g i e
  rw [movePoint_eq]
  generalize (s.modifyRecord i ps).movedOn g i e = v at moved goes rests at_i
  refine
    { left := ?_, trigs := changed.trigs, others := own.others, own := ?_, quiet := fun q => own.segNotes q g
      rests := fun stays => rests fun passes => stays (same.mp passes), goes := fun passes => goes (same.mpr passes)
      joined := seg_modSeg_same v g _, kept := fun _ _ => rfl, told := fun _ => rfl, record := ?_, notes := fun q j => ?_
      elsewhere := fun h other => ⟨?_, fun q => ?_⟩, devices := fun q => (moved.devNotes q).trans (own.devNotes q)
      touches := ?_ }
  · rw [seg_leaves, own.sched, own.seg]
  · rw [State.leaves, point_modSched, record]
    exact ⟨rfl, rfl, rfl, rfl, rfl, rfl⟩
  · rw [point_modSched]
    rw [record] at at_i
    exact at_i
  · exact (moved.notes q j).trans (noteOf_modifyRecord s i ps q j)
  · rw [seg_modSched_ne _ _ other, moved.others h other, State.leaves, seg_modSched_ne _ _ other, own.seg]
  · exact (moved.segNotes q h other).trans (own.segNotes q h)
  · exact (changed.trans ((touches_modSched (onlySeg_self g) _ _).trans moved.touches)).trans
      (touches_modSched (onlySeg_self g) v _)

/-- The Scheduler's part first. -/
theorem movesPoint_sched_first (value : k.val = if selected ps 2 then arg ps 6 else (s.point i).group.val)
    (before : Option PointIdx) : MovesPoint g i ps k before e s (s.leaves g i) (s.movedOn g i e)
      ((s.movePoint g i before e).modifyRecord i ps) := by
  have moved := proceeds_movedOn s g i e
  obtain ⟨goes, rests⟩ := movedOn_cases s g i e
  have at_i := point_movedOn s g i e
  rw [movePoint_eq]
  generalize s.movedOn g i e = v at moved goes rests at_i
  have own := atPoint_modifyRecord (v.modSched g fun c => c.joinList i before) i ps
  have at_i : (v.modSched g fun c => c.joinList i before).point i = _ := at_i
  have changed : Touches noSeg (onlySeg g) (onlySeg g) (v.modSched g fun c => c.joinList i before) _ :=
    touches_modifyRecord _ i ps
  refine
    { left := seg_leaves s g i, trigs := rfl, others := fun _ _ => rfl, own := ⟨rfl, rfl, rfl, rfl, rfl, rfl⟩
      quiet := fun _ => rfl, rests := rests, goes := goes
      joined := (own.seg g).trans (seg_modSeg_same v g _), kept := own.others, told := fun q => own.segNotes q g
      record := ?_, notes := fun q j => ?_, elsewhere := fun h other => ⟨?_, fun q => ?_⟩
      devices := fun q => (own.devNotes q).trans (moved.devNotes q), touches := ?_ }
  · rw [point_modifyRecord (k := k) (by rw [at_i]; exact value), at_i]
    have rights (q : Port) : (v.modSched g fun c => c.joinList i before).hasGroup q .read k = s.hasGroup q .read k :=
      hasGroup_of_bare (moved.touches.ports q) .read k
    rw [State.modified, rights, rights]
    rfl
  · rw [noteOf_modifyRecord, at_i]
    refine Eq.trans (if_congr Iff.rfl ?_ ?_) rfl
    · exact congrArg (fun n : PointNote => { n with quality := true }) (moved.notes q j)
    · exact moved.notes q j
  · rw [own.seg, seg_modSched_ne _ _ other, moved.others h other, State.leaves, seg_modSched_ne _ _ other]
  · exact (own.segNotes q h).trans (moved.segNotes q h other)
  · exact ((touches_modSched (onlySeg_self g) s _).trans moved.touches).trans
      ((touches_modSched (onlySeg_self g) v _).trans changed)

/-- In either order of its parts, MODIFY_POINT with a move does both. -/
theorem movesPoint_takeParts (moves : selected ps 4 = true)
    (value : k.val = if selected ps 2 then arg ps 6 else (s.point i).group.val) :
    ∃ u v, MovesPoint g i ps k (if modifyBefore ps then some (argHandle ps 9).idx else none) e s u v
      (s.takeParts (State.modifyPart g i ps e) (arrange e.order [.points g, .sched g])) := by
  have joins (t : State) : State.modifyPart g i ps e (.sched g) t =
      t.movePoint g i (if modifyBefore ps then some (argHandle ps 9).idx else none) e := if_pos moves
  rcases arrange_pair e.order (a := .points g) (b := .sched g) nofun with first | last
  · rw [first]
    have parts : s.takeParts (State.modifyPart g i ps e) [.points g, .sched g] =
        (s.modifyRecord i ps).movePoint g i (if modifyBefore ps then some (argHandle ps 9).idx else none) e := joins _
    rw [parts]
    exact ⟨_, _, movesPoint_record_first value _⟩
  · rw [last]
    have parts : s.takeParts (State.modifyPart g i ps e) [.sched g, .points g] =
        (s.movePoint g i (if modifyBefore ps then some (argHandle ps 9).idx else none) e).modifyRecord i ps :=
      congrArg (State.modifyRecord · i ps) (joins s)
    rw [parts]
    exact ⟨_, _, movesPoint_sched_first value _⟩

section
variable {before : Option PointIdx} (h : MovesPoint g i ps k before e s u v t)
include h

theorem MovesPoint.proceeds : Proceeds g u v := by
  by_cases passes : s.passes g i
  · rw [h.goes passes]
    exact proceeds_goesOn u g e
  · rw [h.rests passes]
    exact .refl g u

theorem MovesPoint.sched : t.sched g = (v.sched g).joinList i before := congrArg Segment.sched h.joined

theorem MovesPoint.list : (t.sched g).list = (((s.sched g).leaveList i).joinList i before).list := by
  have left : (v.sched g).list = ((s.sched g).leaveList i).list :=
    h.proceeds.sched.list.trans (congrArg (fun w : Segment => w.sched.list) h.left)
  rw [h.sched]
  unfold Scheduler.joinList
  rw [left]

theorem MovesPoint.cursor (stays : ¬ s.passes g i) : (t.sched g).cursor = ((s.sched g).leaveList i).cursor := by
  rw [h.sched, h.rests stays]
  exact congrArg (fun w : Segment => w.sched.cursor) h.left

end

end

end Sys2Proof.Machine

namespace Sys2Proof
open Machine

/-- Settles O19: the two facts about lists; the parts in either order, with the record's part outside the list. -/
theorem modifyPointMoves : Obligations.ModifyPointMoves := by
  refine ⟨fun i b l m new => insertBefore_append i m new, fun i l m new => successor_append m new, ?_⟩
  intro s p tag ps e i b g k passed stale hears length valid moves handle point named home manages value managesNew kind
    before passed_iff stale_eq
  subst named stale_eq
  have takes : Takes s p ps := ⟨hears, by rw [length]; decide⟩
  have placed : modifyBefore ps = decide (arg ps 8 = 1) := by rw [modifyBefore, moves, Bool.true_and]
  have accepts : (s.acceptFrame p).modifyResult p ps = .ok := by
    rw [modifyResult_acceptFrame]
    rw [home] at before
    rw [point] at manages value kind before
    exact modifyResult_ok handle manages value managesNew kind fun chosen => before (of_decide_eq_true (placed ▸ chosen))
  obtain ⟨u, v, h⟩ := movesPoint_takeParts (s := s.acceptFrame p) (g := g) (i := i) (ps := ps) (k := k) (e := e) moves
    (by rw [point_acceptFrame]; exact value)
  generalize parts : (s.acceptFrame p).takeParts _ _ = t at h
  have passes : passed ↔ (s.acceptFrame p).passes g i := by
    rw [passed_iff, passes_congr (sched_acceptFrame s p g) (link_acceptFrame s p g)]
    rfl
  have list := h.list
  have cursor := h.cursor
  have left := h.left
  have record := h.record
  rw [placed, joinList_if, sched_acceptFrame] at list
  rw [← passes, sched_acceptFrame] at cursor
  rw [seg_acceptFrame, sched_acceptFrame] at left
  rw [State.modified, hasGroup_acceptFrame, hasGroup_acceptFrame, point_acceptFrame] at record
  have note (q : Port) (j : PointIdx) : (s.acceptFrame p).noteOf q j = s.noteOf q j := noteOf_acceptFrame s p q j
  obtain ⟨kind_kept, node_kept, object_kept, width_kept, slot_kept, flight_kept⟩ := h.own
  refine ⟨t, command_answers takes ((modifyPoint_accepts length valid accepts).trans ?_), ?_, fun away => ?_,
    fun j here behind => ?_, ⟨u, v, left, ?_, fun j other => ?_, ?_, ?_, ?_, ?_, ?_, ?_, fun q => ?_,
      fun stays => h.rests (passes.not.mp stays), fun due => h.goes (passes.mp due), ?_, h.kept, h.told, record⟩,
    fun q j => ?_, fun x other => ⟨?_, fun q => ?_⟩, fun q => ⟨h.devices q, h.touches.ports q⟩, ?_, ?_, ?_⟩
  · rw [point_acceptFrame, ← point, ← home, parts]
    rfl
  · rw [list]
    exact if_congr decide_eq_true_iff rfl rfl
  · rw [cursor fun due => away (passed_iff.mp due).1]
    exact if_neg away
  · rw [cursor fun due => by rw [(passed_iff.mp due).2.1] at behind; cases behind]
    exact (if_pos here).trans behind
  · rw [h.trigs, trigs_acceptFrame]
  · rw [h.others j other, point_acceptFrame]
  · rw [kind_kept, point_acceptFrame]
  · rw [node_kept, point_acceptFrame]
  · rw [object_kept, point_acceptFrame]
  · rw [width_kept, point_acceptFrame]
  · rw [slot_kept, point_acceptFrame]
  · rw [flight_kept, point_acceptFrame]
  · rw [h.quiet, segNoteOf_acceptFrame]
  · rw [h.joined, h.sched]
    rfl
  · rw [h.notes, note, point_acceptFrame]
    rfl
  · rw [(h.elsewhere x other).1, seg_acceptFrame]
  · rw [(h.elsewhere x other).2, segNoteOf_acceptFrame]
  · rw [h.touches.trigs, trigs_acceptFrame]
  · rw [h.touches.supply, supply_acceptFrame]
  · rw [h.touches.temperature, temperature_acceptFrame]

end Sys2Proof
end

section
/-! PROOF. RETIRE_POINT (R13, R14, R16, R17, R76, R120): the point leaves its segment's Scheduler, which goes on without it,
and its record is withdrawn before or after. -/

namespace Sys2Proof.Machine

section
variable {s t u v w : State} {g : Seg} {i : PointIdx} {e : Env} {serving : Bool}

/-! ### The record withdrawn (R13 to R17) -/

/-- The pending value is CANCELLED. -/
def State.cancelled (s : State) (i : PointIdx) : State :=
  match (s.point i).slot with
  | some f => s.raisePoint i (.write .cancelled f.writer) (writerPorts f.writer)
  | none => s

theorem retireRecord_if (s : State) (i : PointIdx) (serving : Bool) : s.retireRecord i serving =
    if serving then (s.cancelled i).modPoint i Point.retiring
    else ((s.cancelled i).modPoint i Point.retiring).closePoint i := rfl

/-- What the cancelled value leaves of a port's notes of the point. -/
def Point.cancelNote (t : Point) (q : Port) (n : PointNote) : PointNote :=
  match t.slot with
  | some f => if f.writer = .port q then n.add (.write .cancelled f.writer) else n
  | none => n

theorem atPoint_cancelled (s : State) (i : PointIdx) : AtPoint i s (s.cancelled i) := by
  unfold State.cancelled
  split
  · exact atPoint_raisePoint s i _ _
  · exact .refl i s

theorem point_cancelled (s : State) (i j : PointIdx) : (s.cancelled i).point j = s.point j := by
  unfold State.cancelled
  split
  · exact (raisePoint_noticesOnly s i _ _).point j
  · rfl

theorem noteOf_cancelled (s : State) (i : PointIdx) (q : Port) :
    (s.cancelled i).noteOf q i = (s.point i).cancelNote q (s.noteOf q i) := by
  unfold State.cancelled Point.cancelNote
  cases (s.point i).slot with
  | none => rfl
  | some f =>
    refine (noteOf_raisePoint s i i _ _ q).trans (if_congr ?_ rfl rfl)
    rw [get_writerPorts]
    exact and_iff_right rfl

theorem get_slotPorts (f : Option Slot) (q : Port) :
    (slotPorts f).get q = true ↔ ∃ v, f = some v ∧ v.writer = .port q := by
  cases f with
  | none =>
    refine iff_of_false ?_ fun ⟨_, same, _⟩ => nomatch same
    cases q <;> exact Bool.false_ne_true
  | some v =>
    refine (get_writerPorts v.writer q).trans ⟨fun wrote => ⟨v, rfl, wrote⟩, ?_⟩
    rintro ⟨_, same, wrote⟩
    cases same
    exact wrote

/-- The port is told of the closure. -/
def Point.tells (t : Point) (q : Port) : Bool := t.retiring.toldRetired.get q

theorem get_retireSet_retiring (t : Point) (q : Port) : t.retiring.retireSet.get q = true ↔
    ∃ f, (t.slot = some f ∨ t.inFlight = some f) ∧ f.writer = .port q := by
  have union : t.retiring.retireSet.get q = ((slotPorts t.slot).get q || (slotPorts t.inFlight).get q) :=
    get_portUnion _ _ q
  rw [union, Bool.or_eq_true, get_slotPorts, get_slotPorts]
  simp only [or_and_right, exists_or]

theorem tells_iff (t : Point) (q : Port) : t.tells q = true ↔ t.subs.get q ≠ 0 ∨ t.demanders.get q = true ∨
    ∃ f, (t.slot = some f ∨ t.inFlight = some f) ∧ f.writer = .port q := by
  rw [Point.tells, get_toldRetired, get_retireSet_retiring]
  rfl

theorem named_cancelled (s : State) (i : PointIdx) (q : Port) :
    (s.cancelled i).named q i = (s.named q i || (slotPorts (s.point i).slot).get q) := by
  unfold State.cancelled slotPorts
  cases (s.point i).slot with
  | none =>
    cases q <;> exact (Bool.or_false _).symm
  | some f => exact (named_raisePoint s i i _ _ q).trans (by simp)

/-- From `s` to `t`, the record of the point is withdrawn. -/
structure Retired (i : PointIdx) (serving : Bool) (s t : State) : Prop where
  served : serving = true → t.point i = (s.point i).retiring
  freed : serving = false → (∀ q, ¬ (s.point i).tells q = true ∧ s.named q i = false) →
    t.point i = Point.cleared ((s.point i).generation + 1)
  closed : serving = false → (∃ q, (s.point i).tells q = true ∨ s.named q i = true) →
    t.point i = (s.point i).retiring.close
  notes : serving = true ∨ (∃ q, (s.point i).tells q = true ∨ s.named q i = true) → ∀ q, t.noteOf q i =
    if serving = false ∧ (s.point i).tells q = true then ((s.point i).cancelNote q (s.noteOf q i)).add .retired
    else (s.point i).cancelNote q (s.noteOf q i)

theorem retired_retireRecord (s : State) (i : PointIdx) (serving : Bool) :
    Retired i serving s (s.retireRecord i serving) := by
  rw [retireRecord_if]
  have point : ((s.cancelled i).modPoint i Point.retiring).point i = (s.point i).retiring := by
    rw [point_modPoint_same, point_cancelled]
  have note (q : Port) : ((s.cancelled i).modPoint i Point.retiring).noteOf q i =
      (s.point i).cancelNote q (s.noteOf q i) := (noteOf_modPoint _ i rfl q i).trans (noteOf_cancelled s i q)
  have named (q : Port) : ((s.cancelled i).modPoint i Point.retiring).named q i =
      (s.named q i || (slotPorts (s.point i).slot).get q) :=
    (named_modPoint _ i rfl q i).trans (named_cancelled s i q)
  have known : (∃ q, (s.point i).tells q = true ∨ s.named q i = true) →
      ∃ q, (s.point i).retiring.toldRetired.get q = true ∨
        ((s.cancelled i).modPoint i Point.retiring).named q i = true := by
    rintro ⟨q, told | listed⟩
    · exact ⟨q, .inl told⟩
    · exact ⟨q, .inr (by rw [named, listed, Bool.true_or])⟩
  cases serving with
  | true =>
    refine ⟨fun _ => point, nofun, nofun, fun _ q => ?_⟩
    refine (note q).trans (if_neg ?_).symm
    exact fun both => nomatch both.1
  | false =>
    rw [if_neg Bool.false_ne_true]
    refine ⟨nofun, fun _ unknown => ?_, fun _ told => ?_, fun told q => ?_⟩
    · rw [closePoint_frees fun q => ?_, point]
      · rfl
      · obtain ⟨silent, unlisted⟩ := unknown q
        rw [point]
        refine ⟨silent, ?_⟩
        have unwritten : (slotPorts (s.point i).slot).get q = false := Bool.eq_false_iff.mpr fun wrote => by
          obtain ⟨f, pending, writer⟩ := (get_slotPorts _ q).mp wrote
          exact silent ((tells_iff _ q).mpr (.inr (.inr ⟨f, .inl pending, writer⟩)))
        rw [named, unlisted, unwritten]
        rfl
    · rw [(closePoint_stays (by rw [point]; exact known told)).1, point]
    · have stays := closePoint_stays (s := (s.cancelled i).modPoint i Point.retiring) (k := i)
        (by rw [point]; exact known (told.resolve_left nofun))
      rw [stays.2, point, note]
      exact if_congr (and_iff_right rfl).symm rfl rfl

theorem Retired.congr_left (h : Retired i serving s t) (point : s.point i = u.point i)
    (notes : ∀ q, s.noteOf q i = u.noteOf q i) (named : ∀ q, s.named q i = u.named q i) : Retired i serving u t := by
  obtain ⟨served, freed, closed, told⟩ := h
  simp only [point, notes, named] at served freed closed told
  exact ⟨served, freed, closed, told⟩

theorem Retired.congr_right (h : Retired i serving s t) (point : u.point i = t.point i)
    (notes : ∀ q, u.noteOf q i = t.noteOf q i) : Retired i serving s u :=
  ⟨fun k => point.trans (h.served k), fun k l => point.trans (h.freed k l), fun k l => point.trans (h.closed k l),
    fun k q => (notes q).trans (h.notes k q)⟩

/-! ### The rest of its segment -/

/-- A node record after the withdrawal of one of its points (R120). -/
def NodeRec.withdrawn (serving : Bool) (n : NodeRec) : NodeRec := if serving then n else n.leave

theorem withdrawn_probe {a b : NodeRec} (same : { a with probe := b.probe } = b) (serving : Bool) :
    { a.withdrawn serving with probe := (b.withdrawn serving).probe } = b.withdrawn serving := by
  unfold NodeRec.withdrawn
  cases serving with
  | true => exact same
  | false =>
    have refs : a.refs = b.refs := by rw [← same]
    rw [if_neg nofun, if_neg nofun]
    unfold NodeRec.leave
    by_cases few : b.refs ≤ 1
    · rw [if_pos few, refs, if_pos few]
    · rw [if_neg few, refs, if_neg few, ← same]

theorem node_retireRecord (s : State) (i : PointIdx) (serving : Bool) (k : NodeIdx) :
    (s.retireRecord i serving).node (s.point i).seg k =
      if k = (s.point i).node then (s.node (s.point i).seg k).withdrawn serving else s.node (s.point i).seg k := by
  have w := withdraws_retireRecord s i serving
  cases serving with
  | true =>
    obtain ⟨-, -, -, segs⟩ := w.served rfl
    rw [State.node, State.seg, segs, NodeRec.withdrawn, if_pos rfl, ite_self]
    rfl
  | false =>
    obtain ⟨-, segs⟩ := w.closed rfl
    have read : (s.retireRecord i false).node (s.point i).seg k =
        (s.modNode (s.point i).seg (s.point i).node NodeRec.leave).node (s.point i).seg k := by
      rw [State.node, State.seg, segs]
      rfl
    rw [read, node_modNode]
    exact if_congr (and_iff_right rfl) rfl rfl

theorem segNoteOf_retireRecord (s : State) (i : PointIdx) (serving : Bool) (q : Port) (h : Seg) :
    (s.retireRecord i serving).segNoteOf q h = s.segNoteOf q h := by
  have retiring : AtPoint i s ((s.cancelled i).modPoint i Point.retiring) :=
    (atPoint_cancelled s i).trans (atPoint_modPoint _ i)
  rw [retireRecord_if]
  split
  · exact retiring.segNotes q h
  · exact ((closesPoint _ i).segNotes q h).trans (retiring.segNotes q h)

/-- From `s` to `t`, the point is retired: it has left its segment's Scheduler at `u`, behind which that stands at `v`. -/
structure RetiresPoint (g : Seg) (i : PointIdx) (serving : Bool) (e : Env) (s u v t : State) : Prop where
  left : u.sched g = (s.sched g).retired i
  link : u.link g = s.link g
  trigs : u.trigs = s.trigs
  others : ∀ j, j ≠ i → u.point j = s.point j
  nodes : ∀ k, k ≠ (s.point i).node → u.node g k = s.node g k
  quiet : ∀ q, u.segNoteOf q g = s.segNoteOf q g
  rests : ¬ s.passes g i → v = u
  goes : s.passes g i → v = u.goesOn g e
  sched : t.sched g = v.sched g
  linked : t.link g = v.link g
  kept : ∀ j, j ≠ i → t.point j = v.point j
  told : ∀ q, t.segNoteOf q g = v.segNoteOf q g
  node : ∀ k, { t.node g k with probe := (if k = (s.point i).node then (s.node g k).withdrawn serving
    else s.node g k).probe } = if k = (s.point i).node then (s.node g k).withdrawn serving else s.node g k
  record : Retired i serving s t

/-- The point has left its list and its demand entry the queue. -/
def State.retires (s : State) (g : Seg) (i : PointIdx) : State := s.modSched g (Scheduler.retired i)

theorem retireSched_cases (s : State) (g : Seg) (i : PointIdx) (e : Env) :
    (s.passes g i → s.retireSched g i e = (s.retires g i).goesOn g e) ∧
      (¬ s.passes g i → s.retireSched g i e = s.retires g i) :=
  completeIfPassed_leaves (f := Scheduler.retired i) rfl rfl e

theorem proceeds_retireSched (s : State) (g : Seg) (i : PointIdx) (e : Env) :
    Proceeds g (s.retires g i) (s.retireSched g i e) := by
  obtain ⟨goes, rests⟩ := retireSched_cases s g i e
  by_cases passes : s.passes g i
  · rw [goes passes]
    exact proceeds_goesOn _ g e
  · rw [rests passes]
    exact .refl g _

/-- The point that has left keeps its record. -/
theorem point_retireSched (s : State) (g : Seg) (i : PointIdx) (e : Env) : (s.retireSched g i e).point i = s.point i := by
  refine (proceeds_retireSched s g i e).unnamed i ?_ ?_
  · rw [State.retires, sched_modSched_same]
    exact not_mem_leaveList _ i
  · rw [State.retires, sched_modSched_same]
    simp [Scheduler.retired]

theorem node_retires (s : State) (g : Seg) (i : PointIdx) (k : NodeIdx) : (s.retires g i).node g k = s.node g k :=
  node_modSched s g _ g k

theorem retiresPoint_sched_first (home : g = (s.point i).seg) (serving : Bool) (e : Env) :
    RetiresPoint g i serving e s (s.retires g i) (s.retireSched g i e)
      ((s.retireSched g i e).retireRecord i serving) := by
  obtain ⟨goes, rests⟩ := retireSched_cases s g i e
  have moved := proceeds_retireSched s g i e
  have at_i := point_retireSched s g i e
  generalize s.retireSched g i e = v at goes rests moved at_i
  have w := withdraws_retireRecord v i serving
  have nodes := node_retireRecord v i serving
  rw [at_i, ← home] at nodes
  refine
    { left := sched_modSched_same s g _, link := link_modSched s g _ g, trigs := rfl, others := fun _ _ => rfl
      nodes := fun k _ => node_retires s g i k, quiet := fun _ => rfl, rests := rests, goes := goes, sched := w.sched g
      linked := w.link g, kept := w.others, told := fun q => segNoteOf_retireRecord v i serving q g
      node := fun k => ?_, record := ?_ }
  · have same := moved.nodes k
    rw [node_retires] at same
    rw [nodes]
    split
    · exact withdrawn_probe same serving
    · exact same
  · exact (retired_retireRecord v i serving).congr_left at_i (fun q => moved.notes q i) fun q => moved.named q i

theorem retiresPoint_record_first (home : g = (s.point i).seg) (serving : Bool) (e : Env) :
    RetiresPoint g i serving e s ((s.retireRecord i serving).retires g i)
      ((s.retireRecord i serving).retireSched g i e) ((s.retireRecord i serving).retireSched g i e) := by
  have w := withdraws_retireRecord s i serving
  have nodes := node_retireRecord s i serving
  rw [← home] at nodes
  have changed : Touches noSeg noSeg noSeg s (s.retireRecord i serving) := touches_retireRecord s i serving
  have same : (s.retireRecord i serving).passes g i ↔ s.passes g i := passes_congr (w.sched g) (w.link g)
  obtain ⟨goes, rests⟩ := retireSched_cases (s.retireRecord i serving) g i e
  have moved := proceeds_retireSched (s.retireRecord i serving) g i e
  have at_i := point_retireSched (s.retireRecord i serving) g i e
  generalize (s.retireRecord i serving).retireSched g i e = v at goes rests moved at_i
  refine
    { left := (sched_modSched_same _ g _).trans (by rw [w.sched]), link := (link_modSched _ g _ g).trans (w.link g)
      trigs := changed.trigs, others := w.others, nodes := fun k other => ?_
      quiet := fun q => segNoteOf_retireRecord s i serving q g, rests := fun stays => rests fun k => stays (same.mp k)
      goes := fun k => goes (same.mpr k), sched := rfl, linked := rfl, kept := fun _ _ => rfl, told := fun _ => rfl
      node := fun k => ?_, record := ?_ }
  · rw [node_retires, nodes, if_neg other]
  · have same := moved.nodes k
    rw [node_retires, nodes] at same
    exact same
  · exact (retired_retireRecord s i serving).congr_right at_i fun q => moved.notes q i

/-- In either order of its parts, RETIRE_POINT does both. -/
theorem retiresPoint_retire (home : g = (s.point i).seg) (e : Env) :
    ∃ u v, RetiresPoint g i ((s.link g).serves i) e s u v (s.retire i e) := by
  unfold State.retire
  dsimp only
  rw [← home]
  rcases arrange_pair e.order (a := .sched g) (b := .points g) nofun with first | last
  · rw [first]
    exact ⟨_, _, retiresPoint_sched_first home _ e⟩
  · rw [last]
    exact ⟨_, _, retiresPoint_record_first home _ e⟩

end

end Sys2Proof.Machine
end

section
/-! PROOF. RETIRE_POINT: the obligation, from the layers before. -/

namespace Sys2Proof.Machine

section
variable {s t u v : State} {g : Seg} {i : PointIdx} {e : Env} {serving : Bool}

/-- A RETIRE_POINT that no check refuses. -/
theorem retirePoint_accepts {p : Port} {ps : List Byte} (length : ps.length = 2)
    (handle : s.handleOk (argHandle ps 0) = true)
    (manages : s.hasGroup p .manage (s.point (argHandle ps 0).idx).group = true) (e : Env) :
    retirePoint p ps e s = accept (s.retire (argHandle ps 0).idx e)
      [byteOf ((s.retire (argHandle ps 0).idx e).point (argHandle ps 0).idx).life.retireCode] := by
  have passes := onPoint_passes (p := p) (r := some .manage) (body := fun i =>
    accept (s.retire i e) [byteOf ((s.retire i e).point i).life.retireCode]) handle
    (by simp [State.lacksGroup, manages])
  rwa [length] at passes

theorem named_iff_mem (s : State) (p : Port) (i : PointIdx) :
    s.named p i = true ↔ ∃ n, Entry.point i (s.point i).generation n ∈ (s.port p).attention := by
  rw [State.named, List.any_eq_true]
  constructor
  · rintro ⟨x, member, same⟩
    obtain ⟨n, rfl⟩ := isPoint_eq same
    exact ⟨n, member⟩
  · rintro ⟨n, member⟩
    exact ⟨_, member, by simp [Entry.isPoint]⟩

theorem filter_ne_append {i : PointIdx} {l r : List PointIdx} (before : i ∉ l) (behind : i ∉ r) :
    (l ++ i :: r).filter (fun x => decide (x ≠ i)) = l ++ r := by
  have keeps {m : List PointIdx} (away : i ∉ m) : m.filter (fun x => decide (x ≠ i)) = m :=
    List.filter_eq_self.mpr fun x member => decide_eq_true fun same => away (same ▸ member)
  rw [List.filter_append, List.filter_cons_of_neg (by simp), keeps before, keeps behind]

/-- The Scheduler without the point, by the point's place in the list. -/
theorem retired_append {c : Scheduler} {l r : List PointIdx} (before : i ∉ l) (behind : i ∉ r)
    (list : c.list = l ++ i :: r) : c.retired i =
      { c with
        list := l ++ r
        cursor := if c.cursor = some i then r.head? else c.cursor
        queue := c.queue.filter fun d => decide (d.point ≠ i) } := by
  unfold Scheduler.retired Scheduler.leaveList
  rw [list, filter_ne_append before behind, successor_append r before]

/-- Nothing follows a point exactly where it is the last of its list. -/
theorem last_iff {l r : List PointIdx} (before : i ∉ l) (behind : i ∉ r) :
    (l ++ i :: r).getLast? = some i ↔ successor (l ++ i :: r) i = none := by
  rw [successor_append r before, List.getLast?_append_of_ne_nil _ (by simp), List.head?_eq_none_iff]
  cases r with
  | nil => simp
  | cons x r =>
    refine iff_of_false (fun last => behind ?_) nofun
    rw [List.getLast?_cons_cons] at last
    exact List.mem_of_getLast? last

section
variable (h : RetiresPoint g i serving e s u v t)
include h

theorem RetiresPoint.proceeds : Proceeds g u v := by
  by_cases passes : s.passes g i
  · rw [h.goes passes]
    exact proceeds_goesOn u g e
  · rw [h.rests passes]
    exact .refl g u

theorem RetiresPoint.unlisted : i ∉ (t.sched g).list := by
  rw [h.sched, h.proceeds.sched.list, h.left]
  exact not_mem_leaveList _ i

theorem RetiresPoint.unqueued : ∀ d ∈ (t.sched g).queue, d.point ≠ i := by
  rintro d queued rfl
  have listed : d.point ∈ (t.sched g).queue.map DemandEntry.point := List.mem_map_of_mem queued
  rw [h.sched, h.proceeds.queued, h.left] at listed
  obtain ⟨d', queued', same⟩ := List.mem_map.mp listed
  exact of_decide_eq_true (List.mem_filter.mp queued').2 same

end

/-- The life of a retired point, by which the reply's code is formed. -/
theorem Retired.life (h : Retired i serving s t) :
    (serving = true → (t.point i).life = .retiring) ∧
      (serving = false → (∃ q, (s.point i).tells q = true ∨ s.named q i = true) → (t.point i).life = .closed) ∧
      (serving = false → (∀ q, ¬ (s.point i).tells q = true ∧ s.named q i = false) → (t.point i).life = .free) :=
  ⟨fun k => by rw [h.served k]; rfl, fun k known => by rw [h.closed k known]; rfl,
    fun k unknown => by rw [h.freed k unknown]; rfl⟩

theorem known_or_unknown (s : State) (i : PointIdx) : (∃ q, (s.point i).tells q = true ∨ s.named q i = true) ∨
    ∀ q, ¬ (s.point i).tells q = true ∧ s.named q i = false := by
  by_cases known : ∃ q, (s.point i).tells q = true ∨ s.named q i = true
  · exact .inl known
  · refine .inr fun q => ?_
    obtain ⟨silent, unlisted⟩ := not_or.mp fun k => known ⟨q, k⟩
    exact ⟨silent, Bool.eq_false_iff.mpr unlisted⟩

theorem cancelNote_write (t : Point) (q : Port) (n : PointNote) : (t.cancelNote q n).write =
    match t.slot with
    | some f => if f.writer = .port q then some (.cancelled, f.writer) else n.write
    | none => n.write := by
  unfold Point.cancelNote
  cases t.slot with
  | none => rfl
  | some f => exact apply_ite PointNote.write _ _ _

theorem cancelNote_kept (t : Point) (q : Port) (n : PointNote) : (t.cancelNote q n).retired = n.retired ∧
    (t.cancelNote q n).demand = n.demand ∧ (t.cancelNote q n).quality = n.quality ∧
    (t.cancelNote q n).changes = n.changes ∧ (t.cancelNote q n).limits = n.limits := by
  unfold Point.cancelNote
  cases t.slot with
  | none => exact ⟨rfl, rfl, rfl, rfl, rfl⟩
  | some f =>
    dsimp only
    split
    · exact ⟨rfl, rfl, rfl, rfl, rfl⟩
    · exact ⟨rfl, rfl, rfl, rfl, rfl⟩

end

end Sys2Proof.Machine

namespace Sys2Proof
open Machine

/-- Settles O17: the Scheduler's part and the record's, in either order; the closure follows what the record tells. -/
theorem retirePoint : Obligations.RetirePoint := by
  refine ⟨named_iff_mem, ?_⟩
  intro s p tag ps e i g n m wrote told serving passed hears length handle point home manages serving_iff wrote_iff
    told_iff n_eq m_eq passed_iff
  have takes : Takes s p ps := ⟨hears, by rw [length]; decide⟩
  obtain ⟨u, v, h⟩ := retiresPoint_retire (s := s.acceptFrame p) (i := i) (g := g)
    (by rw [point_acceptFrame]; exact home) e
  have serves : ((s.acceptFrame p).link g).serves i = true ↔ serving := by
    rw [serving_iff, link_acceptFrame, serves_iff, exists_comm]
    exact exists_congr fun x => by rw [exchange_eq_some_iff, exists_and_right]
  generalize ((s.acceptFrame p).link g).serves i = served at h serves
  generalize run : (s.acceptFrame p).retire i e = t at h
  have tells (q : Port) : (s.point i).tells q = true ↔ told q := by
    rw [tells_iff, told_iff, wrote_iff]
  have record : Retired i served s t := h.record.congr_left (point_acceptFrame s p i)
    (fun q => noteOf_acceptFrame s p q i) fun q => named_acceptFrame s p q i
  have life := record.life
  have nodes := h.node
  rw [point_acceptFrame] at nodes
  simp only [node_acceptFrame] at nodes
  have passes (l r : List PointIdx) (before : i ∉ l) (behind : i ∉ r) (list : (s.sched g).list = l ++ i :: r) :
      passed ↔ (s.acceptFrame p).passes g i := by
    rw [passed_iff, passes_congr (sched_acceptFrame s p g) (link_acceptFrame s p g), State.passes, list,
      last_iff before behind]
  have answer := retirePoint_accepts (s := s.acceptFrame p) (p := p) length (by rwa [handleOk_acceptFrame])
    (by rw [hasGroup_acceptFrame, point_acceptFrame, ← point]; exact manages) e
  rw [← point, run] at answer
  refine ⟨t, _, command_answers takes answer, h.unlisted, h.unqueued, fun l r before behind list => ⟨u, v, ?_, ?_, ?_,
    fun j other => ?_, fun k other => ?_, fun q => ?_, ?_, ?_, h.sched, h.linked, h.kept, h.told⟩, fun k other => ?_,
    fun code q => ?_, fun serving => ?_, fun idle => ?_⟩
  · rw [h.left, sched_acceptFrame, retired_append before behind list]
  · rw [h.link, link_acceptFrame]
  · rw [h.trigs, trigs_acceptFrame]
  · rw [h.others j other, point_acceptFrame]
  · rw [h.nodes k (by rwa [point_acceptFrame]), node_acceptFrame]
  · rw [h.quiet, segNoteOf_acceptFrame]
  · exact fun stays => h.rests ((passes l r before behind list).not.mp stays)
  · exact fun due => h.goes ((passes l r before behind list).mp due)
  · have node := nodes k
    rwa [if_neg other] at node
  · obtain ⟨retired, demand, quality, changes, limits⟩ := cancelNote_kept (s.point i) q (s.noteOf q i)
    have note : served = true ∨ (∃ q, (s.point i).tells q = true ∨ s.named q i = true) := by
      by_contra neither
      obtain ⟨off, unknown⟩ := not_or.mp neither
      rw [life.2.2 (Bool.eq_false_iff.mpr off) ((known_or_unknown s i).resolve_left unknown)] at code
      exact code rfl
    have closed : byteOf (t.point i).life.retireCode = 2 ↔ served = false := by
      cases on : served with
      | true =>
        rw [life.1 on]
        exact iff_of_false (by decide) nofun
      | false =>
        rw [life.2.1 on (note.resolve_left (Bool.eq_false_iff.mp on))]
        exact iff_of_true rfl rfl
    rw [record.notes note q, closed, ← tells]
    have write := cancelNote_write (s.point i) q (s.noteOf q i)
    split
    · next told => exact ⟨write, iff_of_true rfl (.inr told), demand, quality, changes, limits⟩
    · next silent => exact ⟨write, by rw [retired, or_iff_left silent], demand, quality, changes, limits⟩
  · have on := serves.mpr serving
    have node := nodes (s.point i).node
    rw [if_pos rfl, on, ← n_eq] at node
    rw [life.1 on, record.served on]
    exact ⟨rfl, node, fun q => (get_retireSet_retiring _ q).trans (wrote_iff q).symm, rfl⟩
  · have off : served = false := Bool.eq_false_iff.mpr fun on => idle (serves.mp on)
    have node := nodes (s.point i).node
    have left : m = n.withdrawn served := by rw [m_eq, off]; rfl
    rw [if_pos rfl, ← n_eq, ← left] at node
    refine ⟨node, fun unknown => ?_, fun known => ?_⟩
    · have unknown (q : Port) : ¬ (s.point i).tells q = true ∧ s.named q i = false := by
        rw [tells]
        exact unknown q
      rw [life.2.2 off unknown, record.freed off unknown]
      exact ⟨rfl, rfl⟩
    · have known : ∃ q, (s.point i).tells q = true ∨ s.named q i = true := by
        simpa only [tells] using known
      rw [life.2.1 off known, record.closed off known]
      exact ⟨rfl, rfl⟩

end Sys2Proof
end

section
/-! PROOF. What the loss of a feed does to the exchange that it ends (R15, R63, R117, R120, R130): ABANDONED at a LIVE and
at a RETIRING target, with the feed no longer ON. -/

namespace Sys2Proof.Machine

section
variable {s t u : State} {g : Seg} {x : Exchange} {j k : PointIdx}

/-! ### The report -/

/-- From `s` to `t`, the outcome ABANDONED of an exchange of the segment has been reported to its tallies. -/
structure Reported (g : Seg) (x : Exchange) (s t : State) : Prop where
  points : t.points = s.points
  notes : ∀ p j, t.noteOf p j = s.noteOf p j
  seg : t.seg g = (s.seg g).tallied (outcomeEvents x .abandoned) (some x.node)
  segs : ∀ h, h ≠ g → t.seg h = s.seg h
  line : ∀ p h, (t.segNoteOf p h).line = (s.segNoteOf p h).line

theorem judged_abandoned (s : State) (g : Seg) (x : Exchange) : s.judged g x .abandoned = s.node g x.node :=
  judge_abandoned _ _

/-- The judgement changes no node, so nothing follows the report (R121). -/
theorem outcomeNode_abandoned (s : State) (g : Seg) (x : Exchange) :
    s.outcomeNode g x .abandoned [] = s.recorded g x .abandoned := by
  unfold State.outcomeNode State.recorded State.judged
  dsimp only
  rw [judge_abandoned]
  refine takeParts_eq_self (fun part t => ?_) _ _
  cases part <;> simp [State.judgeParts]

theorem reported_outcomeNode (s : State) (g : Seg) (x : Exchange) :
    Reported g x s (s.outcomeNode g x .abandoned []) := by
  rw [outcomeNode_abandoned]
  refine ⟨recorded_points s g x _, fun p j => noteOf_tally _ g _ _ p j, ?_, fun h other => ?_, fun p h => ?_⟩
  · rw [seg_recorded, judged_abandoned]
    exact congrArg (fun v => Segment.tallied { s.seg g with nodes := v } _ _) (Vector.set_getElem_self _)
  · exact (seg_tally_ne _ g _ _ other).trans ((seg_modSeg s g h _).trans (if_neg other))
  · refine (congrArg SegNote.line (segNoteOf_tally _ g _ _ p h)).trans ?_
    split
    · rfl
    · rfl

/-! ### The target -/

theorem outcomePoint_off (off : (s.feed g).state ≠ .on) (o : ExchangeOutcome) (v : Option Int) :
    s.outcomePoint g x o v = s.pointOutcome x o v := by
  cases gives : s.givesBack x o with
  | false => exact outcomePoint_rests gives v
  | true =>
    rw [outcomePoint_gives gives, offerAgain_of_not_powered]
    rw [(atPoint_pointOutcome s x o v).feed]
    exact off

/-- The exchange ends ABANDONED at a LIVE target: what comes back to the target, and the report. -/
theorem abandon_live (off : (s.feed g).state ≠ .on) (live : (s.point x.target).life = .live) :
    Reported g x (s.pointOutcome x .abandoned none) (s.abandon g (some x) .live) := by
  have report := reported_outcomeNode (s.pointOutcome x .abandoned none) g x
  have life : (((s.pointOutcome x .abandoned none).outcomeNode g x .abandoned []).point x.target).life = .live := by
    rw [State.point, report.points]
    exact (tells_pointOutcome s x .abandoned none).kept.life.trans live
  have applied : s.abandon g (some x) .live = (s.pointOutcome x .abandoned none).outcomeNode g x .abandoned [] := by
    refine (if_pos live).trans ?_
    rw [State.applyOutcome, outcomePoint_off off, State.outcomeClose, if_neg (by rw [life]; nofun)]
  rwa [applied]

/-- The exchange ends ABANDONED at a RETIRING target: its outcome, the report, then the closure. -/
theorem abandon_retiring_eq (retiring : (s.point x.target).life = .retiring) :
    s.abandon g (some x) .retiring =
      ((s.outcomeRetiring x.target .abandoned).outcomeNode g x .abandoned []).closePoint x.target := by
  have rests : s.givesBack x .abandoned = false := Bool.eq_false_iff.mpr fun gives => by
    have live := ((givesBack_iff s x _).mp gives).1
    rw [retiring] at live
    cases live
  have life : (((s.outcomeRetiring x.target .abandoned).outcomeNode g x .abandoned []).point x.target).life =
      .retiring := by
    rw [State.point, (reported_outcomeNode _ g x).points]
    refine Eq.trans (congrArg Point.life (point_outcomeRetiring s x.target .abandoned)) ?_
    exact retiring
  refine (if_pos retiring).trans ?_
  rw [State.applyOutcome, outcomePoint_rests rests, pointOutcome_retiring retiring, State.outcomeClose, if_pos life]

theorem abandon_retiring (retiring : (s.point x.target).life = .retiring) :
    ∃ n, Reported g x (s.outcomeRetiring x.target .abandoned) n ∧
      s.abandon g (some x) .retiring = n.closePoint x.target :=
  ⟨_, reported_outcomeNode _ g x, abandon_retiring_eq retiring⟩

theorem abandon_other {life : Life} (other : (s.point x.target).life ≠ life) : s.abandon g (some x) life = s :=
  if_neg other

end

end Sys2Proof.Machine
end

section
/-! PROOF. What the loss of a feed does to a LIVE point (R33, R40, R63): the parts of the blocks each change fields of
their own in the record and in its notes, so that their order does not matter. -/

namespace Sys2Proof.Machine

section
variable {s t u : State} {g : Seg} {x : Option Exchange} {j k : PointIdx} {wrote : Prop}

/-! ### The relation -/

/-- From `s` to `t`, the point is as it was or UNPOWERED. -/
def Darkens (j : PointIdx) (s t : State) : Prop :=
  ((t.point j).quality = (s.point j).quality ∧ ∀ p, (t.noteOf p j).quality = (s.noteOf p j).quality) ∨
    (t.point j).quality = .unpowered ∧ ∀ p, (t.noteOf p j).quality = ((s.noteOf p j).quality ||
      (decide ((s.point j).quality ≠ .unpowered) && ((s.point j).subs.get p).getLsbD 2))

/-- A port's WRITE for the point when the value `f` in flight has come back, by the record before (R63). -/
def Point.backWrite (r : Point) (f : Slot) (p : Port) (old : Option (WriteResult × Writer)) :
    Option (WriteResult × Writer) :=
  if r.failed = 0 ∧ (r.slot.getD f).writer = .port p then some (.delayed, .port p)
  else if r.slot.isSome = true ∧ f.writer = .port p then some (.superseded, .port p)
  else old

/-- From `s` to `t`, the point's values are where they were, or that in flight has come back. -/
def GivesBack (wrote : Prop) (j : PointIdx) (s t : State) : Prop :=
  ((t.point j).slot = (s.point j).slot ∧ (t.point j).inFlight = (s.point j).inFlight ∧
      (t.point j).failed = (s.point j).failed ∧ ∀ p, (t.noteOf p j).write = (s.noteOf p j).write) ∨
    wrote ∧ ∃ f, (s.point j).inFlight = some f ∧ (t.point j).inFlight = none ∧
      (t.point j).slot = some ((s.point j).slot.getD f) ∧ (t.point j).failed = min ((s.point j).failed + 1) 255 ∧
      ∀ p, (t.noteOf p j).write = (s.point j).backWrite f p (s.noteOf p j).write

/-- From `s` to `t`, the point's demanders are those it had, or have been told ABANDONED. -/
def TellsDemanders (j : PointIdx) (s t : State) : Prop :=
  ((t.point j).demanders = (s.point j).demanders ∧ ∀ p, (t.noteOf p j).demand = (s.noteOf p j).demand) ∨
    (t.point j).demanders = ⟨false, false⟩ ∧ ∀ p, (t.noteOf p j).demand =
      if (s.point j).demanders.get p = true then some .abandoned else (s.noteOf p j).demand

/-- From `s` to `t`, the LIVE point has lost what the loss of its segment's feed takes, in part or in whole. -/
structure Loses (wrote : Prop) (j : PointIdx) (s t : State) : Prop where
  rest : { t.point j with
    quality := (s.point j).quality, slot := (s.point j).slot, inFlight := (s.point j).inFlight
    failed := (s.point j).failed, demanders := (s.point j).demanders } = s.point j
  quality : Darkens j s t
  write : GivesBack wrote j s t
  demand : TellsDemanders j s t

theorem Loses.life (h : Loses wrote j s t) : (t.point j).life = (s.point j).life := by
  rw [← h.rest]

theorem Loses.subs (h : Loses wrote j s t) : (t.point j).subs = (s.point j).subs := by
  rw [← h.rest]

theorem loses_same (point : t.point j = s.point j) (notes : ∀ p, t.noteOf p j = s.noteOf p j) :
    Loses wrote j s t := by
  refine ⟨by rw [point], .inl ?_, .inl ?_, .inl ?_⟩
  · rw [point]
    exact ⟨rfl, fun p => by rw [notes]⟩
  · rw [point]
    exact ⟨rfl, rfl, rfl, fun p => by rw [notes]⟩
  · rw [point]
    exact ⟨rfl, fun p => by rw [notes]⟩

theorem Loses.refl (wrote : Prop) (j : PointIdx) (s : State) : Loses wrote j s s := loses_same rfl fun _ => rfl

theorem Darkens.trans (h : Darkens j s u) (l : Darkens j u t) (subs : (u.point j).subs = (s.point j).subs) :
    Darkens j s t := by
  rcases l with ⟨same, notes⟩ | ⟨dark, notes⟩
  · rcases h with ⟨same', notes'⟩ | ⟨dark', notes'⟩
    · exact .inl ⟨same.trans same', fun p => (notes p).trans (notes' p)⟩
    · exact .inr ⟨same.trans dark', fun p => (notes p).trans (notes' p)⟩
  · rw [subs] at notes
    rcases h with ⟨same', notes'⟩ | ⟨dark', notes'⟩
    · exact .inr ⟨dark, fun p => by rw [notes, notes', same']⟩
    · refine .inr ⟨dark, fun p => ?_⟩
      rw [notes, dark', notes', decide_eq_false (not_not_intro rfl), Bool.false_and, Bool.or_false]

theorem GivesBack.trans (h : GivesBack wrote j s u) (l : GivesBack wrote j u t) : GivesBack wrote j s t := by
  rcases h with ⟨slot, flight, failed, notes⟩ | ⟨due, f, flying, back, slot, failed, notes⟩
  · rcases l with ⟨slot', flight', failed', notes'⟩ | ⟨due, f, flying, back, slot', failed', notes'⟩
    · exact .inl ⟨slot'.trans slot, flight'.trans flight, failed'.trans failed, fun p => (notes' p).trans (notes p)⟩
    · rw [flight] at flying
      rw [slot] at slot'
      rw [failed] at failed'
      refine .inr ⟨due, f, flying, back, slot', failed', fun p => ?_⟩
      rw [notes', notes, Point.backWrite, Point.backWrite, slot, failed]
  · rcases l with ⟨slot', flight', failed', notes'⟩ | ⟨-, f', flying', -⟩
    · exact .inr ⟨due, f, flying, flight'.trans back, slot'.trans slot, failed'.trans failed,
        fun p => (notes' p).trans (notes p)⟩
    · rw [back] at flying'
      cases flying'

theorem TellsDemanders.trans (h : TellsDemanders j s u) (l : TellsDemanders j u t) : TellsDemanders j s t := by
  rcases h with ⟨same, notes⟩ | ⟨told, notes⟩
  · rcases l with ⟨same', notes'⟩ | ⟨told', notes'⟩
    · exact .inl ⟨same'.trans same, fun p => (notes' p).trans (notes p)⟩
    · exact .inr ⟨told', fun p => by rw [notes', notes, same]⟩
  · rcases l with ⟨same', notes'⟩ | ⟨told', notes'⟩
    · exact .inr ⟨same'.trans told, fun p => (notes' p).trans (notes p)⟩
    · refine .inr ⟨told', fun p => ?_⟩
      rw [notes', told, notes]
      cases p <;> rfl

theorem Loses.trans (h : Loses wrote j s u) (l : Loses wrote j u t) : Loses wrote j s t := by
  refine ⟨?_, h.quality.trans l.quality h.subs, h.write.trans l.write, h.demand.trans l.demand⟩
  have rest := congrArg (fun r : Point => { r with
    quality := (s.point j).quality, slot := (s.point j).slot, inFlight := (s.point j).inFlight
    failed := (s.point j).failed, demanders := (s.point j).demanders }) l.rest
  exact rest.trans h.rest

theorem loses_forPoints {op : PointIdx → State → State} (is : List PointIdx)
    (own : ∀ i t, (t.point j).life = .live → Loses wrote j t (op i t)) (live : (s.point j).life = .live) :
    Loses wrote j s (s.forPoints is op) := by
  induction is generalizing s with
  | nil => exact .refl wrote j s
  | cons i is ih =>
    have first := own i s live
    exact first.trans (ih (first.life.trans live))

/-! ### One change at one point -/

theorem AtPoint.loses (h : AtPoint k s t) (other : j ≠ k) : Loses wrote j s t :=
  loses_same (h.others j other) fun p => h.notes p j other

theorem Reported.loses {y : Exchange} (h : Reported g y s t) : Loses wrote j s t :=
  loses_same (by rw [State.point, h.points]; rfl) fun p => h.notes p j

theorem loses_unpowered (s : State) (k j : PointIdx) : Loses wrote j s (s.setQuality k .unpowered) := by
  by_cases same : j = k
  · subst same
    have point := point_setQuality_same s j .unpowered
    have note := noteOf_setQuality_same s j .unpowered
    refine ⟨by rw [point], .inr ⟨by rw [point], fun p => ?_⟩, .inl ?_, .inl ?_⟩
    · rw [note, get_subscribers]
      rfl
    · rw [point]
      exact ⟨rfl, rfl, rfl, fun p => by rw [note]; rfl⟩
    · rw [point]
      exact ⟨rfl, fun p => by rw [note]; rfl⟩
  · exact (atPoint_setQuality s k _).loses same

theorem loses_backTold (due : wrote) {f : Slot} (flight : (s.point j).inFlight = some f) :
    Loses wrote j s (s.backTold j f) := by
  have point := point_backTold_same s j f
  have note := noteOf_backTold_same s j f
  refine ⟨by rw [point], .inl ?_, .inr ⟨due, f, flight, ?_⟩, .inl ?_⟩
  · rw [point]
    exact ⟨rfl, fun p => by rw [note]⟩
  · rw [point]
    refine ⟨rfl, rfl, rfl, fun p => ?_⟩
    rw [note, Point.backWrite]
    dsimp only
    by_cases delayed : (s.point j).failed = 0 ∧ ((s.point j).slot.getD f).writer = .port p
    · rw [if_pos delayed, if_pos delayed, delayed.2]
    · rw [if_neg delayed, if_neg delayed]
      by_cases superseded : (s.point j).slot.isSome = true ∧ f.writer = .port p
      · rw [if_pos superseded, if_pos (superseded.imp_left Option.isSome_iff_ne_none.mp), superseded.2]
      · rw [if_neg superseded, if_neg fun both => superseded (both.imp_left Option.isSome_iff_ne_none.mpr)]
  · rw [point]
    exact ⟨rfl, fun p => by rw [note]⟩

theorem loses_tellDemanders (live : (s.point j).life = .live) (k : PointIdx) :
    Loses wrote j s (s.tellDemanders k .abandoned) := by
  by_cases same : j = k
  · subst same
    have point := point_tellDemanders live .abandoned j
    have note := fun p => noteOf_tellDemanders live .abandoned p j
    rw [if_pos rfl] at point
    simp only [true_and] at note
    refine ⟨by rw [point], .inl ?_, .inl ?_, .inr ?_⟩
    · rw [point]
      refine ⟨rfl, fun p => ?_⟩
      rw [note]
      split <;> rfl
    · rw [point]
      refine ⟨rfl, rfl, rfl, fun p => ?_⟩
      rw [note]
      split <;> rfl
    · rw [point]
      refine ⟨rfl, fun p => ?_⟩
      rw [note]
      split <;> rfl
  · exact (atPoint_tellDemanders s k _).loses same

/-! ### The abandoned exchange -/

theorem loses_abandon_live (off : (s.feed g).state ≠ .on)
    (due : ∀ y, x = some y → y.func = .write → y.target = j → wrote) : Loses wrote j s (s.abandon g x .live) := by
  cases x with
  | none => exact .refl wrote j s
  | some y =>
    by_cases live : (s.point y.target).life = .live
    · refine Loses.trans ?_ (abandon_live off live).loses
      by_cases same : j = y.target
      · cases write : y.func with
        | read =>
          rw [pointOutcome_failed_read (o := .abandoned) live write nofun nofun]
          exact .refl wrote j s
        | write =>
          rw [pointOutcome_failed_write (o := .abandoned) live write nofun nofun]
          cases flight : (s.point y.target).inFlight with
          | none => exact .refl wrote j s
          | some f =>
            change Loses wrote j s (s.backTold y.target f)
            rw [← same] at flight ⊢
            exact loses_backTold (due y rfl write same.symm) flight
      · exact (atPoint_pointOutcome s y .abandoned none).loses same
    · rw [abandon_other live]
      exact .refl wrote j s

theorem loses_abandon_retiring (live : (s.point j).life = .live) :
    Loses wrote j s (s.abandon g x .retiring) := by
  cases x with
  | none => exact .refl wrote j s
  | some y =>
    by_cases retiring : (s.point y.target).life = .retiring
    · obtain ⟨n, report, closes⟩ := abandon_retiring (g := g) retiring
      have other : j ≠ y.target := fun same => by
        rw [same, retiring] at live
        cases live
      rw [closes]
      have closed := closesPoint n y.target
      exact (((atPoint_outcomeRetiring s y.target .abandoned).loses other).trans report.loses).trans
        (loses_same (closed.others j other) fun p => closed.notes p j other)
    · rw [abandon_other retiring]
      exact .refl wrote j s

/-! ### The parts -/

theorem loses_pointLosesFeed (live : (s.point j).life = .live) (k : PointIdx) :
    Loses wrote j s (State.pointLosesFeed g x k s) := by
  unfold State.pointLosesFeed
  split
  · exact loses_unpowered s k j
  · exact loses_abandon_retiring live
  · exact .refl wrote j s

theorem loses_pointsLoseFeed (live : (s.point j).life = .live) (is : List PointIdx) :
    Loses wrote j s (s.forPoints is (State.pointLosesFeed g x)) :=
  loses_forPoints is (fun i _ live => loses_pointLosesFeed live i) live

theorem loses_feedPart {leaves notice : Seg → Bool} {ended : Seg → Option Exchange} {change : Option DevReason}
    (off : ∀ h, leaves h = true → (s.feed h).state ≠ .on) (live : (s.point j).life = .live)
    (due : ∀ h y, leaves h = true → ended h = some y → y.func = .write → y.target = j → wrote) (part : Part) :
    Loses wrote j s (State.feedPart leaves notice ended change part s) := by
  have where_due {b : Bool} {t : State} (h : b = true → Loses wrote j s t) :
      Loses wrote j s (if b then t else s) := by
    split
    · next left => exact h left
    · exact .refl wrote j s
  cases part with
  | monitor =>
    cases change with
    | none => exact .refl wrote j s
    | some r =>
      exact loses_same (((notices_raiseDev s .a r).trans (notices_raiseDev _ .b r)).point j) fun p =>
        (noteOf_raiseDev _ .b p j r).trans (noteOf_raiseDev s .a p j r)
  | feed h =>
    exact where_due fun _ => loses_same ((raiseSeg_noticesOnly s h .feed).point j) fun p => noteOf_raiseSeg s h j .feed p
  | link h =>
    refine where_due fun _ => ?_
    unfold State.linkLosesFeed
    dsimp only
    split
    · exact loses_same ((raiseSeg_noticesOnly s h .line).point j) fun p => noteOf_raiseSeg s h j .line p
    · exact loses_same rfl fun _ => rfl
  | sched h =>
    exact where_due fun _ => (loses_forPoints (op := fun i s => s.tellDemanders i .abandoned) _
      (fun i t live => loses_tellDemanders live i) live).trans (loses_same rfl fun _ => rfl)
  | points h => exact where_due fun _ => loses_pointsLoseFeed live _
  | slots h => exact where_due fun left => loses_abandon_live (off h left) fun y hy => due h y left hy
  | nodes h => exact where_due fun _ => loses_same rfl fun _ => rfl

end

end Sys2Proof.Machine
end

section
/-! PROOF. The parts of a feed event in turn (R33, R92, R117, R123): what each can touch, and the part by which alone a
given reading of the state changes. -/

namespace Sys2Proof.Machine

/-! ### Changes in turn -/

/-- Changes in turn, each at most once: a reading `f` that only the change `a` touches is the first state's before it and
the last state's behind it. -/
theorem foldl_at {α β : Type} {op : State → β → State} {I : State → Prop} {R : State → State → Prop} {f : State → α}
    {a : β} {l : List β} {s : State} (refl : ∀ t, R t t) (trans : ∀ t u v, R t u → R u v → R t v)
    (step : ∀ b ∈ l, ∀ t, I t → I (op t b) ∧ R t (op t b)) (idle : ∀ b ∈ l, b ≠ a → ∀ t, I t → f (op t b) = f t)
    (once : l.Nodup) (member : a ∈ l) (start : I s) :
    ∃ t, I t ∧ R s t ∧ f t = f s ∧ R (op t a) (l.foldl op s) ∧ f (l.foldl op s) = f (op t a) := by
  have pass (m : List β) (within : m ⊆ l) (out : a ∉ m) (t : State) (it : I t) :
      I (m.foldl op t) ∧ R t (m.foldl op t) ∧ f (m.foldl op t) = f t := by
    refine List.foldlRecOn (motive := fun u => I u ∧ R t u ∧ f u = f t) m op ⟨it, refl t, rfl⟩
      fun u ⟨iu, ru, fu⟩ b hb => ?_
    obtain ⟨ib, rb⟩ := step b (within hb) u iu
    exact ⟨ib, trans _ _ _ ru rb, (idle b (within hb) (fun same => out (same ▸ hb)) u iu).trans fu⟩
  obtain ⟨before, after, rfl⟩ := List.append_of_mem member
  have apart := List.nodup_append'.mp once
  have early : a ∉ before := fun inside => apart.2.2 inside List.mem_cons_self
  have late : a ∉ after := (List.nodup_cons.mp apart.2.1).1
  obtain ⟨it, rt, ft⟩ := pass before (List.subset_append_left _ _) early s start
  obtain ⟨ia, -⟩ := step a (List.mem_append_right _ List.mem_cons_self) _ it
  obtain ⟨-, ra, fa⟩ := pass after (fun b hb => List.mem_append_right _ (List.mem_cons_of_mem a hb)) late _ ia
  refine ⟨_, it, rt, ft, ?_, ?_⟩
  · rw [List.foldl_append, List.foldl_cons]
    exact ra
  · rw [List.foldl_append, List.foldl_cons]
    exact fa

/-- Changes in turn that keep a reading. -/
theorem foldl_keeps {α β : Type} {op : State → β → State} {I : State → Prop} {f : State → α} {l : List β} {s : State}
    (step : ∀ b ∈ l, ∀ t, I t → I (op t b) ∧ f (op t b) = f t) (start : I s) :
    I (l.foldl op s) ∧ f (l.foldl op s) = f s :=
  List.foldlRecOn (motive := fun u => I u ∧ f u = f s) l op ⟨start, rfl⟩ fun u ⟨iu, fu⟩ b hb =>
    ⟨(step b hb u iu).1, ((step b hb u iu).2).trans fu⟩

section
variable {s t u : State} {g h : Seg} {x : Option Exchange} {j k : PointIdx}

/-! ### What a part leaves -/

/-- No segment is exempt from change, and no law is assumed. -/
def anywhere : Scope := ⟨False, fun _ => True, fun _ => True, fun _ => True⟩

/-- From `s` to `t`, no feed and no mask has changed, the same points are LIVE, and a point in use has its place. -/
structure Dims (s t : State) : Prop where
  feed : ∀ h, t.feed h = s.feed h
  mask : ∀ p, (t.port p).segMask = (s.port p).segMask
  steady : Steady anywhere s t

theorem Dims.refl (s : State) : Dims s s := ⟨fun _ => rfl, fun _ => rfl, .refl s⟩

theorem Dims.trans (l : Dims s u) (m : Dims u t) : Dims s t :=
  ⟨fun h => (m.feed h).trans (l.feed h), fun p => (m.mask p).trans (l.mask p), l.steady.trans m.steady⟩

theorem Dims.live (l : Dims s t) (j : PointIdx) : (t.point j).life = .live ↔ (s.point j).life = .live := l.steady.live j

theorem Dims.place (l : Dims s t) (used : (t.point j).inUse) :
    (s.point j).inUse ∧ (t.point j).seg = (s.point j).seg ∧ (t.point j).node = (s.point j).node := l.steady.place j used

theorem dims_of {F L G : Seg → Prop} (touches : Touches F L G s t) (feed : ∀ h, ¬ F h) (steady : Steady anywhere s t) :
    Dims s t :=
  ⟨fun h => touches.feed h (feed h), fun p => segMask_of_bare (touches.ports p), steady⟩

theorem dims_pointLosesFeed (s : State) (g : Seg) (x : Option Exchange) (i : PointIdx) :
    Dims s (State.pointLosesFeed g x i s) :=
  dims_of (touches_pointLosesFeed (F := noSeg) (L := noSeg) (onlySeg_self g) x i s) (fun _ => id)
    (steady_pointLosesFeed trivial trivial trivial False.elim False.elim)

section
variable {leaves notice : Seg → Bool} {ended : Seg → Option Exchange} {change : Option DevReason}

theorem dims_feedPart (part : Part) (s : State) : Dims s (State.feedPart leaves notice ended change part s) :=
  dims_of (touches_feedParts leaves notice ended change [part] s) (fun _ => id)
    (steady_feedPart (fun _ _ => ⟨trivial, trivial, trivial⟩) False.elim False.elim part)

/-- Links change by their own parts, Schedulers and tallies by those of the Scheduler, the points and the slots. -/
theorem touches_feedPart_own (part : Part) (s : State) :
    Touches noSeg (fun k => part = .link k) (fun k => part = .sched k ∨ part = .points k ∨ part = .slots k) s
      (State.feedPart leaves notice ended change part s) := by
  have where_due {F L G : Seg → Prop} {b : Bool} {t : State} (touch : Touches F L G s t) :
      Touches F L G s (if b then t else s) := by
    split
    · exact touch
    · exact .refl F L G s
  cases part with
  | monitor =>
    cases change with
    | none => exact .refl _ _ _ s
    | some r => exact (touches_raiseDev s .a r).trans (touches_raiseDev _ .b r)
  | feed h => exact where_due (touches_raiseSeg s h _)
  | link h => exact where_due (touches_linkLosesFeed (L := fun k => Part.link h = .link k) rfl s)
  | sched h => exact where_due (touches_schedLosesFeed (.inl rfl) s)
  | points h => exact where_due (touches_pointsLoseFeed (.inr (.inl rfl)) s _)
  | slots h => exact where_due (touches_slotLosesFeed (.inr (.inr rfl)) s _)
  | nodes h => exact where_due (touches_nodesLoseFeed h s)

end

/-! ### The changes of which the point and slot parts consist -/

/-- From `s` to `t`, records have changed one at a time, outcomes of the segment have been reported, and records closed. -/
inductive Withers (h : Seg) : State → State → Prop
  | refl (s : State) : Withers h s s
  | point {s t u : State} (k : PointIdx) (one : AtPoint k s t) (rest : Withers h t u) : Withers h s u
  | report {s t u : State} (y : Exchange) (one : Reported h y s t) (rest : Withers h t u) : Withers h s u
  | close {s u : State} (k : PointIdx) (rest : Withers h (s.closePoint k) u) : Withers h s u

theorem Withers.trans (l : Withers h s t) (m : Withers h t u) : Withers h s u := by
  induction l with
  | refl => exact m
  | point k one _ ih => exact .point k one (ih m)
  | report y one _ ih => exact .report y one (ih m)
  | close k _ ih => exact .close k (ih m)

theorem withers_abandon_live (off : (s.feed g).state ≠ .on) : Withers g s (s.abandon g x .live) := by
  cases x with
  | none => exact .refl s
  | some y =>
    by_cases live : (s.point y.target).life = .live
    · exact .point y.target (atPoint_pointOutcome s y .abandoned none) (.report y (abandon_live off live) (.refl _))
    · rw [abandon_other live]
      exact .refl s

theorem withers_abandon_retiring : Withers g s (s.abandon g x .retiring) := by
  cases x with
  | none => exact .refl s
  | some y =>
    by_cases retiring : (s.point y.target).life = .retiring
    · obtain ⟨n, report, closes⟩ := abandon_retiring (g := g) retiring
      rw [closes]
      exact .point y.target (atPoint_outcomeRetiring s y.target .abandoned)
        (.report y report (.close y.target (.refl _)))
    · rw [abandon_other retiring]
      exact .refl s

theorem withers_pointLosesFeed (i : PointIdx) :
    Withers g s (State.pointLosesFeed g x i s) := by
  unfold State.pointLosesFeed
  split
  · exact .point i (atPoint_setQuality s i _) (.refl _)
  · exact withers_abandon_retiring
  · exact .refl s

theorem withers_pointsLoseFeed : Withers g s (s.pointsLoseFeed g x) :=
  List.foldlRecOn (motive := Withers g s) _ _ (.refl s) fun _ withers i _ => withers.trans (withers_pointLosesFeed i)

theorem Withers.sched (l : Withers h s t) (g : Seg) : t.sched g = s.sched g := by
  induction l with
  | refl => rfl
  | point k one _ ih => exact ih.trans (one.sched g)
  | @report s t u y one _ ih =>
    refine ih.trans ?_
    by_cases here : g = h
    · subst here
      exact (congrArg Segment.sched one.seg :)
    · exact congrArg Segment.sched (one.segs g here)
  | @close s u k _ ih =>
    obtain ⟨nodes, same⟩ := seg_of_closesPoint (closesPoint s k) g
    exact ih.trans (congrArg Segment.sched same :)

theorem Withers.line (l : Withers h s t) (p : Port) (g : Seg) :
    (t.segNoteOf p g).line = (s.segNoteOf p g).line := by
  induction l with
  | refl => rfl
  | point k one _ ih => exact ih.trans (by rw [one.segNotes])
  | report y one _ ih => exact ih.trans (one.line p g)
  | @close s u k _ ih => exact ih.trans (by rw [(closesPoint s k).segNotes])

/-- What holds of every node record of a segment, and of what a closure leaves of one. -/
theorem Withers.nodes {C : NodeIdx → NodeRec → Prop} (leave : ∀ n r, C n r → C n r.leave) (l : Withers h s t)
    (all : ∀ n, C n (s.node g n)) : ∀ n, C n (t.node g n) := by
  induction l with
  | refl => exact all
  | point k one _ ih => exact ih fun n => by rw [one.node]; exact all n
  | @report s t u y one _ ih =>
    refine ih fun n => ?_
    have same : t.node g n = s.node g n := by
      by_cases here : g = h
      · subst here
        exact (congrArg (fun v : Segment => v.nodes[n.val]) one.seg :)
      · exact congrArg (fun v : Segment => v.nodes[n.val]) (one.segs g here)
    rw [same]
    exact all n
  | @close s u k _ ih =>
    refine ih fun n => ?_
    have same : (s.closePoint k).node g n = (s.modNode (s.point k).seg (s.point k).node NodeRec.leave).node g n := by
      rw [State.node, State.seg, (closesPoint s k).segs]
      rfl
    rw [same, node_modNode]
    split
    · exact leave n _ (all n)
    · exact all n

end

end Sys2Proof.Machine
end

section
/-! PROOF. The segment that a feed has left without power (R33, R40, R92, R117, R123), reading by reading: each is settled
by one part, in whatever order the parts are taken. -/

namespace Sys2Proof.Machine

/-! ### The parts of a feed event (R141) -/

/-- What a feed event hands to the blocks: the segments that leave ON, the FEEDs that are due, the exchanges that were in
flight, what the monitor raises, and the parts in their order. -/
structure FeedTurn where
  leaves : Seg → Bool
  notice : Seg → Bool
  ended : Seg → Option Exchange
  change : Option DevReason
  parts : List Part

def FeedTurn.part (f : FeedTurn) : Part → State → State := State.feedPart f.leaves f.notice f.ended f.change

/-- The state behind the parts. -/
def FeedTurn.takes (f : FeedTurn) (s : State) : State := s.takeParts f.part f.parts

/-- The segments that leave ON have done so, and the parts of their blocks are due, each once. -/
structure FeedTurn.Sets (f : FeedTurn) (s : State) : Prop where
  once : f.parts.Nodup
  off : ∀ h, f.leaves h = true → (s.feed h).state ≠ .on
  due : ∀ h, f.leaves h = true → .link h ∈ f.parts ∧ .sched h ∈ f.parts ∧ .points h ∈ f.parts ∧ .slots h ∈ f.parts ∧
    .nodes h ∈ f.parts

section
variable {f : FeedTurn} {s t u : State} {g h : Seg} {j k : PointIdx} {x : Option Exchange}

theorem FeedTurn.dims (f : FeedTurn) (a : Part) (t : State) : Dims t (f.part a t) := dims_feedPart a t

/-- A reading that only one part touches. -/
theorem FeedTurn.Sets.at_part {α : Type} {R : State → State → Prop} {obs : State → α} {a : Part} (sets : f.Sets s)
    (refl : ∀ t, R t t) (trans : ∀ t u v, R t u → R u v → R t v) (step : ∀ b t, Dims s t → R t (f.part b t))
    (idle : ∀ b, b ≠ a → ∀ t, Dims s t → obs (f.part b t) = obs t) (member : a ∈ f.parts) :
    ∃ t, Dims s t ∧ R s t ∧ obs t = obs s ∧ R (f.part a t) (f.takes s) ∧ obs (f.takes s) = obs (f.part a t) :=
  foldl_at (I := Dims s) refl trans (fun b _ t dims => ⟨dims.trans (f.dims b t), step b t dims⟩)
    (fun b _ other t dims => idle b other t dims) sets.once member (.refl s)

/-- A reading that only one part touches, at the end. -/
theorem FeedTurn.Sets.reading {α : Type} {obs : State → α} {a : Part} (sets : f.Sets s)
    (idle : ∀ b, b ≠ a → ∀ t, Dims s t → obs (f.part b t) = obs t) (member : a ∈ f.parts) :
    ∃ t, Dims s t ∧ obs t = obs s ∧ obs (f.takes s) = obs (f.part a t) := by
  obtain ⟨t, dims, -, before, -, behind⟩ := sets.at_part (R := fun _ _ => True) (fun _ => trivial)
    (fun _ _ _ _ _ => trivial) (fun _ _ _ => trivial) idle member
  exact ⟨t, dims, before, behind⟩

/-- What each part keeps and one brings. -/
theorem FeedTurn.Sets.brings {P : State → Prop} {a : Part} (sets : f.Sets s)
    (keeps : ∀ b t, Dims s t → P t → P (f.part b t)) (member : a ∈ f.parts)
    (brings : ∀ t, Dims s t → P (f.part a t)) : P (f.takes s) := by
  obtain ⟨t, dims, -, -, keeps, -⟩ := sets.at_part (obs := fun _ => ()) (R := fun t u => P t → P u) (fun _ => id)
    (fun _ _ _ h k p => k (h p)) keeps (fun _ _ _ _ => rfl) member
  exact keeps (brings t dims)

theorem FeedTurn.Sets.off_at (sets : f.Sets s) (left : f.leaves g = true) (dims : Dims s t) : (t.feed g).state ≠ .on := by
  rw [dims.feed]
  exact sets.off g left

theorem FeedTurn.part_points (f : FeedTurn) (left : f.leaves g = true) (t : State) :
    f.part (.points g) t = t.pointsLoseFeed g (f.ended g) := if_pos left

theorem FeedTurn.part_slots (f : FeedTurn) (left : f.leaves g = true) (t : State) :
    f.part (.slots g) t = t.abandon g (f.ended g) .live := if_pos left

theorem FeedTurn.part_sched (f : FeedTurn) (left : f.leaves g = true) (t : State) :
    f.part (.sched g) t = t.schedLosesFeed g := if_pos left

theorem FeedTurn.part_nodes (f : FeedTurn) (left : f.leaves g = true) (t : State) :
    f.part (.nodes g) t = t.nodesLoseFeed g := if_pos left

theorem FeedTurn.part_link (f : FeedTurn) (left : f.leaves g = true) (t : State) :
    f.part (.link g) t = t.linkLosesFeed g := if_pos left

/-! ### The link (R117) -/

theorem FeedTurn.link_part (f : FeedTurn) {b : Part} (other : b ≠ .link g) (t : State) :
    (f.part b t).link g = t.link g :=
  (touches_feedPart_own b t).link g other

theorem link_linkLosesFeed (t : State) (g : Seg) : (t.linkLosesFeed g).link g = (t.link g).powerOff := by
  unfold State.linkLosesFeed
  rw [link_modLink_same]
  split
  · rw [(raiseSeg_noticesOnly t g .line).link]
  · rfl

theorem FeedTurn.Sets.link (sets : f.Sets s) (left : f.leaves g = true) :
    (f.takes s).link g = (s.link g).powerOff := by
  obtain ⟨t, -, before, behind⟩ := sets.reading (obs := fun t => t.link g) (a := .link g)
    (fun b other t _ => f.link_part other t) (sets.due g left).1
  rw [behind, f.part_link left, link_linkLosesFeed, before]

/-- LINE of the segment is the link part's (R117). -/
theorem FeedTurn.Sets.line_part (sets : f.Sets s) {b : Part} (other : b ≠ .link g) (dims : Dims s t) (p : Port) :
    ((f.part b t).segNoteOf p g).line = (t.segNoteOf p g).line := by
  unfold FeedTurn.part
  have raised (h : Seg) (r : SegReason) (away : h ≠ g ∨ ∀ n : SegNote, (n.add r).line = n.line) :
      ((t.raiseSeg h r).segNoteOf p g).line = (t.segNoteOf p g).line := by
    rw [segNoteOf_raiseSeg]
    split
    · next both => exact (away.resolve_left fun away => away both.1.symm) _
    · rfl
  have where_due {b : Bool} {u : State} (same : b = true → (u.segNoteOf p g).line = (t.segNoteOf p g).line) :
      ((if b then u else t).segNoteOf p g).line = (t.segNoteOf p g).line := by
    split
    · next left => exact same left
    · rfl
  cases b with
  | monitor =>
    cases f.change with
    | none => rfl
    | some r =>
      exact congrArg SegNote.line ((segNoteOf_raiseDev (t.raiseDev .a r) .b p g r).trans (segNoteOf_raiseDev t .a p g r))
  | feed h => exact where_due fun _ => raised h .feed (.inr fun _ => rfl)
  | link h =>
    refine where_due fun _ => ?_
    unfold State.linkLosesFeed
    dsimp only
    split
    · exact raised h .line (.inl fun same => other (same ▸ rfl))
    · rfl
  | sched h =>
    refine where_due fun _ => ?_
    exact (foldl_keeps (I := fun _ => True) (f := fun u => (u.segNoteOf p g).line) (fun i _ u _ =>
      ⟨trivial, by rw [(atPoint_tellDemanders u i .abandoned).segNotes]⟩) trivial).2
  | points h => exact where_due fun _ => withers_pointsLoseFeed.line p g
  | slots h => exact where_due fun left => (withers_abandon_live (sets.off_at left dims)).line p g
  | nodes h => exact where_due fun _ => rfl

theorem line_linkLosesFeed (t : State) (g : Seg) (p : Port) : ((t.linkLosesFeed g).segNoteOf p g).line =
    ((t.segNoteOf p g).line || (decide ((t.link g).state = .lineDown) && (t.port p).segMask.getLsbD 3)) := by
  unfold State.linkLosesFeed
  by_cases down : (t.link g).state = .lineDown
  · rw [if_pos down, decide_eq_true down, Bool.true_and]
    exact line_raised t g p
  · rw [if_neg down, decide_eq_false down, Bool.false_and, Bool.or_false]
    rfl

theorem FeedTurn.Sets.line (sets : f.Sets s) (left : f.leaves g = true) (p : Port) :
    ((f.takes s).segNoteOf p g).line = ((s.segNoteOf p g).line ||
      (decide ((s.link g).state = .lineDown) && (s.port p).segMask.getLsbD 3)) := by
  obtain ⟨t, dims, before, behind⟩ := sets.reading (obs := fun t => ((t.segNoteOf p g).line, t.link g)) (a := .link g)
    (fun b other t dims => Prod.ext (sets.line_part other dims p) (f.link_part other t)) (sets.due g left).1
  have line := congrArg Prod.fst behind
  obtain ⟨line_eq, link_eq⟩ := Prod.mk.inj before
  dsimp only at line
  rw [line, f.part_link left, line_linkLosesFeed, line_eq, link_eq, dims.mask]

/-! ### The Scheduler (R40, R92) -/

theorem FeedTurn.Sets.sched_part (sets : f.Sets s) {b : Part} (other : b ≠ .sched g) (dims : Dims s t) :
    (f.part b t).sched g = t.sched g := by
  have where_due {b : Bool} {u : State} (same : b = true → u.sched g = t.sched g) :
      (if b then u else t).sched g = t.sched g := by
    split
    · next left => exact same left
    · rfl
  cases b with
  | points h => exact where_due fun _ => withers_pointsLoseFeed.sched g
  | slots h => exact where_due fun left => (withers_abandon_live (sets.off_at left dims)).sched g
  | sched h =>
    exact (touches_feedPart_own (.sched h) t).sched g fun own => by
      rcases own with same | other | other
      · exact other same
      · cases other
      · cases other
  | monitor => exact (touches_feedPart_own .monitor t).sched g (by simp)
  | feed h => exact (touches_feedPart_own (.feed h) t).sched g (by simp)
  | link h => exact (touches_feedPart_own (.link h) t).sched g (by simp)
  | nodes h => exact (touches_feedPart_own (.nodes h) t).sched g (by simp)

theorem sched_schedLosesFeed (t : State) (g : Seg) : (t.schedLosesFeed g).sched g =
    ({ t.sched g with queue := [], backToBack := 0 } : Scheduler).feedLost := by
  have told : (t.forPoints (allPoints.filter fun i => ((t.sched g).entry i).isSome) fun i s =>
      s.tellDemanders i .abandoned).sched g = t.sched g :=
    (foldl_keeps (I := fun _ => True) (f := fun u => u.sched g) (fun i _ u _ =>
      ⟨trivial, (atPoint_tellDemanders u i .abandoned).sched g⟩) trivial).2
  unfold State.schedLosesFeed
  rw [sched_modSched_same, told]

theorem FeedTurn.Sets.sched (sets : f.Sets s) (left : f.leaves g = true) : (f.takes s).sched g =
    ({ s.sched g with queue := [], backToBack := 0 } : Scheduler).feedLost := by
  obtain ⟨t, -, before, behind⟩ := sets.reading (obs := fun t => t.sched g) (a := .sched g)
    (fun b other t dims => sets.sched_part other dims) (sets.due g left).2.1
  rw [behind, f.part_sched left, sched_schedLosesFeed, before]

/-! ### The nodes (R120, R123) -/

/-- The parts that touch no node record. -/
def sparesNodes : Part → Bool
  | .points _ => false
  | .slots _ => false
  | .nodes _ => false
  | _ => true

theorem FeedTurn.node_part (f : FeedTurn) {b : Part} (spares : sparesNodes b = true) (t : State) (g : Seg)
    (n : NodeIdx) : (f.part b t).node g n = t.node g n := by
  have where_due {b : Bool} {u : State} (same : u.node g n = t.node g n) :
      (if b then u else t).node g n = t.node g n := by
    split
    · exact same
    · rfl
  unfold FeedTurn.part
  cases b with
  | monitor =>
    cases f.change with
    | none => rfl
    | some r => exact ((notices_raiseDev t .a r).trans (notices_raiseDev _ .b r)).node g n
  | feed h => exact where_due ((raiseSeg_noticesOnly t h .feed).node g n)
  | link h =>
    refine where_due ?_
    unfold State.linkLosesFeed
    rw [node_modLink]
    split
    · exact (raiseSeg_noticesOnly t h .line).node g n
    · rfl
  | sched h =>
    refine where_due ?_
    unfold State.schedLosesFeed
    rw [node_modSched]
    exact (foldl_keeps (I := fun _ => True) (s := t) (f := fun u => u.node g n)
      (l := allPoints.filter fun i => ((t.sched h).entry i).isSome) (op := fun u i => u.tellDemanders i .abandoned)
      (fun i _ u _ => ⟨trivial, (atPoint_tellDemanders u i .abandoned).node g n⟩) trivial).2
  | points _ | slots _ | nodes _ => cases spares

theorem node_nodesLoseFeed (t : State) (g h : Seg) (n : NodeIdx) : (t.nodesLoseFeed h).node g n =
    if g = h then (t.node g n).feedLost else t.node g n := by
  by_cases here : g = h
  · subst here
    rw [State.nodesLoseFeed, node_mapNodes_same, if_pos rfl]
  · rw [if_neg here]
    exact congrArg (fun v : Segment => v.nodes[n.val]) ((seg_modSeg t h g _).trans (if_neg here))

/-- What a closure and the loss of the feed keep of every node record, all parts keep. -/
theorem FeedTurn.Sets.nodes_part {C : NodeIdx → NodeRec → Prop} (sets : f.Sets s) (leave : ∀ n r, C n r → C n r.leave)
    (lost : ∀ n r, C n r → C n r.feedLost) (b : Part) (dims : Dims s t) (all : ∀ n, C n (t.node g n)) :
    ∀ n, C n ((f.part b t).node g n) := by
  have where_due {b : Bool} {u : State} (same : b = true → ∀ n, C n (u.node g n)) :
      ∀ n, C n ((if b then u else t).node g n) := by
    split
    · next left => exact same left
    · exact all
  cases b with
  | points h => exact where_due fun _ => withers_pointsLoseFeed.nodes leave all
  | slots h => exact where_due fun left => (withers_abandon_live (sets.off_at left dims)).nodes leave all
  | nodes h =>
    refine where_due fun _ n => ?_
    rw [node_nodesLoseFeed]
    split
    · exact lost n _ (all n)
    · exact all n
  | monitor => exact fun n => f.node_part (b := .monitor) rfl t g n ▸ all n
  | feed h => exact fun n => f.node_part (b := .feed h) rfl t g n ▸ all n
  | link h => exact fun n => f.node_part (b := .link h) rfl t g n ▸ all n
  | sched h => exact fun n => f.node_part (b := .sched h) rfl t g n ▸ all n

/-- A referenced record is UNKNOWN. -/
def NodeRec.darkened (r : NodeRec) : Prop := r.refs ≠ 0 → r.state = .unknown ∧ r.failures = 0 ∧ r.probe = false

theorem darkened_leave {r : NodeRec} (dark : r.darkened) : r.leave.darkened := by
  unfold NodeRec.leave
  split
  · exact fun used => absurd rfl used
  · next many => exact fun _ => dark fun none => many (by rw [none]; exact Nat.zero_le 1)

theorem darkened_feedLost (r : NodeRec) : r.feedLost.darkened := by
  unfold NodeRec.feedLost
  split
  · next none => exact fun used => absurd none used
  · exact fun _ => ⟨rfl, rfl, rfl⟩

theorem FeedTurn.Sets.nodes (sets : f.Sets s) (left : f.leaves g = true) :
    ∀ n, ((f.takes s).node g n).darkened := by
  refine sets.brings (P := fun t => ∀ n, (t.node g n).darkened) (a := .nodes g) (fun b t dims =>
    sets.nodes_part (C := fun _ r => r.darkened) (fun _ _ => darkened_leave) (fun _ r _ => darkened_feedLost r) b dims)
    (sets.due g left).2.2.2.2 fun t _ n => ?_
  rw [f.part_nodes left, State.nodesLoseFeed, node_mapNodes_same]
  exact darkened_feedLost _

/-- A record whose count falls to 0 is IDLE. -/
theorem FeedTurn.Sets.idle (sets : f.Sets s) (g : Seg) (n : NodeIdx) (gone : ((f.takes s).node g n).refs = 0)
    (used : (s.node g n).refs ≠ 0) : (f.takes s).node g n = ⟨.idle, 0, 0, false⟩ := by
  have idle := (List.foldlRecOn (motive := fun t => Dims s t ∧
      ∀ n, (t.node g n).refs = 0 → (s.node g n).refs ≠ 0 → t.node g n = ⟨.idle, 0, 0, false⟩) f.parts
      (fun t b => f.part b t) ⟨.refl s, fun n none used => absurd none used⟩ fun t ⟨dims, all⟩ b _ =>
        ⟨dims.trans (f.dims b t), ?_⟩).2
  · exact idle n gone used
  · refine sets.nodes_part (C := fun n r => r.refs = 0 → (s.node g n).refs ≠ 0 → r = ⟨.idle, 0, 0, false⟩)
      (fun n r _ none _ => ?_) (fun n r kept none used => ?_) b dims all
    · unfold NodeRec.leave at none ⊢
      split
      · rfl
      · next many =>
        rw [if_neg many] at none
        exact absurd none (by dsimp only; omega)
    · unfold NodeRec.feedLost at none ⊢
      split
      · next zero => exact kept zero used
      · next some =>
        rw [if_neg some] at none
        exact absurd none some

end

end Sys2Proof.Machine
end

section
/-! PROOF. The points of a segment that a feed has left without power (R15, R33, R40, R63), in whatever order the parts are
taken. -/

namespace Sys2Proof.Machine

section
variable {f : FeedTurn} {s t u : State} {g h : Seg} {j k : PointIdx} {x : Exchange} {wrote : Prop}

/-! ### LIVE points -/

theorem Loses.flight_none (l : Loses wrote j s t) (empty : (s.point j).inFlight = none) :
    (t.point j).inFlight = none := by
  rcases l.write with ⟨-, same, -⟩ | ⟨-, f, flight, -⟩
  · exact same.trans empty
  · rw [empty] at flight
    cases flight

theorem Loses.demanders_none (l : Loses wrote j s t) (empty : (s.point j).demanders = ⟨false, false⟩) :
    (t.point j).demanders = ⟨false, false⟩ :=
  l.demand.elim (fun same => same.1.trans empty) And.left

theorem FeedTurn.Sets.loses_part (sets : f.Sets s) (live : (s.point j).life = .live)
    (due : ∀ h y, f.leaves h = true → f.ended h = some y → y.func = .write → y.target = j → wrote) (b : Part)
    (dims : Dims s t) : Loses wrote j t (f.part b t) :=
  loses_feedPart (fun _ left => sets.off_at left dims) ((dims.live j).mpr live) due b

theorem FeedTurn.Sets.loses (sets : f.Sets s) (live : (s.point j).life = .live)
    (due : ∀ h y, f.leaves h = true → f.ended h = some y → y.func = .write → y.target = j → wrote) :
    Loses wrote j s (f.takes s) :=
  (List.foldlRecOn (motive := fun t => Dims s t ∧ Loses wrote j s t) f.parts (fun t b => f.part b t)
    ⟨.refl s, .refl wrote j s⟩ fun t ⟨dims, loses⟩ b _ =>
      ⟨dims.trans (f.dims b t), loses.trans (sets.loses_part live due b dims)⟩).2

/-- A LIVE point of the segment is UNPOWERED (R33). -/
theorem FeedTurn.Sets.unpowered (sets : f.Sets s) (left : f.leaves g = true) (live : (s.point j).life = .live)
    (home : (s.point j).seg = g) : ((f.takes s).point j).quality = .unpowered := by
  have faded := feedParts_fade (leaves := f.leaves) (notice := f.notice) (ended := f.ended) (change := f.change)
    sets.off f.parts fun h left => by
      obtain ⟨link, sched, points, -⟩ := sets.due h left
      exact ⟨link, sched, points⟩
  have loses := sets.loses (wrote := True) live fun _ _ _ _ _ _ => trivial
  have seg : ((f.takes s).point j).seg = (s.point j).seg := by rw [← loses.rest]
  exact (faded.2 g left).2.2.2 j (loses.life.trans live) (seg.trans home)

/-- The abandoned WRITE has come back from a LIVE target (R63). -/
theorem FeedTurn.Sets.flight (sets : f.Sets s) (left : f.leaves g = true) (ended : f.ended g = some x)
    (write : x.func = .write) (live : (s.point x.target).life = .live) :
    ((f.takes s).point x.target).inFlight = none := by
  refine sets.brings (P := fun t => (t.point x.target).inFlight = none) (a := .slots g) (fun b t dims none =>
    (sets.loses_part (wrote := True) live (fun _ _ _ _ _ _ => trivial) b dims).flight_none none)
    (sets.due g left).2.2.2.1 fun t dims => ?_
  have live : (t.point x.target).life = .live := (dims.live _).mpr live
  rw [f.part_slots left, ended, State.point, (abandon_live (sets.off_at left dims) live).points]
  rw [pointOutcome_failed_write (o := .abandoned) live write nofun nofun]
  cases flight : (t.point x.target).inFlight with
  | none => exact flight
  | some v => exact congrArg Point.inFlight (point_backTold_same t x.target v)

/-- From `s` to `t`, where the point is LIVE. -/
def LosesLive (j : PointIdx) (s t : State) : Prop := (s.point j).life = .live → Loses True j s t

theorem LosesLive.trans (h : LosesLive j s u) (l : LosesLive j u t) : LosesLive j s t := fun live =>
  (h live).trans (l ((h live).life.trans live))

/-- A queued LIVE point's demanders have been told (R40). -/
theorem told_schedLosesFeed (live : (s.point j).life = .live) (queued : ((s.sched g).entry j).isSome = true) :
    ((s.schedLosesFeed g).point j).demanders = ⟨false, false⟩ := by
  obtain ⟨t, it, -, -, later, -⟩ := foldl_at (s := s) (I := fun t => (t.point j).life = .live) (R := LosesLive j)
    (f := fun _ => ()) (op := fun t i => t.tellDemanders i .abandoned) (a := j)
    (l := allPoints.filter fun i => ((s.sched g).entry i).isSome) (fun t _ => .refl True j t)
    (fun _ _ _ => LosesLive.trans) (fun i _ t live => by
      have loses : Loses True j t (t.tellDemanders i .abandoned) := loses_tellDemanders live i
      exact ⟨loses.life.trans live, fun _ => loses⟩)
    (fun _ _ _ _ _ => rfl) ((List.nodup_finRange 256).filter _)
    (List.mem_filter.mpr ⟨List.mem_finRange j, queued⟩) live
  have told : (t.tellDemanders j .abandoned).point j = { t.point j with demanders := ⟨false, false⟩ } :=
    (point_tellDemanders it .abandoned j).trans (if_pos rfl)
  exact (later (by rw [told]; exact it)).demanders_none (by rw [told])

theorem FeedTurn.Sets.demanders (sets : f.Sets s) (left : f.leaves g = true) {d : DemandEntry}
    (queued : d ∈ (s.sched g).queue) (live : (s.point d.point).life = .live) :
    ((f.takes s).point d.point).demanders = ⟨false, false⟩ := by
  obtain ⟨t, dims, -, before, later, -⟩ := sets.at_part (R := LosesLive d.point) (obs := fun t => t.sched g)
    (a := .sched g) (fun t _ => .refl True _ t) (fun _ _ _ => LosesLive.trans) (fun b t dims _ =>
      sets.loses_part live (fun _ _ _ _ _ _ => trivial) b dims) (fun b other t dims => sets.sched_part other dims)
    (sets.due g left).2.1
  have live : (t.point d.point).life = .live := (dims.live _).mpr live
  have entry : ((t.sched g).entry d.point).isSome = true := by
    rw [before, Scheduler.entry, List.find?_isSome]
    exact ⟨d, queued, decide_eq_true rfl⟩
  refine (later ((f.dims _ t).live _ |>.mpr live)).demanders_none ?_
  rw [f.part_sched left]
  exact told_schedLosesFeed live entry

/-! ### A RETIRING target (R15, R120) -/

/-- The records that the Point Table's part visits. -/
def State.faded (s : State) (g : Seg) (x : Option Exchange) : List PointIdx :=
  allPoints.filter fun i =>
    decide ((s.point i).life = .live ∧ (s.point i).seg = g) || decide (x.map Exchange.target = some i)

theorem nodup_faded (s : State) (g : Seg) (x : Option Exchange) : (s.faded g x).Nodup :=
  (List.nodup_finRange 256).filter _

theorem target_mem_faded (s : State) (g : Seg) (x : Exchange) : x.target ∈ s.faded g (some x) :=
  List.mem_filter.mpr ⟨List.mem_finRange _, by simp⟩

/-- A record visited is LIVE, or the target. -/
theorem mem_faded {x : Option Exchange} (listed : j ∈ s.faded g x) :
    (s.point j).life = .live ∨ x.map Exchange.target = some j := by
  have due := (List.mem_filter.mp listed).2
  rw [Bool.or_eq_true, decide_eq_true_iff, decide_eq_true_iff] at due
  exact due.imp_left And.left

theorem pointLosesFeed_live {x : Option Exchange} (live : (s.point j).life = .live) :
    State.pointLosesFeed g x j s = s.setQuality j .unpowered := by
  unfold State.pointLosesFeed
  rw [live]

theorem pointLosesFeed_retiring {x : Option Exchange} (retiring : (s.point j).life = .retiring) :
    State.pointLosesFeed g x j s = s.abandon g x .retiring := by
  unfold State.pointLosesFeed
  rw [retiring]

theorem pointLosesFeed_idle {x : Option Exchange} (idle : ¬ (s.point j).inUse) :
    State.pointLosesFeed g x j s = s := by
  obtain ⟨live, retiring⟩ := not_or.mp idle
  unfold State.pointLosesFeed
  cases life : (s.point j).life with
  | live => exact absurd life live
  | retiring => exact absurd life retiring
  | free | closed => rfl

theorem closed_pointsLoseFeed (idle : (s.point x.target).life ≠ .live) :
    ¬ ((s.pointsLoseFeed g (some x)).point x.target).inUse := by
  obtain ⟨t, it, -, -, later, -⟩ := foldl_at (s := s) (I := Dims s) (a := x.target) (l := s.faded g (some x))
    (R := fun t u => ¬ (t.point x.target).inUse → ¬ (u.point x.target).inUse) (f := fun _ => ())
    (op := fun t i => State.pointLosesFeed g (some x) i t) (fun _ => id) (fun _ _ _ h k c => k (h c))
    (fun i _ t dims => ⟨dims.trans (dims_pointLosesFeed t g _ i),
      mt fun used => ((dims_pointLosesFeed t g _ i).place used).1⟩)
    (fun _ _ _ _ _ => rfl) (nodup_faded s g _) (target_mem_faded s g x) (.refl s)
  refine later ?_
  by_cases retiring : (t.point x.target).life = .retiring
  · obtain ⟨n, -, closes⟩ := abandon_retiring (g := g) retiring
    rw [pointLosesFeed_retiring retiring, closes]
    exact (closePoint_reads n x.target).1
  · have idle : ¬ (t.point x.target).inUse := fun used =>
      used.elim (fun live => idle ((it.live _).mp live)) retiring
    rw [pointLosesFeed_idle idle]
    exact idle

theorem FeedTurn.Sets.closed (sets : f.Sets s) (left : f.leaves g = true) (ended : f.ended g = some x)
    (idle : (s.point x.target).life ≠ .live) : ¬ ((f.takes s).point x.target).inUse := by
  refine sets.brings (P := fun t => ¬ (t.point x.target).inUse) (a := .points g) (fun b t _ =>
    mt fun used => ((f.dims b t).place used).1) (sets.due g left).2.2.1 fun t dims => ?_
  rw [f.part_points left, ended]
  exact closed_pointsLoseFeed fun live => idle ((dims.live _).mp live)

end

end Sys2Proof.Machine
end

section
/-! PROOF. The counts of a segment that a feed has left without power (R120, R130): under the segment law the exchange that
has ended is that of the segment's own point, so its report and its closure are the only changes to them. -/

namespace Sys2Proof.Machine

section
variable {f : FeedTurn} {s t u : State} {g h : Seg} {k : PointIdx} {x : Exchange} {n : NodeIdx}

/-! ### The Point Table's part at the segments -/

theorem seg_pointLosesFeed {x : Option Exchange} {i : PointIdx} (rests : (s.point i).life ≠ .retiring) (h : Seg) :
    (State.pointLosesFeed g x i s).seg h = s.seg h := by
  by_cases live : (s.point i).life = .live
  · rw [pointLosesFeed_live live]
    exact (atPoint_setQuality s i _).seg h
  · rw [pointLosesFeed_idle (not_or.mpr ⟨live, rests⟩)]

/-- A point that is not RETIRING does not become so. -/
theorem Dims.not_retiring (dims : Dims s t) (rests : (s.point k).life ≠ .retiring) : (t.point k).life ≠ .retiring := by
  intro retiring
  rcases (dims.place (.inr retiring)).1 with live | same
  · have live := (dims.live k).mpr live
    rw [retiring] at live
    cases live
  · exact rests same

/-- Without a RETIRING target, no segment changes. -/
theorem seg_pointsLoseFeed {x : Option Exchange} (rests : ∀ y, x = some y → (s.point y.target).life ≠ .retiring)
    (h : Seg) : (s.pointsLoseFeed g x).seg h = s.seg h := by
  refine (foldl_keeps (I := Dims s) (s := s) (f := fun u => u.seg h) (l := s.faded g x)
    (op := fun t i => State.pointLosesFeed g x i t) (fun i listed t dims =>
      ⟨dims.trans (dims_pointLosesFeed t g x i), seg_pointLosesFeed (dims.not_retiring ?_) h⟩) (.refl s)).2
  rcases mem_faded listed with live | target
  · rw [live]
    nofun
  · obtain ⟨y, same, rfl⟩ := Option.map_eq_some_iff.mp target
    exact rests y same

/-- With a RETIRING target at home, the segment gets its report and its node's count falls. -/
theorem seg_pointsLoseFeed_retiring (retiring : (s.point x.target).life = .retiring)
    (home : (s.point x.target).seg = g) :
    ∃ v : State, v.seg g = (s.seg g).tallied (outcomeEvents x .abandoned) (some x.node) ∧
      (∀ h, h ≠ g → v.seg h = s.seg h) ∧ ∀ h, (s.pointsLoseFeed g (some x)).seg h = (v.modNode g (s.point x.target).node NodeRec.leave).seg h := by
  obtain ⟨t, it, -, before, -, behind⟩ := foldl_at (s := s) (I := Dims s) (R := fun _ _ => True) (a := x.target)
    (l := s.faded g (some x)) (f := fun u => (u.segs, u.point x.target))
    (op := fun t i => State.pointLosesFeed g (some x) i t) (fun _ => trivial) (fun _ _ _ _ _ => trivial)
    (fun i _ t dims => ⟨dims.trans (dims_pointLosesFeed t g _ i), trivial⟩)
    (fun i listed other t dims => by
      have live : (s.point i).life = .live := (mem_faded listed).resolve_right fun same =>
        other (Option.some_inj.mp same).symm
      rw [pointLosesFeed_live ((dims.live i).mpr live)]
      have one := atPoint_setQuality t i .unpowered
      exact Prod.ext one.segs (one.others _ (Ne.symm other)))
    (nodup_faded s g _) (target_mem_faded s g x) (.refl s)
  obtain ⟨segs, point⟩ := Prod.mk.inj before
  have seg (h : Seg) : t.seg h = s.seg h := by rw [State.seg, segs]; rfl
  obtain ⟨v, report, closes⟩ := abandon_retiring (g := g) (x := x) (by rw [point]; exact retiring)
  have own := atPoint_outcomeRetiring t x.target .abandoned
  refine ⟨v, by rw [report.seg, own.seg, seg], fun h other => by rw [report.segs h other, own.seg, seg], fun h => ?_⟩
  have target : (v.point x.target).seg = g ∧ (v.point x.target).node = (s.point x.target).node := by
    have same : v.point x.target = { t.point x.target with inFlight := none } := by
      rw [State.point, report.points]
      exact point_outcomeRetiring t x.target .abandoned
    rw [same, point]
    exact ⟨home, rfl⟩
  have whole : (s.pointsLoseFeed g (some x)).segs = (v.closePoint x.target).segs := by
    have same := congrArg Prod.fst behind
    rw [pointLosesFeed_retiring (by rw [point]; exact retiring), closes] at same
    exact same
  rw [State.seg, whole, (closesPoint v x.target).segs, target.1, target.2]
  rfl

/-! ### The node's count (R120) -/

/-- The exchanges that have ended are aimed at their own segments and nodes. -/
def FeedTurn.Aims (f : FeedTurn) (s : State) : Prop :=
  ∀ h y, f.leaves h = true → f.ended h = some y → Aimed s h y

theorem Dims.aimed {y : Exchange} (dims : Dims s t) (aimed : Aimed s h y) : Aimed t h y := fun used => by
  obtain ⟨before, seg, node⟩ := dims.place used
  rw [seg, node]
  exact aimed before

theorem FeedTurn.Sets.refs_part (sets : f.Sets s) (aims : f.Aims s) {b : Part} (other : b ≠ .points g) (dims : Dims s t) :
    ((f.part b t).node g n).refs = (t.node g n).refs := by
  have where_due {b : Bool} {u : State} (same : b = true → (u.node g n).refs = (t.node g n).refs) :
      ((if b then u else t).node g n).refs = (t.node g n).refs := by
    split
    · next left => exact same left
    · rfl
  cases b with
  | points h =>
    refine where_due fun left => ?_
    have away : g ≠ h := fun same => other (same ▸ rfl)
    refine congrArg (fun v : Segment => v.nodes[n.val].refs) (?_ : (t.pointsLoseFeed h (f.ended h)).seg g = t.seg g)
    by_cases closes : ∃ y, f.ended h = some y ∧ (t.point y.target).life = .retiring
    · obtain ⟨y, ended, retiring⟩ := closes
      obtain ⟨v, -, others, whole⟩ := seg_pointsLoseFeed_retiring retiring
        (dims.aimed (aims h y left ended) (.inr retiring)).1
      rw [ended, whole, State.modNode, seg_modSeg, if_neg away, others g away]
    · exact seg_pointsLoseFeed (fun y ended retiring => closes ⟨y, ended, retiring⟩) g
  | slots h =>
    refine where_due fun left => ?_
    have off := sets.off_at left dims
    cases f.ended h with
    | none => rfl
    | some y =>
      change ((t.abandon h (some y) .live).node g n).refs = _
      by_cases live : (t.point y.target).life = .live
      · have report := abandon_live off live
        have own := atPoint_pointOutcome t y .abandoned none
        rw [← own.node g n]
        by_cases here : g = h
        · subst here
          exact (congrArg (fun v : Segment => v.nodes[n.val].refs) report.seg :)
        · exact (congrArg (fun v : Segment => v.nodes[n.val].refs) (report.segs g here) :)
      · rw [abandon_other live]
  | nodes h =>
    refine where_due fun _ => ?_
    rw [node_nodesLoseFeed]
    split
    · unfold NodeRec.feedLost
      split
      · rfl
      · rfl
    · rfl
  | monitor => rw [f.node_part (b := .monitor) rfl]
  | feed h => rw [f.node_part (b := .feed h) rfl]
  | link h => rw [f.node_part (b := .link h) rfl]
  | sched h => rw [f.node_part (b := .sched h) rfl]

/-- A RETIRING target's record is touched by the Point Table's part of its own segment alone. -/
theorem FeedTurn.Sets.point_part (sets : f.Sets s) (aims : f.Aims s) (retiring : (s.point k).life = .retiring)
    (home : (s.point k).seg = g) {b : Part} (other : b ≠ .points g) (dims : Dims s t) :
    (f.part b t).point k = t.point k := by
  have idle : (t.point k).life ≠ .live := fun live => by
    rw [(dims.live k).mp live] at retiring
    cases retiring
  have where_due {b : Bool} {u : State} (same : b = true → u.point k = t.point k) :
      (if b then u else t).point k = t.point k := by
    split
    · next left => exact same left
    · rfl
  cases b with
  | monitor =>
    unfold FeedTurn.part
    cases f.change with
    | none => rfl
    | some r => exact ((notices_raiseDev t .a r).trans (notices_raiseDev _ .b r)).point k
  | feed h => exact where_due fun _ => (raiseSeg_noticesOnly t h .feed).point k
  | link h =>
    refine where_due fun _ => ?_
    unfold State.linkLosesFeed
    dsimp only
    split
    · exact (raiseSeg_noticesOnly t h .line).point k
    · rfl
  | sched h =>
    refine where_due fun _ => ?_
    refine (foldl_keeps (I := fun u => (u.point k).life ≠ .live) (s := t) (f := fun u => u.point k)
      (l := allPoints.filter fun i => ((t.sched h).entry i).isSome) (op := fun u i => u.tellDemanders i .abandoned)
      (fun i _ u idle => ?_) idle).2
    have same : (u.tellDemanders i .abandoned).point k = u.point k := by
      by_cases at_k : k = i
      · subst at_k
        rw [tellDemanders_idle idle]
      · exact (atPoint_tellDemanders u i .abandoned).others k at_k
    exact ⟨by rw [same]; exact idle, same⟩
  | points h =>
    refine where_due fun left => ?_
    refine (foldl_keeps (I := Dims t) (s := t) (f := fun u => u.point k) (l := t.faded h (f.ended h))
      (op := fun u i => State.pointLosesFeed h (f.ended h) i u) (fun i _ u it => ?_) (.refl t)).2
    refine ⟨it.trans (dims_pointLosesFeed u h _ i), ?_⟩
    have idle : (u.point k).life ≠ .live := fun live => idle ((it.live k).mp live)
    by_cases live : (u.point i).life = .live
    · rw [pointLosesFeed_live live]
      exact (atPoint_setQuality u i _).others k fun same => idle (same ▸ live)
    by_cases closes : (u.point i).life = .retiring
    · rw [pointLosesFeed_retiring closes]
      cases ended : f.ended h with
      | none => rfl
      | some y =>
        by_cases target : (u.point y.target).life = .retiring
        · have away : k ≠ y.target := fun same => by
            have there := ((dims.trans it).aimed (aims h y left ended) (.inr target)).1
            have kept := ((dims.trans it).place (.inr target)).2.1
            rw [← same, home] at kept
            rw [← same, kept] at there
            exact other (there ▸ rfl)
          obtain ⟨n, report, closed⟩ := abandon_retiring (g := h) target
          rw [closed, (closesPoint n y.target).others k away, State.point, report.points]
          exact (atPoint_outcomeRetiring u y.target .abandoned).others k away
        · rw [abandon_other target]
    · rw [pointLosesFeed_idle (not_or.mpr ⟨live, closes⟩)]
  | slots h =>
    refine where_due fun left => ?_
    have off := sets.off_at left dims
    cases f.ended h with
    | none => rfl
    | some y =>
      change (t.abandon h (some y) .live).point k = _
      by_cases live : (t.point y.target).life = .live
      · rw [State.point, (abandon_live off live).points]
        exact (atPoint_pointOutcome t y .abandoned none).others k fun same => idle (same ▸ live)
      · rw [abandon_other live]
  | nodes h => exact where_due fun _ => rfl

/-- The count of a node (R120): the closure of the RETIRING target lowers it, and nothing else. -/
theorem FeedTurn.Sets.refs (sets : f.Sets s) (aims : f.Aims s) (left : f.leaves g = true) (n : NodeIdx) :
    ((f.takes s).node g n).refs =
      if (f.ended g).any fun x => decide (x.node = n ∧ (s.point x.target).life = .retiring) then (s.node g n).refs - 1
      else (s.node g n).refs := by
  by_cases closes : ∃ x, f.ended g = some x ∧ (s.point x.target).life = .retiring
  · obtain ⟨x, ended, retiring⟩ := closes
    obtain ⟨home, node⟩ := aims g x left ended (.inr retiring)
    obtain ⟨t, dims, before, behind⟩ := sets.reading (a := .points g)
      (obs := fun t => ((t.node g n).refs, t.point x.target))
      (fun b other t dims => Prod.ext (sets.refs_part aims other dims) (sets.point_part aims retiring home other dims))
      (sets.due g left).2.2.1
    obtain ⟨refs, point⟩ := Prod.mk.inj before
    have behind := congrArg Prod.fst behind
    obtain ⟨v, own, -, whole⟩ := seg_pointsLoseFeed_retiring (g := g) (x := x) (by rw [point]; exact retiring)
      (by rw [point]; exact home)
    have final : ((f.part (.points g) t).node g n).refs = ((v.modNode g x.node NodeRec.leave).node g n).refs := by
      rw [f.part_points left, ended, State.node, whole, point, node]
      rfl
    have same : (v.node g n).refs = (s.node g n).refs :=
      (congrArg (fun w : Segment => w.nodes[n.val].refs) own).trans refs
    refine (behind.trans final).trans ?_
    rw [node_modNode, ended, Option.any_some]
    by_cases here : x.node = n
    · rw [if_pos ⟨rfl, here.symm⟩, leave_refs, same, if_pos (decide_eq_true ⟨here, retiring⟩)]
    · rw [if_neg fun both => here both.2.symm, same, if_neg fun due => here (of_decide_eq_true due).1]
  · have quiet : (f.ended g).any (fun x => decide (x.node = n ∧ (s.point x.target).life = .retiring)) = false := by
      rw [Bool.eq_false_iff, Ne, Option.any_eq_true]
      exact fun ⟨x, ended, due⟩ => closes ⟨x, ended, (of_decide_eq_true due).2⟩
    rw [quiet, if_neg nofun]
    refine (foldl_keeps (I := Dims s) (f := fun t => (t.node g n).refs) (op := fun t b => f.part b t) (l := f.parts)
      (fun b _ t dims => ⟨dims.trans (f.dims b t), ?_⟩) (.refl s)).2
    by_cases own : b = .points g
    · subst own
      rw [f.part_points left]
      refine congrArg (fun w : Segment => w.nodes[n.val].refs) (seg_pointsLoseFeed (fun y ended => ?_) g)
      exact dims.not_retiring fun retiring => closes ⟨y, ended, retiring⟩
    · exact sets.refs_part aims own dims

/-! ### The tallies (R130) -/

theorem FeedTurn.tally_part (f : FeedTurn) {b : Part} (points : b ≠ .points g) (slots : b ≠ .slots g) (t : State)
    (second : Bool) : ((f.part b t).seg g).tallyOf second = (t.seg g).tallyOf second := by
  by_cases own : b = .sched g
  · subst own
    have told (l : List PointIdx) : KeepsTallies g t (t.forPoints l fun i s => s.tellDemanders i .abandoned) :=
      List.foldlRecOn (motive := fun u => KeepsTallies g t u) l _ (.refl g t) fun u kept i _ =>
        kept.trans ((atPoint_tellDemanders u i .abandoned).keepsTallies g)
    cases left : f.leaves g with
    | true =>
      rw [f.part_sched left]
      exact ((told _).trans (keepsTallies_modSched _ g _)).counter second
    | false =>
      have rests : f.part (.sched g) t = t := if_neg (by rw [left]; nofun)
      rw [rests]
  · have touch : Touches noSeg _ _ t (f.part b t) := touches_feedPart_own b t
    have away : ¬ (b = .sched g ∨ b = .points g ∨ b = .slots g) := not_or.mpr ⟨own, not_or.mpr ⟨points, slots⟩⟩
    cases second with
    | false => exact touch.tally0 g away
    | true => exact touch.tally1 g away

theorem tally_pointsLoseFeed {x : Option Exchange} (rests : ∀ y, x = some y → (s.point y.target).life ≠ .retiring)
    (second : Bool) : ((s.pointsLoseFeed g x).seg g).tallyOf second = (s.seg g).tallyOf second := by
  rw [seg_pointsLoseFeed rests]

/-- The tallies (R130): the outcome ABANDONED of the exchange in flight is reported once. -/
theorem FeedTurn.Sets.tally (sets : f.Sets s) (aims : f.Aims s) (left : f.leaves g = true)
    (engaged : ∀ x, f.ended g = some x → (s.point x.target).inUse) (second : Bool) :
    ((f.takes s).seg g).tallyOf second = ((s.seg g).tallyOf second).after fun c =>
      (f.ended g).any fun x => c.counts (outcomeEvents x .abandoned) (some x.node) := by
  cases ended : f.ended g with
  | none =>
    refine (foldl_keeps (I := Dims s) (f := fun t => (t.seg g).tallyOf second) (op := fun t b => f.part b t)
      (l := f.parts) (fun b _ t dims => ⟨dims.trans (f.dims b t), ?_⟩) (.refl s)).2
    by_cases points : b = .points g
    · subst points
      rw [f.part_points left, ended]
      exact tally_pointsLoseFeed (x := none) (fun y same => by cases same) second
    by_cases slots : b = .slots g
    · subst slots
      rw [f.part_slots left, ended]
      rfl
    · exact f.tally_part points slots t second
  | some x =>
    rcases engaged x ended with live | retiring
    · obtain ⟨t, dims, before, behind⟩ := sets.reading (a := .slots g) (obs := fun t => (t.seg g).tallyOf second)
        (fun b slots t dims => by
          by_cases points : b = .points g
          · subst points
            rw [f.part_points left]
            refine tally_pointsLoseFeed (fun y same => dims.not_retiring ?_) second
            rw [ended] at same
            cases same
            rw [live]
            nofun
          · exact f.tally_part points slots t second)
        (sets.due g left).2.2.2.1
      have live : (t.point x.target).life = .live := (dims.live _).mpr live
      have own := atPoint_pointOutcome t x .abandoned none
      have report := (abandon_live (sets.off_at left dims) live).seg
      rw [own.seg] at report
      rw [behind, f.part_slots left, ended, report, ← before]
      cases second <;> rfl
    · obtain ⟨home, node⟩ := aims g x left ended (.inr retiring)
      obtain ⟨t, dims, before, behind⟩ := sets.reading (a := .points g)
        (obs := fun t => ((t.seg g).tallyOf second, t.point x.target))
        (fun b points t dims => Prod.ext (by
          by_cases slots : b = .slots g
          · subst slots
            have idle : (t.point x.target).life ≠ .live := fun live => by
              rw [(dims.live _).mp live] at retiring
              cases retiring
            dsimp only
            rw [f.part_slots left, ended, abandon_other idle]
          · exact f.tally_part points slots t second) (sets.point_part aims retiring home points dims))
        (sets.due g left).2.2.1
      obtain ⟨tally, point⟩ := Prod.mk.inj before
      have behind := congrArg Prod.fst behind
      obtain ⟨v, own, -, whole⟩ := seg_pointsLoseFeed_retiring (g := g) (x := x) (by rw [point]; exact retiring)
        (by rw [point]; exact home)
      have final : ((f.part (.points g) t).seg g).tallyOf second = (v.seg g).tallyOf second := by
        rw [f.part_points left, ended, whole, State.modNode, seg_modSeg, if_pos rfl]
        cases second <;> rfl
      refine (behind.trans final).trans ?_
      rw [own, ← tally]
      cases second <;> rfl

end

end Sys2Proof.Machine
end

section
/-! PROOF. What a feed that leaves ON puts into an empty attention list (R152): the points in ascending index order, from
the Scheduler's part and from the Point Table's. -/

namespace Sys2Proof.Machine

/-! ### The things of a list -/

/-- The things in a list once a reason has arrived for one (R152, R154). -/
def withThing (y : Thing) (l : List Thing) : List Thing := if y ∈ l then l else l ++ [y]

/-- The things of a port's list, in their order, as far as they are looked at. -/
def State.shown (s : State) (seen : Thing → Bool) (p : Port) : List Thing :=
  ((s.port p).attention.map Entry.thing).filter seen

theorem mem_withThing {x y : Thing} {l : List Thing} : x ∈ withThing y l ↔ x ∈ l ∨ x = y := by
  unfold withThing
  split
  · next listed => exact ⟨.inl, fun h => h.elim id fun same => same ▸ listed⟩
  · simp

theorem withThing_twice (y : Thing) (l : List Thing) : withThing y (withThing y l) = withThing y l :=
  if_pos (mem_withThing.mpr (.inr rfl))

theorem withThing_cons {x y : Thing} (apart : x ≠ y) (l : List Thing) : withThing x (y :: l) = y :: withThing x l := by
  unfold withThing
  by_cases listed : x ∈ l
  · rw [if_pos listed, if_pos (List.mem_cons_of_mem y listed)]
  · rw [if_neg listed, if_neg fun h => (List.mem_cons.mp h).elim apart listed, List.cons_append]

theorem map_mergeEntry {same : Entry → Bool} {add : Entry → Entry} {fresh : Entry} (l : List Entry)
    (hs : ∀ e, same e = true ↔ e.thing = fresh.thing) (ha : ∀ e, (add e).thing = e.thing) :
    (mergeEntry same add fresh l).map Entry.thing = withThing fresh.thing (l.map Entry.thing) := by
  induction l with
  | nil =>
    rw [mergeEntry, List.map_singleton, ha]
    rfl
  | cons e es ih =>
    rw [mergeEntry]
    by_cases here : same e = true
    · have listed : fresh.thing ∈ (e :: es).map Entry.thing := (hs e).mp here ▸ List.mem_cons_self
      rw [if_pos here, List.map_cons, ha, withThing, if_pos listed, List.map_cons]
    · rw [if_neg here, List.map_cons, ih, List.map_cons, withThing_cons fun h => here ((hs e).mpr h.symm)]

theorem thing_addPoint (r : PointReason) (e : Entry) : (e.addPoint r).thing = e.thing := by
  cases e with
  | point | segment | device => rfl

theorem thing_addSegment (r : SegReason) (e : Entry) : (e.addSegment r).thing = e.thing := by
  cases e with
  | point | segment | device => rfl

/-- A thing looked at takes its place. -/
theorem filter_withThing {seen : Thing → Bool} {y : Thing} (looked : seen y = true) (l : List Thing) :
    (withThing y l).filter seen = withThing y (l.filter seen) := by
  unfold withThing
  by_cases listed : y ∈ l
  · rw [if_pos listed, if_pos (List.mem_filter.mpr ⟨listed, looked⟩)]
  · rw [if_neg listed, if_neg fun h => listed (List.mem_filter.mp h).1, List.filter_append,
      List.filter_cons_of_pos looked, List.filter_nil]

/-- A thing not looked at does not show. -/
theorem filter_withThing_hidden {seen : Thing → Bool} {y : Thing} (hidden : seen y = false) (l : List Thing) :
    (withThing y l).filter seen = l.filter seen := by
  unfold withThing
  split
  · rfl
  · rw [List.filter_append, List.filter_cons_of_neg (by rw [hidden]; exact Bool.false_ne_true), List.filter_nil,
      List.append_nil]

/-! ### What a change at one point does to them -/

/-- Every point is looked at. -/
def Looks (seen : Thing → Bool) : Prop := ∀ i gen, seen (.point i gen) = true

/-- From `s` to `t`, the present use of the point has been named to the ports of `dst`. -/
def NamesTo (seen : Thing → Bool) (dst : PortSet) (k : PointIdx) (s t : State) : Prop :=
  ∀ p, t.shown seen p =
    if dst.get p = true then withThing (.point k (s.point k).generation) (s.shown seen p) else s.shown seen p

section
variable {s t u : State} {seen : Thing → Bool} {c d : PortSet} {g : Seg} {i j k : PointIdx} {x : Exchange}

theorem shown_congr {p : Port} (same : (t.port p).attention = (s.port p).attention) :
    t.shown seen p = s.shown seen p := by
  rw [State.shown, same]
  rfl

theorem names_noPorts (same : ∀ p, t.shown seen p = s.shown seen p) : NamesTo seen noPorts k s t := fun p => by
  cases p with
  | a | b => exact same _

/-- Naming again what has been named to as many ports changes nothing. -/
theorem NamesTo.absorb (h : NamesTo seen d k s u) (l : NamesTo seen c k u t)
    (generation : (u.point k).generation = (s.point k).generation) (within : ∀ p, d.get p = true → c.get p = true) :
    NamesTo seen c k s t := fun p => by
  rw [l p, h p, generation]
  by_cases first : d.get p = true
  · rw [if_pos (within p first), if_pos first, if_pos (within p first), withThing_twice]
  · rw [if_neg first]

theorem shown_notePoint (looks : Looks seen) (s : State) (p q : Port) (k : PointIdx) (r : PointReason) :
    (s.notePoint p k r).shown seen q =
      if q = p then withThing (.point k (s.point k).generation) (s.shown seen q) else s.shown seen q := by
  have list := attention_modPort s p q
    (mergeEntry (Entry.isPoint k (s.point k).generation) (Entry.addPoint r) (.point k (s.point k).generation .empty))
  by_cases here : q = p
  · rw [if_pos here] at list ⊢
    have map := map_mergeEntry (same := Entry.isPoint k (s.point k).generation) (add := Entry.addPoint r)
      (fresh := .point k (s.point k).generation .empty) (s.port q).attention
      (isPoint_iff_thing _ _) (thing_addPoint r)
    refine (congrArg (fun l => (l.map Entry.thing).filter seen) list).trans ?_
    refine (congrArg (List.filter seen) map).trans ?_
    exact filter_withThing (looks k _) _
  · rw [if_neg here] at list ⊢
    exact shown_congr list

theorem names_raisePoint (looks : Looks seen) (s : State) (k : PointIdx) (r : PointReason) (dst : PortSet) :
    NamesTo seen dst k s (s.raisePoint k r dst) := by
  obtain ⟨a, b⟩ := dst
  intro p
  unfold State.raisePoint
  cases a with
  | false =>
    cases b with
    | false => cases p <;> rfl
    | true =>
      refine (shown_notePoint looks s .b p k r).trans ?_
      cases p <;> rfl
  | true =>
    cases b with
    | false =>
      refine (shown_notePoint looks s .a p k r).trans ?_
      cases p <;> rfl
    | true =>
      refine (shown_notePoint looks (s.notePoint .a k r) .b p k r).trans ?_
      cases p with
      | a => exact shown_notePoint looks s .a .a k r
      | b => exact congrArg (withThing _) (shown_notePoint looks s .a .b k r)

/-! ### The changes of the two parts -/

theorem names_tellDemanders (looks : Looks seen) (live : (s.point k).life = .live) (o : DemandOutcome) :
    NamesTo seen (s.point k).demanders k s (s.tellDemanders k o) := by
  rw [State.tellDemanders, if_pos live]
  exact names_raisePoint looks s k _ _

theorem names_setQuality (looks : Looks seen) (s : State) (k : PointIdx) (q : Quality) :
    NamesTo seen (if (s.point k).quality = q then noPorts else (s.point k).subscribers 2) k s (s.setQuality k q) := by
  unfold State.setQuality
  split
  · exact names_noPorts fun _ => rfl
  · have named := names_raisePoint looks (s.modPoint k fun t => { t with quality := q }) k .quality
      ((s.point k).subscribers 2)
    intro p
    rw [named p, point_modPoint_same]
    rfl

/-- The ports to which the closure of the record is told (R16). -/
def Point.closers (r : Point) : PortSet := portUnion r.subscribed (portUnion r.demanders r.retireSet)

theorem names_closePoint (looks : Looks seen) (s : State) (k : PointIdx) :
    NamesTo seen (s.point k).closers k s (s.closePoint k) := by
  intro p
  refine (shown_congr ?_).trans (names_raisePoint looks
    (s.modNode (s.point k).seg (s.point k).node NodeRec.leave) k .retired (s.point k).closers p)
  exact congrArg PortUnit.attention ((closureTest_pointsOnly _ k).port p)

theorem shown_noteSeg (hidden : seen (.segment g) = false) (s : State) (p q : Port) (r : SegReason) :
    (s.noteSeg p g r).shown seen q = s.shown seen q := by
  unfold State.noteSeg
  split
  · have list := attention_modPort s p q (mergeEntry (Entry.isSegment g) (Entry.addSegment r) (.segment g .empty))
    by_cases here : q = p
    · rw [if_pos here] at list
      have map := map_mergeEntry (same := Entry.isSegment g) (add := Entry.addSegment r)
        (fresh := .segment g .empty) (s.port q).attention (isSegment_iff_thing g) (thing_addSegment r)
      refine (congrArg (fun l => (l.map Entry.thing).filter seen) list).trans ?_
      exact (congrArg (List.filter seen) map).trans (filter_withThing_hidden hidden _)
    · rw [if_neg here] at list
      exact shown_congr list
  · rfl

theorem shown_raiseSeg_if (hidden : seen (.segment g) = false) (s : State) (r : SegReason) (due : Bool) (p : Port) :
    (if due then s.raiseSeg g r else s).shown seen p = s.shown seen p := by
  split
  · exact (shown_noteSeg hidden _ .b p r).trans (shown_noteSeg hidden s .a p r)
  · rfl

theorem shown_outcomeNode (hidden : seen (.segment g) = false) (s : State) (x : Exchange) (p : Port) :
    (s.outcomeNode g x .abandoned []).shown seen p = s.shown seen p := by
  rw [outcomeNode_abandoned, State.recorded, tally_eq]
  exact (shown_raiseSeg_if hidden _ _ _ p).trans (shown_raiseSeg_if hidden _ _ _ p)

theorem names_outcomeRetiring (looks : Looks seen) (s : State) (k : PointIdx) (o : ExchangeOutcome) :
    ∃ d : PortSet, (∀ p, d.get p = true → (s.point k).retireSet.get p = true) ∧
      NamesTo seen d k s (s.outcomeRetiring k o) := by
  cases flight : (s.point k).inFlight with
  | none =>
    refine ⟨noPorts, fun p named => ?_, names_noPorts fun p => ?_⟩
    · cases p with
      | a | b => cases named
    · rw [outcomeRetiring_none flight]
  | some f =>
    refine ⟨⟨(writerPorts f.writer).a && (s.point k).retireSet.a, (writerPorts f.writer).b && (s.point k).retireSet.b⟩,
      fun p named => ?_, ?_⟩
    · rw [get_meet] at named
      exact (Bool.and_eq_true _ _ ▸ named).2
    · rw [outcomeRetiring_some flight]
      intro p
      refine (names_raisePoint looks (s.modPoint k fun t => { t with inFlight := none }) k _ _ p).trans ?_
      rw [point_modPoint_same]
      rfl

theorem names_abandon_retiring (looks : Looks seen) (hidden : seen (.segment g) = false)
    (retiring : (s.point x.target).life = .retiring) :
    NamesTo seen (s.point x.target).closers x.target s (s.abandon g (some x) .retiring) := by
  obtain ⟨d, within, told⟩ := names_outcomeRetiring looks s x.target .abandoned
  have point := point_outcomeRetiring s x.target .abandoned
  have report := reported_outcomeNode (s.outcomeRetiring x.target .abandoned) g x
  have reported : NamesTo seen d x.target s ((s.outcomeRetiring x.target .abandoned).outcomeNode g x .abandoned []) :=
    fun p => (shown_outcomeNode hidden _ x p).trans (told p)
  have same : ((s.outcomeRetiring x.target .abandoned).outcomeNode g x .abandoned []).point x.target =
      { s.point x.target with inFlight := none } := by
    rw [State.point, report.points]
    exact point
  have closed := names_closePoint looks ((s.outcomeRetiring x.target .abandoned).outcomeNode g x .abandoned []) x.target
  rw [same] at closed
  rw [abandon_retiring_eq retiring]
  refine reported.absorb closed (by rw [same]) fun p named => ?_
  rw [Point.closers, get_portUnion, get_portUnion, within p named, Bool.or_true, Bool.or_true]

/-! ### Points in turn -/

/-- Of points taken in turn, each once, the named ones stand behind what was there, in their order (R152). -/
theorem shown_forPoints {op : PointIdx → State → State} {dst : PointIdx → PortSet} (p : Port) (l : List PointIdx)
    (names : ∀ i ∈ l, ∀ t, t.point i = s.point i → NamesTo seen (dst i) i t (op i t))
    (others : ∀ i ∈ l, ∀ t, t.point i = s.point i → ∀ j, j ≠ i → (op i t).point j = t.point j)
    (once : l.Nodup) (start : ∀ i ∈ l, t.point i = s.point i)
    (fresh : ∀ i ∈ l, .point i (s.point i).generation ∉ t.shown seen p) :
    (t.forPoints l op).shown seen p = t.shown seen p ++
      (l.filter fun i => (dst i).get p).map fun i => .point i (s.point i).generation := by
  induction l generalizing t with
  | nil => exact (List.append_nil _).symm
  | cons i l ih =>
    have at_i := start i List.mem_cons_self
    obtain ⟨out, once⟩ := List.nodup_cons.mp once
    have apart {j : PointIdx} (listed : j ∈ l) : j ≠ i := fun same => out (same ▸ listed)
    have first := names i List.mem_cons_self t at_i p
    rw [at_i] at first
    have name : withThing (.point i (s.point i).generation) (t.shown seen p) =
        t.shown seen p ++ [.point i (s.point i).generation] := if_neg (fresh i List.mem_cons_self)
    rw [name] at first
    have rest := ih (t := op i t) (fun j listed => names j (List.mem_cons_of_mem i listed))
      (fun j listed => others j (List.mem_cons_of_mem i listed)) once
      (fun j listed => (others i List.mem_cons_self t at_i j (apart listed)).trans
        (start j (List.mem_cons_of_mem i listed)))
      (fun j listed inside => by
        rw [first] at inside
        refine fresh j (List.mem_cons_of_mem i listed) ?_
        split at inside
        · rcases List.mem_append.mp inside with before | same
          · exact before
          · exact absurd (Thing.point.inj (List.mem_singleton.mp same)).1 (apart listed)
        · exact inside)
    refine Eq.trans rest ?_
    rw [first]
    by_cases named : (dst i).get p = true
    · rw [if_pos named, List.filter_cons_of_pos (p := fun i => (dst i).get p) named, List.map_cons,
        List.append_assoc, List.singleton_append]
    · rw [if_neg named, List.filter_cons_of_neg (p := fun i => (dst i).get p) named]

/-- The same from an empty list. -/
theorem shown_forPoints_empty {op : PointIdx → State → State} {dst : PointIdx → PortSet} {p : Port}
    (empty : (s.port p).attention = []) {l : List PointIdx}
    (names : ∀ i ∈ l, ∀ t, t.point i = s.point i → NamesTo seen (dst i) i t (op i t))
    (others : ∀ i ∈ l, ∀ t, t.point i = s.point i → ∀ j, j ≠ i → (op i t).point j = t.point j) (once : l.Nodup) :
    (s.forPoints l op).shown seen p =
      (l.filter fun i => (dst i).get p).map fun i => .point i (s.point i).generation := by
  have none : s.shown seen p = [] := by
    rw [State.shown, empty]
    rfl
  have all := shown_forPoints (t := s) p l names others once (fun _ _ => rfl) fun i _ => by
    rw [none]
    exact List.not_mem_nil
  rwa [none, List.nil_append] at all

/-! ### The Scheduler's part (R40) -/

theorem things_schedLosesFeed {p : Port} (empty : (s.port p).attention = []) :
    ((s.schedLosesFeed g).port p).attention.map Entry.thing =
      ((List.finRange 256).filter fun j =>
        decide (∃ d ∈ (s.sched g).queue, d.point = j) && decide ((s.point j).life = .live) &&
          (s.point j).demanders.get p).map (fun j => .point j (s.point j).generation) := by
  have all := shown_forPoints_empty (seen := fun _ => true) (op := fun i t => t.tellDemanders i .abandoned)
    (dst := fun i => if (s.point i).life = .live then (s.point i).demanders else noPorts) empty
    (l := allPoints.filter fun i => ((s.sched g).entry i).isSome)
    (fun i _ t same => by
      by_cases live : (s.point i).life = .live
      · rw [if_pos live, ← same]
        exact names_tellDemanders (fun _ _ => rfl) (by rw [same]; exact live) _
      · rw [if_neg live, tellDemanders_idle (by rw [same]; exact live)]
        exact names_noPorts fun _ => rfl)
    (fun i _ t _ => (atPoint_tellDemanders t i .abandoned).others) ((List.nodup_finRange 256).filter _)
  have shown : ((s.schedLosesFeed g).port p).attention.map Entry.thing =
      (s.forPoints (allPoints.filter fun i => ((s.sched g).entry i).isSome) fun i s =>
        s.tellDemanders i .abandoned).shown (fun _ => true) p := (List.filter_true _).symm
  rw [shown, all, List.filter_filter]
  refine congrArg (List.map _) (List.filter_congr fun j _ => ?_)
  have queued : ((s.sched g).entry j).isSome = decide (∃ d ∈ (s.sched g).queue, d.point = j) := by
    rw [Bool.eq_iff_iff, decide_eq_true_iff, Scheduler.entry, List.find?_isSome]
    simp only [decide_eq_true_iff]
  rw [queued]
  by_cases live : (s.point j).life = .live
  · rw [if_pos live, decide_eq_true live, Bool.and_true, Bool.and_comm]
  · rw [if_neg live, decide_eq_false live, Bool.and_false, Bool.false_and]
    cases p <;> rfl

/-! ### The Point Table's part (R15, R33) -/

theorem get_closers (r : Point) (p : Port) :
    r.closers.get p = (decide (r.subs.get p ≠ 0) || r.demanders.get p || r.retireSet.get p) := by
  rw [Point.closers, get_portUnion, get_portUnion, Bool.or_assoc]
  cases p with
  | a | b => rfl

/-- The ports to which the loss of the feed names a record. -/
def Point.fadeNotice (r : Point) : PortSet :=
  match r.life with
  | .live => if r.quality = .unpowered then noPorts else r.subscribers 2
  | .retiring => r.closers
  | _ => noPorts

theorem get_fadeNotice (r : Point) (p : Port) : r.fadeNotice.get p =
    (decide (r.life = .live) && (decide (r.quality ≠ .unpowered) && (r.subs.get p).getLsbD 2) ||
      decide (r.life = .retiring) && (decide (r.subs.get p ≠ 0) || r.demanders.get p || r.retireSet.get p)) := by
  have none : noPorts.get p = false := by
    cases p with
    | a | b => rfl
  unfold Point.fadeNotice
  cases r.life with
  | live =>
    by_cases dark : r.quality = .unpowered
    · simp [dark, none]
    · simp [dark, get_subscribers]
  | retiring => simp [get_closers]
  | free | closed => simp [none]

theorem names_pointLosesFeed {y : Option Exchange} (looks : Looks seen) (hidden : seen (.segment g) = false)
    (listed : (s.point i).life = .live ∨ y.map Exchange.target = some i) :
    NamesTo seen (s.point i).fadeNotice i s (State.pointLosesFeed g y i s) ∧
      ∀ j, j ≠ i → (State.pointLosesFeed g y i s).point j = s.point j := by
  unfold Point.fadeNotice
  cases life : (s.point i).life with
  | live =>
    rw [pointLosesFeed_live life]
    exact ⟨names_setQuality looks s i _, (atPoint_setQuality s i _).others⟩
  | retiring =>
    obtain ⟨x, same, rfl⟩ := Option.map_eq_some_iff.mp (listed.resolve_left fun live => by
      rw [life] at live
      cases live)
    subst same
    obtain ⟨n, report, closes⟩ := abandon_retiring (g := g) life
    rw [pointLosesFeed_retiring life]
    refine ⟨names_abandon_retiring looks hidden life, fun j other => ?_⟩
    rw [closes, (closesPoint n x.target).others j other, State.point, report.points]
    exact (atPoint_outcomeRetiring s x.target .abandoned).others j other
  | free | closed =>
    rw [pointLosesFeed_idle (not_or.mpr (by rw [life]; exact ⟨nofun, nofun⟩))]
    exact ⟨names_noPorts fun _ => rfl, fun _ _ => rfl⟩

theorem things_pointsLoseFeed {y : Option Exchange} {p : Port} (empty : (s.port p).attention = []) :
    (((s.pointsLoseFeed g y).port p).attention.map Entry.thing).filter (fun z => decide (z ≠ .segment g)) =
      ((List.finRange 256).filter fun j =>
        decide ((s.point j).life = .live) &&
            (decide ((s.point j).seg = g) || y.any fun x => decide (x.target = j)) &&
            decide ((s.point j).quality ≠ .unpowered) && ((s.point j).subs.get p).getLsbD 2 ||
          decide ((s.point j).life = .retiring) && (y.any fun x => decide (x.target = j)) &&
            (decide ((s.point j).subs.get p ≠ 0) || (s.point j).demanders.get p ||
              (s.point j).retireSet.get p)).map (fun j => .point j (s.point j).generation) := by
  have step {i : PointIdx} (listed : i ∈ s.faded g y) {t : State} (same : t.point i = s.point i) :=
    names_pointLosesFeed (s := t) (g := g) (i := i) (y := y) (seen := fun z => decide (z ≠ .segment g))
      (fun _ _ => rfl) (decide_eq_false (not_not_intro rfl)) (by rw [same]; exact mem_faded listed)
  have all := shown_forPoints_empty (dst := fun i => (s.point i).fadeNotice) empty
    (fun i listed t same => same ▸ (step listed same).1) (fun i listed t same => (step listed same).2)
    (nodup_faded s g y)
  refine Eq.trans all ?_
  rw [State.faded, List.filter_filter]
  refine congrArg (List.map _) (List.filter_congr fun j _ => ?_)
  have target : decide (y.map Exchange.target = some j) = y.any fun x => decide (x.target = j) := by
    cases y <;> simp
  rw [target, get_fadeNotice]
  cases life : (s.point j).life with
  | live => simp [Bool.and_comm, Bool.and_assoc, Bool.and_left_comm]
  | retiring => simp [Bool.and_comm]
  | free | closed => simp

end

end Sys2Proof.Machine
end

section
/-! PROOF. The loss of a feed (R141): the three ways by which a feed leaves ON lead to one turn of the parts, and what a
turn leaves of the segment is read off reading by reading. -/

namespace Sys2Proof.Machine

section
variable {s t u v : State} {g h : Seg} {j : PointIdx} {x : Exchange} {f : FeedTurn}

/-! ### States that read alike -/

/-- `t` differs from `s` in feeds, levels and ports alone, and no list holds another note of a point or another LINE. -/
structure Reads (s t : State) : Prop where
  points : t.points = s.points
  seg : ∀ h, t.seg h = { s.seg h with feed := t.feed h }
  notes : ∀ p j, t.noteOf p j = s.noteOf p j
  line : ∀ p h, (t.segNoteOf p h).line = (s.segNoteOf p h).line

theorem Reads.point (r : Reads s t) (j : PointIdx) : t.point j = s.point j := by
  rw [State.point, r.points]
  rfl

theorem Reads.link (r : Reads s t) (h : Seg) : t.link h = s.link h := (congrArg Segment.link (r.seg h) :)

theorem Reads.sched (r : Reads s t) (h : Seg) : t.sched h = s.sched h := (congrArg Segment.sched (r.seg h) :)

theorem Reads.node (r : Reads s t) (h : Seg) (n : NodeIdx) : t.node h n = s.node h n :=
  (congrArg (fun w : Segment => w.nodes[n.val]) (r.seg h) :)

theorem Reads.tally (r : Reads s t) (h : Seg) (second : Bool) : (t.seg h).tallyOf second = (s.seg h).tallyOf second := by
  rw [r.seg h]
  cases second <;> rfl

theorem Reads.trans (r : Reads s u) (q : Reads u t) : Reads s t := by
  refine ⟨q.points.trans r.points, fun h => ?_, fun p j => (q.notes p j).trans (r.notes p j),
    fun p h => (q.line p h).trans (r.line p h)⟩
  rw [q.seg h, r.seg h]

theorem Reads.loses {wrote : Prop} (r : Reads s t) : Loses wrote j s t :=
  loses_same (r.point j) fun p => r.notes p j

theorem Calm.feed (c : Calm s t) (h : Seg) : t.feed h = s.feed h := by
  rw [State.feed, State.seg, c.segs]
  rfl

theorem Calm.reads (c : Calm s t) : Reads s t := by
  have point (j : PointIdx) : t.point j = s.point j := by
    rw [State.point, c.points]
    rfl
  refine ⟨c.points, fun h => ?_, fun p j => noteOf_congr (c.attention p) (by rw [point]), fun p h => ?_⟩
  · rw [c.feed, State.seg, c.segs]
    rfl
  · rw [segNoteOf_congr (c.attention p)]

theorem reads_acceptFrame (s : State) (p : Port) : Reads s (s.acceptFrame p) :=
  ⟨points_acceptFrame s p, fun h => by rw [seg_acceptFrame, feed_acceptFrame]; rfl, noteOf_acceptFrame s p,
    fun q h => by rw [segNoteOf_acceptFrame]⟩

theorem reads_modFeed (s : State) (h : Seg) (F : Feed → Feed) : Reads s (s.modFeed h F) :=
  ⟨rfl, fun k => by cases h <;> cases k <;> rfl, fun _ _ => rfl, fun _ _ => rfl⟩

/-! ### The turn -/

/-- From `s` to `t`, the segment's feed has left ON by the turn `f` of the parts, which begins in `u`. -/
structure Turned (s t : State) (g : Seg) (f : FeedTurn) (u : State) : Prop where
  before : Reads s u
  mask : ∀ p, (u.port p).segMask = (s.port p).segMask
  sets : f.Sets u
  left : f.leaves g = true
  ended : ∀ h, f.ended h = (s.link h).exchange
  after : Reads (f.takes u) t

theorem Turned.reads_before (r : Reads v s) (mask : ∀ p, (s.port p).segMask = (v.port p).segMask)
    (turn : Turned s t g f u) : Turned v t g f u :=
  ⟨r.trans turn.before, fun p => (turn.mask p).trans (mask p), turn.sets, turn.left,
    fun h => (turn.ended h).trans (by rw [r.link]), turn.after⟩

theorem Turned.reads_after (turn : Turned s v g f u) (r : Reads v t) : Turned s t g f u :=
  { turn with after := turn.after.trans r }

theorem mem_segParts (order : List Part) (g : Seg) : .link g ∈ arrange order (segParts g) ∧
    .sched g ∈ arrange order (segParts g) ∧ .points g ∈ arrange order (segParts g) ∧
    .slots g ∈ arrange order (segParts g) ∧ .nodes g ∈ arrange order (segParts g) := by
  simp [mem_arrange, segParts]

/-- A feed takes a state other than ON, and its segment's blocks take their parts: FEED_OFF and the trip (R135, R141). -/
theorem turned_feedLeaves {F : Feed → Feed} (off : ∀ d, (F d).state ≠ .on) (notice : Bool) (order : List Part)
    (on : (s.feed g).state = .on)
    (fell : (((s.modFeed h F).feedLeaves h (s.powered h) notice order).feed g).state ≠ .on) :
    ∃ f u, Turned s ((s.modFeed h F).feedLeaves h (s.powered h) notice order) g f u := by
  have same : h = g := by
    by_contra other
    refine fell ?_
    rw [State.feedLeaves, (touches_feedParts _ _ _ _ _ _).feed g id, feed_modFeed, if_neg (Ne.symm other)]
    exact on
  subst same
  have only {k : Seg} (left : (decide (k = h) && s.powered h) = true) : k = h :=
    of_decide_eq_true (Bool.and_eq_true_iff.mp left).1
  refine ⟨⟨fun k => decide (k = h) && s.powered h, fun k => decide (k = h) && notice, fun k => (s.link k).exchange, none,
    arrange order (segParts h)⟩, s.modFeed h F, reads_modFeed s h F, fun _ => rfl, ⟨?_, fun k left => ?_,
      fun k left => ?_⟩, ?_, fun _ => rfl, ?_⟩
  · exact nodup_arrange order (by simp [segParts])
  · rw [only left, feed_modFeed_same]
    exact off _
  · rw [only left]
    exact mem_segParts order h
  · exact Bool.and_eq_true_iff.mpr ⟨decide_eq_true rfl, decide_eq_true on⟩
  · have same : (s.modFeed h F).feedLeaves h (s.powered h) notice order = FeedTurn.takes
        ⟨fun k => decide (k = h) && s.powered h, fun k => decide (k = h) && notice, fun k => (s.link k).exchange, none,
          arrange order (segParts h)⟩ (s.modFeed h F) := by
      simp only [State.feedLeaves, link_modFeed]
      rfl
    rw [same]
    exact Calm.reads (.refl _)

/-- The same change at every feed. -/
theorem reads_mapFeeds_levels (s : State) (sl : SupplyLevel) (tl : TempLevel) (F : Feed → Feed) :
    Reads s (Seg.all.foldl (fun t g => t.modFeed g F) { s with supply := sl, temperature := tl }) :=
  ⟨rfl, fun h => by cases h <;> rfl, fun _ _ => rfl, fun _ _ => rfl⟩

/-- The monitor forces the feed off (R146). -/
theorem turned_monitorChange {sl : SupplyLevel} {tl : TempLevel} {r : DevReason} {order : List Part}
    (on : (s.feed g).state = .on) (fell : ((s.monitorChange sl tl r order).feed g).state ≠ .on) :
    ∃ f u, Turned s (s.monitorChange sl tl r order) g f u := by
  rw [feed_monitorChange] at fell
  have forced : (!s.held && holds sl tl && (s.feed g).forced) = true := by
    by_contra rests
    exact fell (Feed.monitored_on (Bool.eq_false_iff.mpr rests) on)
  refine ⟨⟨s.monitorLeaves sl tl, fun g => !s.held && holds sl tl && (s.feed g).forced, fun g => (s.link g).exchange,
    some r, arrange order (.monitor :: Seg.all.flatMap segParts)⟩, _, reads_mapFeeds_levels s sl tl
      (Feed.monitored (!s.held && holds sl tl) (s.held && !holds sl tl)), fun _ => rfl, ⟨?_, fun k left => ?_,
        fun k _ => ?_⟩, ?_, fun _ => rfl, ?_⟩
  · exact nodup_arrange order (by decide)
  · rw [(reads_mapFeeds _ _ k).1]
    exact Feed.monitored_not_on (Bool.and_eq_true_iff.mp left).1
  · simp only [mem_arrange]
    cases k with
    | s0 | s1 | s2 | s3 => decide
  · exact Bool.and_eq_true_iff.mpr ⟨forced, decide_eq_true on⟩
  · rw [monitorChange_eq]
    exact Calm.reads (.refl _)

/-! ### The events -/

theorem calm_or_answered {code tag : Byte} {p : Port} {ps : List Byte} {body : State → Answer}
    (next : command code p tag ps body s = .next t) : Calm s t ∨ Calm (body (s.acceptFrame p)).state t := by
  unfold command at next
  split at next
  · cases next
    exact .inl (.refl s)
  · cases next
    split
    · exact .inr (((calm_putReply _ p _).trans (calm_shiftOut _ p _)).trans (calm_selectRises _ p))
    · exact .inl (calm_selectRises s p)

theorem feedOff_state (p : Port) (ps : List Byte) (e : Env) (s : State) :
    (feedOff p ps e s).state = s ∨ ∃ h, (feedOff p ps e s).state = s.feedSwitchedOff h e.order := by
  unfold feedOff onSeg
  split
  · exact .inl rfl
  · split
    · exact .inl rfl
    · split
      · exact .inl rfl
      · exact .inr ⟨_, rfl⟩

/-- The events by which a feed may leave ON. -/
def FeedEvent (g : Seg) (i : Instr) : Prop :=
  (∃ p tag ps e, i = .feedOff p tag ps e) ∨ (∃ ticks low e, i = .feedTrip g ticks low e) ∨
    (∃ mv e, i = .supplyLevelChange mv e) ∨ ∃ mc e, i = .temperatureLevelChange mc e

theorem off_not_on (d : Feed) : ({ d.open .off with enable := false } : Feed).state ≠ .on := by
  nofun

theorem turned_feedOff {p : Port} {tag : Byte} {ps : List Byte} {e : Env} (on : (s.feed g).state = .on)
    (next : exec (.feedOff p tag ps e) s = .next t) (fell : (t.feed g).state ≠ .on) : ∃ f u, Turned s t g f u := by
  rw [exec_feedOff] at next
  rcases calm_or_answered next with calm | calm
  · exact absurd on (calm.feed g ▸ fell)
  rw [calm.feed] at fell
  rw [← feed_acceptFrame s p] at on
  rcases feedOff_state p ps e (s.acceptFrame p) with rests | ⟨h, switched⟩
  · rw [rests] at fell
    exact absurd on fell
  · rw [switched] at fell calm
    obtain ⟨f, u, turn⟩ := turned_feedLeaves off_not_on false e.order on fell
    exact ⟨f, u, (turn.reads_before (reads_acceptFrame s p) fun q => (acceptFrame_portKept s p q).segMask).reads_after
      calm.reads⟩

theorem trip_not_on (d : Feed) : d.trip.state ≠ .on := by
  unfold Feed.trip
  dsimp only
  split
  · nofun
  · nofun

theorem turned_feedTrip {ticks : Nat} {low : Bool} {e : Env} (awake : s.inReset = false) (on : (s.feed g).state = .on)
    (next : exec (.feedTrip h ticks low e) s = .next t) (fell : (t.feed g).state ≠ .on) :
    ∃ f u, Turned s t g f u := by
  have run := event_takes (body := fun s => if (s.feed h).tripDue ticks low then s.feedTrips h e.order else s) awake
  cases next.symm.trans run
  split at fell
  · next due =>
    rw [if_pos due]
    exact turned_feedLeaves trip_not_on true e.order on fell
  · exact absurd on fell

theorem turned_levelChange {i : Instr} {e : Env} {mv : Nat} {mc : Int} {sl : SupplyLevel} {tl : TempLevel}
    (awake : s.inReset = false) (on : (s.feed g).state = .on)
    (event : i = .supplyLevelChange mv e ∧ sl = s.supply.judge mv ∧ tl = s.temperature ∨
      i = .temperatureLevelChange mc e ∧ sl = s.supply ∧ tl = s.temperature.judge mc)
    (next : exec i s = .next t) (fell : (t.feed g).state ≠ .on) : ∃ f u, Turned s t g f u := by
  cases next.symm.trans (exec_levelChange awake event)
  split at fell
  · exact absurd on fell
  · next moved =>
    rw [if_neg moved]
    exact turned_monitorChange on fell

/-- Whatever takes a feed out of ON does so by one turn of the parts (R141). -/
theorem turned_of_exec {i : Instr} (awake : s.inReset = false) (on : (s.feed g).state = .on) (event : FeedEvent g i)
    (next : exec i s = .next t) (fell : (t.feed g).state ≠ .on) : ∃ f u, Turned s t g f u := by
  rcases event with ⟨p, tag, ps, e, rfl⟩ | ⟨ticks, low, e, rfl⟩ | ⟨mv, e, rfl⟩ | ⟨mc, e, rfl⟩
  · exact turned_feedOff on next fell
  · exact turned_feedTrip awake on next fell
  · exact turned_levelChange (mc := 0) awake on (.inl ⟨rfl, rfl, rfl⟩) next fell
  · exact turned_levelChange (mv := 0) awake on (.inr ⟨rfl, rfl, rfl⟩) next fell

end

end Sys2Proof.Machine
end

section
/-! PROOF. What a feed that leaves ON takes from its segment (R33, R40, R63, R92, R117, R120, R123, R130, R141, R152). -/

namespace Sys2Proof.Machine

section
variable {s t u : State} {g : Seg} {j : PointIdx} {x : Exchange} {v : Slot} {f : FeedTurn} {wrote : Prop}

/-! ### LIVE points -/

theorem Turned.loses (turn : Turned s t g f u) (live : (s.point j).life = .live)
    (due : ∀ h y, f.leaves h = true → (s.link h).exchange = some y → y.func = .write → y.target = j → wrote) :
    Loses wrote j s t := by
  have part : Loses wrote j u (f.takes u) := turn.sets.loses (by rw [turn.before.point]; exact live)
    fun h y left ended => due h y left (turn.ended h ▸ ended)
  exact (turn.before.loses.trans part).trans turn.after.loses

/-- Whatever may have come back. -/
theorem Turned.loses_any (turn : Turned s t g f u) (live : (s.point j).life = .live) : Loses True j s t :=
  turn.loses live fun _ _ _ _ _ _ => trivial

theorem Turned.unpowered (turn : Turned s t g f u) (live : (s.point j).life = .live) (home : (s.point j).seg = g) :
    (t.point j).quality = .unpowered := by
  rw [turn.after.point]
  exact turn.sets.unpowered turn.left (by rw [turn.before.point]; exact live) (by rw [turn.before.point]; exact home)

theorem Turned.point (turn : Turned s t g f u) (live : (s.point j).life = .live) (home : (s.point j).seg = g) :
    (t.point j).life = .live ∧ (t.point j).quality = .unpowered ∧ (t.point j).value = (s.point j).value ∧
      (t.point j).observed = (s.point j).observed ∧ (t.point j).age = (s.point j).age := by
  have loses := turn.loses_any live
  exact ⟨loses.life.trans live, turn.unpowered live home, (congrArg Point.value loses.rest :),
    (congrArg Point.observed loses.rest :), (congrArg Point.age loses.rest :)⟩

theorem Darkens.note (h : Darkens j s t) (dark : (t.point j).quality = .unpowered) (p : Port) :
    (t.noteOf p j).quality = ((s.noteOf p j).quality ||
      (decide ((s.point j).quality ≠ .unpowered) && ((s.point j).subs.get p).getLsbD 2)) := by
  rcases h with ⟨same, notes⟩ | ⟨-, notes⟩
  · rw [same] at dark
    rw [notes, decide_eq_false (not_not_intro dark), Bool.false_and, Bool.or_false]
  · exact notes p

theorem TellsDemanders.note (h : TellsDemanders j s t) (told : (t.point j).demanders = ⟨false, false⟩) {p : Port}
    (demands : (s.point j).demanders.get p = true) : (t.noteOf p j).demand = some .abandoned := by
  rcases h with ⟨same, -⟩ | ⟨-, notes⟩
  · rw [← same, told] at demands
    cases p with
    | a | b => cases demands
  · rw [notes, if_pos demands]

/-- The value in flight is back (R63). -/
theorem GivesBack.back (h : GivesBack wrote j s t) (flight : (s.point j).inFlight = some v)
    (back : (t.point j).inFlight = none) :
    (t.point j).slot = some ((s.point j).slot.getD v) ∧ (t.point j).failed = min ((s.point j).failed + 1) 255 ∧
      ∀ p, (t.noteOf p j).write = (s.point j).backWrite v p (s.noteOf p j).write := by
  rcases h with ⟨-, same, -⟩ | ⟨-, w, flying, -, slot, failed, notes⟩
  · rw [back, flight] at same
    cases same
  · cases flight.symm.trans flying
    exact ⟨slot, failed, notes⟩

/-- No value has come back. -/
theorem GivesBack.note (h : GivesBack wrote j s t) (rests : ¬ wrote) (p : Port) :
    (t.noteOf p j).write = (s.noteOf p j).write :=
  h.elim (fun ⟨_, _, _, notes⟩ => notes p) fun due => absurd due.1 rests

theorem Turned.demand (turn : Turned s t g f u) {d : DemandEntry} (queued : d ∈ (s.sched g).queue)
    (live : (s.point d.point).life = .live) :
    (t.point d.point).demanders = ⟨false, false⟩ ∧
      ∀ p, (s.point d.point).demanders.get p = true → (t.noteOf p d.point).demand = some .abandoned := by
  have told : (t.point d.point).demanders = ⟨false, false⟩ := by
    rw [turn.after.point]
    exact turn.sets.demanders turn.left (by rw [turn.before.sched]; exact queued)
      (by rw [turn.before.point]; exact live)
  exact ⟨told, fun p demands => (turn.loses_any live).demand.note told demands⟩

theorem Turned.write (turn : Turned s t g f u) (ended : (s.link g).exchange = some x) (write : x.func = .write)
    (live : (s.point x.target).life = .live) (flight : (s.point x.target).inFlight = some v) :
    (t.point x.target).inFlight = none ∧ (t.point x.target).slot = some ((s.point x.target).slot.getD v) ∧
      (t.point x.target).failed = min ((s.point x.target).failed + 1) 255 ∧
      ∀ p, (t.noteOf p x.target).write = (s.point x.target).backWrite v p (s.noteOf p x.target).write := by
  have back : (t.point x.target).inFlight = none := by
    rw [turn.after.point]
    exact turn.sets.flight turn.left (turn.ended g ▸ ended) write (by rw [turn.before.point]; exact live)
  exact ⟨back, (turn.loses_any live).write.back flight back⟩

/-- Under the law an exchange in flight is aimed at its own segment, so no other point is told WRITE. -/
theorem Turned.write_rests (turn : Turned s t g f u) (aims : AllAimed s) (live : (s.point j).life = .live)
    (home : (s.point j).seg = g)
    (other : ∀ y, (s.link g).exchange = some y → y.func = .write → y.target ≠ j) (p : Port) :
    (t.noteOf p j).write = (s.noteOf p j).write := by
  refine (turn.loses (wrote := False) live fun h y _ ended write target => ?_).write.note id p
  subst target
  have own : (s.point y.target).seg = h := (aims h y ended (.inl live)).1
  exact other y (home ▸ own ▸ ended) write rfl

/-! ### The segment -/

theorem Turned.link (turn : Turned s t g f u) : t.link g = (s.link g).powerOff := by
  rw [turn.after.link, turn.sets.link turn.left, turn.before.link]

theorem Turned.line (turn : Turned s t g f u) (p : Port) : (t.segNoteOf p g).line =
    ((s.segNoteOf p g).line || (decide ((s.link g).state = .lineDown) && (s.port p).segMask.getLsbD 3)) := by
  rw [turn.after.line, turn.sets.line turn.left, turn.before.line, turn.before.link, turn.mask]

theorem Turned.sched (turn : Turned s t g f u) : t.sched g =
    ({ s.sched g with queue := [], backToBack := 0 } : Scheduler).feedLost := by
  rw [turn.after.sched, turn.sets.sched turn.left, turn.before.sched]

theorem Turned.nodes (turn : Turned s t g f u) (n : NodeIdx) : (t.node g n).darkened := by
  rw [turn.after.node]
  exact turn.sets.nodes turn.left n

theorem Turned.closed (turn : Turned s t g f u) (ended : (s.link g).exchange = some x)
    (retiring : (s.point x.target).life = .retiring) :
    (t.point x.target).life = .closed ∨ (t.point x.target).life = .free := by
  have out : ¬ (t.point x.target).inUse := by
    rw [turn.after.point]
    refine turn.sets.closed turn.left (turn.ended g ▸ ended) ?_
    rw [turn.before.point, retiring]
    nofun
  obtain ⟨live, retiring⟩ := not_or.mp out
  cases life : (t.point x.target).life with
  | live => exact absurd life live
  | retiring => exact absurd life retiring
  | closed => exact .inl rfl
  | free => exact .inr rfl

theorem Turned.aims (turn : Turned s t g f u) (aims : AllAimed s) : f.Aims u := fun h y _ ended => by
  have aimed : Aimed s h y := aims h y (turn.ended h ▸ ended)
  unfold Aimed at aimed ⊢
  rwa [turn.before.point]

theorem Turned.refs (turn : Turned s t g f u) (aims : AllAimed s) (n : NodeIdx) : (t.node g n).refs =
    if (s.link g).exchange.any fun x => decide (x.node = n ∧ (s.point x.target).life = .retiring) then
      (s.node g n).refs - 1
    else (s.node g n).refs := by
  rw [turn.after.node, turn.sets.refs (turn.aims aims) turn.left, turn.ended, turn.before.node]
  simp only [turn.before.point]

theorem Turned.idle (turn : Turned s t g f u) (n : NodeIdx) (gone : (t.node g n).refs = 0)
    (used : (s.node g n).refs ≠ 0) : t.node g n = ⟨.idle, 0, 0, false⟩ := by
  rw [turn.after.node] at gone ⊢
  exact turn.sets.idle g n gone (by rw [turn.before.node]; exact used)

theorem Turned.tally (turn : Turned s t g f u) (aims : AllAimed s) (engaged : Engaged s g) (second : Bool) :
    (t.seg g).tallyOf second = ((s.seg g).tallyOf second).after fun c =>
      (s.link g).exchange.any fun x => c.counts (outcomeEvents x .abandoned) (some x.node) := by
  rw [turn.after.tally, turn.sets.tally (turn.aims aims) turn.left (fun y ended => ?_), turn.ended, turn.before.tally]
  rw [turn.before.point]
  exact engaged y (turn.ended g ▸ ended)

/-- Whether a counter counts the outcome ABANDONED of the exchange in flight (R130). -/
theorem counts_abandoned (c : Tally) (y : Option Exchange) :
    (y.any fun x => c.counts (outcomeEvents x .abandoned) (some x.node)) = true ↔
      c.event = .demandExchanges ∧ ∃ x, y = some x ∧ x.kind = .demand ∧ (c.filter = 0 ∨ c.filter = x.node.val + 1) := by
  rw [Option.any_eq_true]
  constructor
  · rintro ⟨x, ended, counted⟩
    obtain ⟨event, filter⟩ := (counts_iff c _ _).mp counted
    rcases (mem_outcomeEvents x .abandoned _).mp event with ⟨-, no⟩ | ⟨-, no⟩ | ⟨event, kind⟩ | ⟨-, no, -⟩
    · cases no
    · cases no
    · exact ⟨event, x, ended, kind, filter _ rfl⟩
    · cases no
  · rintro ⟨event, x, ended, kind, filter⟩
    refine ⟨x, ended, (counts_iff c _ _).mpr ⟨(mem_outcomeEvents x _ _).mpr (.inr (.inr (.inl ⟨event, kind⟩))), ?_⟩⟩
    rintro n same
    cases same
    exact filter

theorem Turned.tally_hit (turn : Turned s t g f u) (aims : AllAimed s) (engaged : Engaged s g) {hit : Tally → Bool}
    (counts : ∀ c, hit c = true ↔ c.event = .demandExchanges ∧ ∃ x, (s.link g).exchange = some x ∧ x.kind = .demand ∧
      (c.filter = 0 ∨ c.filter = x.node.val + 1)) (second : Bool) :
    (t.seg g).tallyOf second = ((s.seg g).tallyOf second).after hit := by
  have same : hit = fun c => (s.link g).exchange.any fun x => c.counts (outcomeEvents x .abandoned) (some x.node) :=
    funext fun c => Bool.eq_iff_iff.mpr ((counts c).trans (counts_abandoned c _).symm)
  rw [same]
  exact turn.tally aims engaged second

end

end Sys2Proof.Machine

namespace Sys2Proof
open Machine

/-- Settles O47: whatever takes the feed out of ON does so by one turn of the parts, each of which alone settles its
readings, in any order; the two lists of reasons are those of the Scheduler's and the Point Table's part. -/
theorem feedLoss : Obligations.FeedLoss := by
  intro s t g i awake on event next fell
  obtain ⟨f, u, turn⟩ := turned_of_exec awake on event next fell
  refine ⟨fun j live home => turn.point live home, turn.link, turn.line, ?_, fun n => turn.nodes n,
    fun p j live home => (turn.loses_any live).quality.note (turn.unpowered live home) p,
    fun d queued live => turn.demand queued live,
    fun x v ended write live flight => turn.write ended write live flight,
    fun law p j live home other => turn.write_rests ((segmentLaw_iff s).mp law).2.1 live home other p,
    fun x ended retiring => turn.closed ended retiring,
    fun law n => ⟨turn.refs ((segmentLaw_iff s).mp law).2.1 n, turn.idle n⟩, fun law hit counts => ?_,
    fun p empty => ⟨things_schedLosesFeed empty, things_pointsLoseFeed empty⟩⟩
  · rw [turn.sched]
    unfold Scheduler.feedLost
    dsimp only
    cases (s.sched g).scan with
    | stopped | waiting | running | finishing | stopping | haltedPower | haltedLine => rfl
  · obtain ⟨-, aims, engaged, -⟩ := (segmentLaw_iff s).mp law
    exact ⟨turn.tally_hit aims (engaged g) counts false, turn.tally_hit aims (engaged g) counts true⟩

end Sys2Proof
end
